-- ==== Sys2Proof/Word.lean ====
section
/-! DEFINITION. The words of the Mefilo 640 and the fixed sets of names its tables are indexed by. -/

namespace Sys2Proof

/-- A byte of a link frame, of the configuration memory or of a handle. -/
abbrev Byte := BitVec 8

/-- A 16-bit value: an RF register's content, a frequency number, an event value. -/
abbrev Half := BitVec 16

/-- A time of the timeline clock, in timeline units; it wraps (R1). -/
abbrev Time := BitVec 32

/-- The two subscriptions (R3). -/
inductive Sub where
  | A
  | B
  deriving DecidableEq, Repr

/-- The other subscription of A is B, and of B is A (R3). -/
def Sub.other : Sub → Sub
  | .A => .B
  | .B => .A

/-- The three host links: the stack port of a subscription, and the Application Port (R3). -/
inductive Port where
  | stack (x : Sub)
  | app
  deriving DecidableEq, Repr

/-- The four RF devices, numbered 0 to 3 (R5). -/
inductive Device where
  | transceiver
  | amplifier
  | antennaSwitch
  | frontEnd
  deriving DecidableEq, Repr

/-- The RF device numbers in rising order (R5). -/
def Device.all : List Device := [.transceiver, .amplifier, .antennaSwitch, .frontEnd]

/-- The number of an RF device (R5). -/
def Device.number : Device → Nat
  | .transceiver => 0
  | .amplifier => 1
  | .antennaSwitch => 2
  | .frontEnd => 3

/-- One value for each subscription. -/
structure Pair (α : Type) where
  a : α
  b : α
  deriving DecidableEq, Repr

def Pair.get {α : Type} (p : Pair α) : Sub → α
  | .A => p.a
  | .B => p.b

def Pair.set {α : Type} (p : Pair α) (x : Sub) (v : α) : Pair α :=
  match x with
  | .A => { p with a := v }
  | .B => { p with b := v }

/-- One value for each port. -/
structure Trio (α : Type) where
  a : α
  b : α
  p : α
  deriving DecidableEq, Repr

def Trio.get {α : Type} (t : Trio α) : Port → α
  | .stack .A => t.a
  | .stack .B => t.b
  | .app => t.p

def Trio.set {α : Type} (t : Trio α) (port : Port) (v : α) : Trio α :=
  match port with
  | .stack .A => { t with a := v }
  | .stack .B => { t with b := v }
  | .app => { t with p := v }

/-- One value for each RF device. -/
structure Quad (α : Type) where
  d0 : α
  d1 : α
  d2 : α
  d3 : α
  deriving DecidableEq, Repr

def Quad.get {α : Type} (q : Quad α) : Device → α
  | .transceiver => q.d0
  | .amplifier => q.d1
  | .antennaSwitch => q.d2
  | .frontEnd => q.d3

def Quad.set {α : Type} (q : Quad α) (d : Device) (v : α) : Quad α :=
  match d with
  | .transceiver => { q with d0 := v }
  | .amplifier => { q with d1 := v }
  | .antennaSwitch => { q with d2 := v }
  | .frontEnd => { q with d3 := v }

end Sys2Proof
end

