-- ==== Sys2Proof/Syntax.lean ====
section
/-! DEFINITION. The commands of the Mefilo 640: one constructor for each row of spec/opcode_table.json.

A request is the frame that carries it, on a port and with a sequence byte (R195), its payload fields as the frame
holds them (R219): a field the manual refuses when it names nothing (a class, a device, a subscription, an on/off
field, a result) is the raw byte; a yes/no field is a Bool. An event is what the clock, a pin, the transceiver, an
RF device or the configuration memory brings. -/

namespace Sys2Proof

/-- A handle as a frame carries it: an index and a generation (R4, R219). -/
structure Handle where
  index : Byte
  generation : Byte
  deriving DecidableEq, Repr

/-- A cell key: a frequency number and a cell identity (R5). -/
structure CellKey where
  frequency : Half
  identity : Half
  deriving DecidableEq, Repr

/-- The two battery lines (R159). -/
inductive BattLine where
  | warn
  | low
  deriving DecidableEq, Repr

/-- The levels of RFC_DAT, high true, at the two acknowledge slots of a control-bus transfer: a device acknowledges by
holding the line low (R220). -/
structure AckSlots where
  address : Bool
  data : Bool
  deriving DecidableEq, Repr

inductive Instr where
  -- Port links and events
  | fetch (port : Port) (seq : Byte)
  | eventRead (port : Port) (seq : Byte)
  | linkRead (port : Port) (seq : Byte)
  -- Subscriptions and supervision
  | attach (port : Port) (seq : Byte)
  | detach (port : Port) (seq : Byte)
  | statusRead (port : Port) (seq : Byte)
  | policySet (port : Port) (seq : Byte) (preferred credit : Byte) (refill limitA limitB : BitVec 32)
  -- Stored configuration and start-up
  | coordinatorReset (port : Port) (seq : Byte)
  | configRead (port : Port) (seq : Byte)
  -- The radio timeline
  | reserve (port : Port) (seq : Byte) (cls : Byte) (emergency : Bool) (desired : Time) (slack length frequency : Half)
      (band : Byte) (period : BitVec 32) (count : Half) (session : Option Handle) (cells : List CellKey)
  | withdraw (port : Port) (seq : Byte) (handle : Handle)
  | stage (port : Port) (seq : Byte) (handle : Handle) (device register : Byte) (value : Half)
  | reservationRead (port : Port) (seq : Byte) (handle : Handle)
  -- Calls and texts
  | voiceOpen (port : Port) (seq : Byte) (emergency : Bool)
  | voiceConnect (port : Port) (seq : Byte) (session : Handle) (period length : Half) (anchor : Time)
      (frequency : Half) (band : Byte)
  | voiceRelease (port : Port) (seq : Byte) (session : Handle)
  | textSubmit (port : Port) (seq : Byte) (segments : Byte) (length : Half) (urgent : Bool) (frequency : Half)
      (band : Byte)
  | segmentResult (port : Port) (seq : Byte) (session : Handle) (result : Byte)
  | textCancel (port : Port) (seq : Byte) (session : Handle)
  | sessionRead (port : Port) (seq : Byte) (session : Handle)
  -- Cell tables and measurement
  | cellSet (port : Port) (seq : Byte) (key : CellKey) (offset : Byte) (barred : Bool)
  | cellRemove (port : Port) (seq : Byte) (key : CellKey)
  | cellRead (port : Port) (seq : Byte) (sub slot : Byte)
  | filterSet (port : Port) (seq : Byte) (k : Byte) (stale : BitVec 32)
  | flagsRead (port : Port) (seq : Byte) (sub : Byte)
  -- Handover evaluation
  | servingSet (port : Port) (seq : Byte) (key : CellKey)
  | handoverDone (port : Port) (seq : Byte) (key : CellKey) (offset : Half)
  | handoverSet (port : Port) (seq : Byte) (hysteresis : Byte) (ttt : BitVec 32) (weak : Half) (hold : BitVec 32)
  -- Coverage loss and search
  | serviceLost (port : Port) (seq : Byte)
  | searchResult (port : Port) (seq : Byte) (result : Byte) (key : CellKey)
  | searchPlan (port : Port) (seq : Byte) (frequency : Half) (band : Byte)
  | searchRestart (port : Port) (seq : Byte) (sub : Byte)
  -- RF contexts and the control bus
  | rfWrite (port : Port) (seq : Byte) (device register : Byte) (value : Half)
  | rfRead (port : Port) (seq : Byte) (device register : Byte)
  | contextRead (port : Port) (seq : Byte) (sub entry : Byte)
  -- RF power, supply and sleep
  | timeRead (port : Port) (seq : Byte)
  | calibrate (port : Port) (seq : Byte) (step : Half)
  | sleepConsent (port : Port) (seq : Byte) (consent : Byte)
  | stayAwake (port : Port) (seq : Byte) (hold : Byte)
  -- events on the links; `received` is the bits shifted in, in order (R193)
  | linkTransactionBegin (port : Port)
  | linkTransactionEnd (port : Port) (received : List Bool)
  -- events of the timeline
  | preparationRequest
  | windowStart
  | windowEnd
  -- events of measurement, handover, search and texts
  | sampleReport (bits : List Bool)
  | holdExpiry (sub : Sub)
  | searchResultDeadline (sub : Sub)
  | searchDueTime (sub : Sub)
  | textResultDeadline (sub : Sub)
  -- events of the control bus; `returned` is the 16 bits of step 7 as RFC_DAT has them, first to last (R220)
  | busTransferEnd (slots : AckSlots) (returned : List Bool)
  | busTransferTimeout
  -- events of power, supply, sleep and the clock
  | riseEnd (device : Device)
  | fallEnd (device : Device)
  | demandTime (device : Device)
  | wakeTime
  | settleEnd
  | timelineClockAdvance (periods : Nat)
  | battLineChange (line : BattLine) (level : Bool)
  | supplyStabilityTime
  | silenceMonitorExpiry (sub : Sub)
  -- reset and start-up
  | powerOnReset
  | resetNRise
  | configByteRead (byte : Option Byte)
  deriving DecidableEq, Repr

end Sys2Proof
end

