-- ==== Sys2Proof/Decode.lean ====
section
/-! DEFINITION. The command that a word spells by the bits of the command table. -/

namespace Sys2Proof

/-- The command table gives no row any bits: a command of this part is a frame on a link, an event on a pin or a time
reached, and no word spells one. The frames themselves are read and written in Machine/Operands.lean (R195, R219). -/
def decodeTableWord (_nbits _w : Nat) : Option Instr := none

end Sys2Proof
end

