-- ==== Sys2Proof/Config.lean ====
section
/-! DEFINITION. The sizes and defaults the manual fixes for every part, and the free values: what the manual
leaves unstated where the part goes on. -/

namespace Sys2Proof.Config

/-- Records of the reservation table (R12). -/
def tableSize : Nat := 48
/-- Records one subscription may own (R12). -/
def ownerLimit : Nat := 32
/-- Sessions of the session table (R42). -/
def sessionSize : Nat := 8
/-- Sessions of one text queue (R42). -/
def textLimit : Nat := 4
/-- Slots of a cell table (R71). -/
def cellSlots : Nat := 12
/-- Records of an event queue (R202). -/
def queueSize : Nat := 16
/-- Transactions of a bridge queue (R139). -/
def bridgeSize : Nat := 4
/-- Entries of a staged-write list (R36). -/
def stagedSize : Nat := 4
/-- Records an EVENT_READ removes at most (R206). -/
def eventReadMax : Nat := 6
/-- The consecutive-lost count at which a record starves (R25). -/
def starveCount : Nat := 8
/-- The guard gap after each window and the lead of a preparation (R17, R28). -/
def guardGap : Nat := 4
/-- The longest payload of a request frame (R195). -/
def requestMax : Nat := 60

/-- Default filter constant and stale limit (R75). -/
def defaultK : Nat := 2
def defaultStale : Nat := 81920

/-- Nominal calibration step and its range (R151, R152). -/
def nominalStep : Nat := 64000
def stepLow : Nat := 63488
def stepHigh : Nat := 64512

/-- FREE VALUE (log entry 3). Whether a presence byte of a RESERVE frame that is neither 0 nor 1 is read as
present. R219 gives the codes 0 and 1 only. -/
opaque presenceByte : Byte → Bool

/-- FREE VALUE (log entry 4). What SESSION_READ returns for a field that a voice session in SETUP does not hold:
the first argument counts the reads made, the second numbers the field. R69 names no value. -/
opaque setupField : Nat → Nat → BitVec 32

end Sys2Proof.Config
end

