-- ==== Sys2Proof/Machine/State.lean ====
section
/-! DEFINITION. The state of the Mefilo 640, as plain data.

It is laid out by who may write it. `Env` holds what no reaction inside a step writes: the timeline count, the
calibration step, the policy, the supply lines, the supply alert and the loaded configuration. `Link` holds what one
port's link owns. `Core` holds the records of the blocks, which react to one another within a step. Every record is
the one its block owns in the manual (00_scope.md, "Blocks and how they work together"). -/

namespace Sys2Proof.Machine

/-! ### Enumerations (R221; where R221 lists none, in the order of the defining rule, R219) -/

/-- Classes of reservation (R6, R221). -/
inductive Class where
  | access | voice | page | text | measure | search
  deriving DecidableEq, Repr

/-- States of an occurrence (R13). `seeking` is the model's own: a repeating record between the removal of one
occurrence and the placement of the next, inside one placement run (R20, R21). -/
inductive OccState where
  | granted | preparing | active | seeking
  deriving DecidableEq, Repr

/-- Why a record ends (R14). -/
inductive EndReason where
  | completed | withdrawn | preempted | starved | sessionClosed
  deriving DecidableEq, Repr

/-- Coverage states; the last three are the search stages (R110). -/
inductive Coverage where
  | noCell | inService | near | wide | dormant
  deriving DecidableEq, Repr

/-- Causes of a coverage change (R111). -/
inductive CoverageCause where
  | serviceLost | servingSet | found | stageLimit | restart | teardown
  deriving DecidableEq, Repr

/-- Supply states (R160). -/
inductive Supply where
  | normal | saver | low
  deriving DecidableEq, Repr

/-- Stack states (R177). -/
inductive StackState where
  | detached | attached | lost
  deriving DecidableEq, Repr

/-- The sleep states by name (R162). -/
inductive SleepKind where
  | awake | settlingDown | light | deep | waking
  deriving DecidableEq, Repr

/-- What a sleep entry is bound for (R166). -/
inductive Target where
  | light | deep
  deriving DecidableEq, Repr

/-- The clock that advances the timeline count (R151). -/
inductive ClockSource where
  | main | sleep
  deriving DecidableEq, Repr

/-- How a control-bus transfer ends (R124). -/
inductive BusOutcome where
  | done | addressNak | dataNak | timeout
  deriving DecidableEq, Repr

/-- Status codes of a response (R199, R221). -/
inductive Status where
  | ok | frameError | unknownRequest | notPermitted | notReady | waking | notAttached | badLength | badParam
  | noSuch | notOwner | noSession | conflict | tooLate | tableFull | busy | noService | supplyLow
  deriving DecidableEq, Repr

/-- Event kinds (R203, R221). -/
inductive EventKind where
  | reservationEnded | occurrenceLost | windowLate | callState | tuneAway | pageStarved | textWindow | textDone
  | textFailed | hoCandidate | servingWeak | servingRecovered | coverage | searchWindow | searchReport
  | contextFault | stagedKilled | bridgeDone | supply | stackAttached | stackDetached | stackLost
  deriving DecidableEq, Repr

/-- What an event happened to (R203, R219). -/
inductive Subject where
  | none
  | reservation (x : Sub) (h : Handle)
  | session (x : Sub) (h : Handle)
  | ticket (x : Sub) (t : Byte)
  | cell (x : Sub) (key : CellKey)
  | subscription (x : Sub)
  deriving DecidableEq, Repr

/-- An event record (R203). The two values are the signed 16-bit fields, bit for bit. -/
structure Event where
  kind : EventKind
  subject : Subject
  time : Time
  value1 : Half
  value2 : Half
  deriving DecidableEq, Repr

/-! ### Timeline Arbiter -/

/-- A staged write: device, register and value (R10, R36). -/
structure StagedWrite where
  device : Device
  register : Byte
  value : Half
  deriving DecidableEq, Repr

/-- Repeat period and repeats remaining, present together (R10); `remaining` 0 means unlimited. -/
structure Repeats where
  period : Nat
  remaining : Nat
  deriving DecidableEq, Repr

/-- A reservation record (R10). `prepared` and `waiting` are implied by R28 to R30: the retune indication once
the RF Context Controller has reported the end of the preparation, and whether the start has come while the
preparation was still running. -/
structure Reservation where
  handle : Handle
  owner : Sub
  cls : Class
  urgent : Bool
  emergency : Bool
  desired : Time
  slack : Nat
  length : Nat
  frequency : Half
  band : BitVec 3
  repeats : Option Repeats
  occIndex : Half
  lost : Nat
  session : Option Handle
  cells : List CellKey
  staged : List StagedWrite
  start : Time
  state : OccState
  late : Bool
  degraded : Bool
  prepared : Option Bool
  waiting : Bool
  deriving DecidableEq, Repr

/-- What the Timeline Arbiter owns: the reservation table in order of occurrence start (R12), the generation of
each index (R11), and the window lines (R33). `subSel` low is A, high is B. -/
structure Tla where
  table : List Reservation
  generations : List Byte
  band : BitVec 3
  subSel : Sub
  rxEn : Bool
  txEn : Bool
  deriving DecidableEq, Repr

/-! ### Session Manager -/

/-- States of a text session (R54). -/
inductive TextState where
  | queued | sending | held
  deriving DecidableEq, Repr

/-- What a voice session holds once VOICE_CONNECT has made it ACTIVE (R41, R47, R49). -/
structure Traffic where
  period : Nat
  length : Nat
  anchor : Time
  record : Option Handle
  credit : Nat
  lastRefill : Time
  deriving DecidableEq, Repr

/-- The voice fields of a session (R41). `traffic` absent is SETUP, present is ACTIVE. -/
structure Voice where
  emergency : Bool
  traffic : Option Traffic
  skipped : Nat
  deriving DecidableEq, Repr

/-- The text fields of a session (R41). -/
structure TextBody where
  state : TextState
  total : Nat
  done : Nat
  length : Nat
  urgent : Bool
  frequency : Half
  band : BitVec 3
  retries : Nat
  record : Option Handle
  deadline : Option Time
  notBefore : Option Time
  late : Bool
  deriving DecidableEq, Repr

inductive SessionBody where
  | voice (v : Voice)
  | text (t : TextBody)
  deriving DecidableEq, Repr

/-- A session record (R41). -/
structure Session where
  handle : Handle
  owner : Sub
  body : SessionBody
  deriving DecidableEq, Repr

/-- A subscription's missed-page count and starvation flag (R52). -/
structure Missed where
  count : Nat
  starved : Bool
  deriving DecidableEq, Repr

/-- What the Session Manager owns: the session table by index, its generations, the text queues, head first
(R42), and the missed-page counts (R52). -/
structure Smg where
  sessions : List (Option Session)
  generations : List Byte
  queues : Pair (List Handle)
  missed : Pair Missed
  deriving DecidableEq, Repr

/-! ### Measurement Unit and Handover Evaluator -/

/-- Roles of a cell (R70). -/
inductive Role where
  | serving | neighbour
  deriving DecidableEq, Repr

/-- The filtered level in 1/64 dB and the time of its last update: present when the filter is VALID (R70). -/
structure Level where
  value : Int
  updated : Time
  deriving DecidableEq, Repr

/-- A cell record (R70). The offset is in half-dB; its stored form is 32 times that (R2). -/
structure Cell where
  key : CellKey
  role : Role
  offset : Int
  barred : Bool
  level : Option Level
  updates : Nat
  entry : Option Time
  reported : Bool
  deriving DecidableEq, Repr

/-- The four sticky measurement flags (R85). -/
structure Flags where
  satHigh : Bool
  satLow : Bool
  stray : Bool
  overrun : Bool
  deriving DecidableEq, Repr

/-- A cell's accumulator in the open window (R81). -/
structure Accumulator where
  key : CellKey
  blanked : Nat
  n : Nat
  sum : Int
  deriving DecidableEq, Repr

/-- The Measurement Unit's view of the ACTIVE window (R77). -/
structure MsuView where
  owner : Sub
  cls : Class
  retune : Bool
  cells : List CellKey
  accs : List Accumulator
  deriving DecidableEq, Repr

/-- One subscription's share of the Measurement Unit: the cell table of 12 slots (R71), the filter parameters
(R91) and the sticky flags (R85). -/
structure CellTable where
  slots : List (Option Cell)
  k : Nat
  stale : Nat
  flags : Flags
  deriving DecidableEq, Repr

/-- What the Measurement Unit owns. -/
structure Msu where
  tables : Pair CellTable
  stray : Nat
  view : Option MsuView
  deriving DecidableEq, Repr

/-- Weak states (R96). -/
inductive WeakState where
  | clear
  | pending (entry : Time)
  | reported (entry : Time)
  deriving DecidableEq, Repr

/-- One subscription's share of the Handover Evaluator: its parameters in their requested units (R93), the weak
state (R96) and the ping-pong hold end (R100). -/
structure Hoe where
  hysteresis : Nat
  ttt : Nat
  weakDbm : Int
  holdTime : Nat
  weak : WeakState
  holdEnd : Option Time
  deriving DecidableEq, Repr

/-! ### Coverage Search Controller -/

/-- Phases of a search record with the fields each holds (R112). -/
inductive Phase where
  | idle
  | placed (record : Handle)
  | listening (record : Handle) (best : Option (CellKey × Int)) (count : Nat)
  | awaiting (deadline reference : Time)
  | unplaced (due : Time)
  deriving DecidableEq, Repr

/-- One subscription's share of the Coverage Search Controller (R110, R112). The stage of a running ladder is
the coverage state. -/
structure Search where
  coverage : Coverage
  phase : Phase
  attempt : Nat
  planFrequency : Half
  planBand : BitVec 3
  late : Bool
  deriving DecidableEq, Repr

/-! ### RF Context Controller -/

/-- Scopes of a retained register (R126). -/
inductive Scope where
  | context | common
  deriving DecidableEq, Repr

/-- An entry of the shadow map as the configuration gives it (R126, R213). -/
structure MapEntry where
  device : Device
  register : Byte
  scope : Scope
  initial : Option Half
  deriving DecidableEq, Repr

/-- One entry of the shadow map with its values (R126, R127, R128): absent is UNSET, or UNKNOWN for `live`. A
CONTEXT entry uses `own`, a COMMON entry `common`. -/
structure ShadowEntry where
  entry : MapEntry
  own : Pair (Option Half)
  common : Option Half
  live : Option Half
  deriving DecidableEq, Repr

/-- The RF Context Controller's window view (R131). -/
structure RccView where
  owner : Sub
  handle : Handle
  active : Bool
  deriving DecidableEq, Repr

/-- Steps of a preparation (R132); a preparation that reaches ENDED is closed at that moment (R135). -/
inductive PrepStep where
  | awaitingPower | context | common | staged
  deriving DecidableEq, Repr

/-- A preparation record (R132). `awaited` are the awaited devices and `requests` those a power request of the
preparation stands for (R156). -/
structure Prep where
  owner : Sub
  handle : Handle
  cls : Class
  staged : List StagedWrite
  step : PrepStep
  position : Nat
  tuningAtStart : Option Half
  tuningChanged : Bool
  awaited : List Device
  requests : List Device
  deriving DecidableEq, Repr

inductive TxnKind where
  | write (value : Half)
  | read
  deriving DecidableEq, Repr

/-- States of an immediate transaction (R139). -/
inductive TxnState where
  | queued | ready | deferred | waitingPower | restarting | inFlight
  deriving DecidableEq, Repr

/-- An immediate transaction (R139). `scope` absent is non-retained. `trapped` and `request` say whether it waits
because its device was not ON, and whether its power request stands (R144, R156); `position` and `begun` follow its
restart series (R144). -/
structure Txn where
  ticket : Byte
  kind : TxnKind
  device : Device
  register : Byte
  scope : Option Scope
  state : TxnState
  released : Bool
  trapped : Bool
  request : Bool
  position : Nat
  begun : Bool
  deriving DecidableEq, Repr

/-- What a transfer in flight belongs to (R125). -/
inductive TransferCause where
  | preparation
  | replay
  | restore (x : Sub)
  | own (x : Sub)
  deriving DecidableEq, Repr

/-- The transfer in flight (R124). `owner` is the subscription it is made for; `check` says it is the device's
answer check (R130); `dropped`, that its preparation has been dropped (R137); `ownerGone`, that its owner has been
torn down (R147); `deviceLeft`, that its device has left ON (R124); `void`, that COORDINATOR_RESET has left it without
effect (R147). -/
structure Transfer where
  kind : TxnKind
  device : Device
  register : Byte
  cause : TransferCause
  owner : Option Sub
  check : Bool
  dropped : Bool
  ownerGone : Bool
  deviceLeft : Bool
  void : Bool
  deriving DecidableEq, Repr

/-- A step of a control-bus transfer (R220): bits the part drives, an acknowledge slot with the outcome when nothing
acknowledges in it, the busy step, and the 16 bits the device returns. -/
inductive BusStep where
  | driven (bits : List Bool)
  | acknowledge (second : Bool) (failure : BusOutcome)
  | busy
  | returned
  deriving DecidableEq, Repr

/-- What the device's side of a transfer leaves on RFC_DAT (R220): the levels of the two acknowledge slots, whether the
device holds the line busy for more than 20 µs, and the bits of step 7, first to last. -/
structure BusReply where
  slots : AckSlots
  heldLong : Bool
  returned : List Bool
  deriving DecidableEq, Repr

/-- A pending replay write: a map entry's number, its device, and when that device came ON (R125, R130). -/
structure Replay where
  entry : Nat
  device : Device
  since : Time
  deriving DecidableEq, Repr

/-- Answer check of a device (R130). -/
inductive Answering where
  | answering | pending | notAnswering
  deriving DecidableEq, Repr

/-- One stack's share of the RF Context Controller: the bridge queue, head first, and the ticket counter (R139). -/
structure Bridge where
  queue : List Txn
  ticket : Byte
  deriving DecidableEq, Repr

/-- What the RF Context Controller owns. `bus` absent is an idle control bus. -/
structure Rcc where
  shadow : List ShadowEntry
  tuning : Option Nat
  view : Option RccView
  prep : Option Prep
  replay : List Replay
  answering : Quad Answering
  poweredSince : Bool
  bridges : Pair Bridge
  lastServed : Sub
  bus : Option Transfer
  deriving DecidableEq, Repr

/-! ### Power and Sleep Controller -/

/-- Power states of an RF device with the time each holds (R154). -/
inductive Power where
  | off
  | rising (riseEnd : Time)
  | on
  | falling (fallEnd : Time)
  deriving DecidableEq, Repr

/-- The sleep state with the times it holds (R162). -/
inductive Sleep where
  | awake
  | settlingDown (target : Target) (wake : Option Time)
  | light (wake : Option Time)
  | deep (wake : Option Time)
  | waking (settleEnd : Time)
  deriving DecidableEq, Repr

/-- What the Power and Sleep Controller owns, but for the timeline count, the calibration step and the supply
(`Env`). -/
structure Psc where
  power : Quad Power
  sleep : Sleep
  divider : Nat
  fraction : Nat
  consent : Pair Bool
  stayAwake : Bool
  deriving DecidableEq, Repr

/-! ### Subscription Supervisor and Port Interface -/

/-- A stack's state and its silence monitor: the expiry time when running (R177, R182). -/
structure Stack where
  state : StackState
  monitor : Option Time
  deriving DecidableEq, Repr

/-- A port's event queue, oldest first, and its overflow count (R202). -/
structure EventQueue where
  events : List Event
  overflow : Nat
  deriving DecidableEq, Repr

/-- The model's own: a notice that another block is to act on once the Timeline Arbiter has finished its run (R44).
The list of them is empty between steps. -/
inductive Notice where
  | pageLost (x : Sub)
  | pageActive (x : Sub)
  | voiceSkipped (session : Handle)
  | searchLost (x : Sub) (record : Handle) (reference : Time)
  | recordEnded (record : Handle) (x : Sub) (cls : Class) (reason : Option EndReason) (session : Option Handle)
      (endTime : Time)
  deriving DecidableEq, Repr

/-- The records of the blocks. `notices` and `evaluate` are the model's own: notices not acted on yet, and whether a
trigger of the sleep entry evaluation (R165) has come in the step at hand. -/
structure Core where
  tla : Tla
  smg : Smg
  msu : Msu
  hoe : Pair Hoe
  csc : Pair Search
  rcc : Rcc
  psc : Psc
  ssv : Pair Stack
  pif : Trio EventQueue
  notices : List Notice
  evaluate : Bool
  deriving DecidableEq, Repr

/-! ### What no reaction writes -/

/-- The coordination policy (R186). -/
structure Policy where
  preferred : Option Sub
  creditMax : Nat
  refill : Nat
  limits : Pair Nat
  deriving DecidableEq, Repr

/-- A battery line: the level on the pin, the taken level and the change time (R159). -/
structure SupplyLine where
  level : Bool
  taken : Bool
  changed : Option Time
  deriving DecidableEq, Repr

/-- The items of the configuration image (R213); delays in tu. -/
structure Image where
  present : Quad Bool
  delays : Quad Nat
  offSettle : Nat
  clockSettle : Nat
  lightThreshold : Nat
  deepThreshold : Nat
  deepAllowed : Bool
  blanking : Nat
  map : List MapEntry
  tuning : Option Nat
  deriving DecidableEq, Repr

/-- Phases of the load (R212). `notBegun` is RESET_N held low (R210). -/
inductive LoadPhase where
  | notBegun | reading | ended
  deriving DecidableEq, Repr

/-- Causes of a load that ends DEFAULTS (R212, R221). -/
inductive LoadCause where
  | none | badSignature | noAnswer | readFailed
  deriving DecidableEq, Repr

/-- The state of the configuration load (R212). `partialRecord` holds the bytes of the record being read;
`loaded` is the outcome, LOADED or DEFAULTS. -/
structure Load where
  phase : LoadPhase
  position : Half
  stated : Nat
  read : Nat
  partialRecord : List Byte
  working : Image
  clamps : Nat
  ignored : Nat
  loaded : Bool
  cause : LoadCause
  deriving DecidableEq, Repr

/-- What no reaction inside a step writes: the timeline count and the calibration step S (R151), the policy
(R186), the battery lines (R159), the supply alert (R161), the configuration load and the image in force (R212 to R215),
and the model's own count of reads of fields that are not there (log entry 4). -/
structure Env where
  count : Time
  step : Nat
  policy : Policy
  warn : SupplyLine
  low : SupplyLine
  alert : Bool
  load : Load
  image : Image
  unstated : Nat
  deriving DecidableEq, Repr

/-- A response as its slot holds it between transactions (R199). -/
structure Slot where
  seq : Byte
  status : Status
  payload : List Byte
  deriving DecidableEq, Repr

/-- A link transaction in progress: the sleep state in which it began, and the response bytes formed at that moment
(R193, R200). -/
structure Transaction where
  began : SleepKind
  response : List Byte
  deriving DecidableEq, Repr

/-- What one port's link owns: the response slot, the CRC error count (R197) and the transaction in progress. -/
structure Link where
  slot : Slot
  crcErrors : Nat
  transaction : Option Transaction
  deriving DecidableEq, Repr

structure State where
  env : Env
  links : Trio Link
  core : Core
  pending : List Instr
  deriving DecidableEq, Repr

/-! ### Outcomes -/

/-- No command of this part stops it: every request is answered and every event is taken or has no effect. The type
has no constructor. Safe: a machine that never faults leaves no behaviour of the hardware out. -/
inductive Fault where
  deriving DecidableEq, Repr

/-- Why the model gives a command no meaning. -/
inductive Refusal where
  /-- Raised by `exec` alone, for a command whose meaning is not written yet. No command is left so. Safe. -/
  | notModelled (mnemonic : String)
  deriving DecidableEq, Repr

/-! ### Power-on values -/

/-- The default set of configuration items (R213, R215). -/
def Image.default : Image where
  present := ⟨true, true, true, true⟩
  delays := ⟨96, 32, 0, 32⟩
  offSettle := 16
  clockSettle := 64
  lightThreshold := 96
  deepThreshold := 640
  deepAllowed := true
  blanking := 2
  map := []
  tuning := none

/-- The load before it has begun (R210, R212). The counts, outcome and cause that a load sets are zero, DEFAULTS and
none until then (log entry 5). -/
def Load.initial : Load where
  phase := .notBegun
  position := 0
  stated := 0
  read := 0
  partialRecord := []
  working := Image.default
  clamps := 0
  ignored := 0
  loaded := false
  cause := .none

/-- The default policy (R186). -/
def Policy.default : Policy := ⟨none, 2, 32000, ⟨64000, 64000⟩⟩

/-- A battery line that is not asserted, with its taken level clear (R159; log entry 6 for the pin). -/
def SupplyLine.clear : SupplyLine := ⟨false, false, none⟩

def Env.initial : Env where
  count := 0
  step := Config.nominalStep
  policy := Policy.default
  warn := SupplyLine.clear
  low := SupplyLine.clear
  alert := false
  load := Load.initial
  image := Image.default
  unstated := 0

/-- A cell table with no record, default parameters and clear flags (R75). -/
def CellTable.initial : CellTable where
  slots := List.replicate Config.cellSlots none
  k := Config.defaultK
  stale := Config.defaultStale
  flags := ⟨false, false, false, false⟩

/-- Default handover parameters, weak state CLEAR, no hold (R93, R96, R100). -/
def Hoe.initial : Hoe := ⟨6, 10240, -110, 32000, .clear, none⟩

/-- Coverage NO_CELL, search record IDLE with the default plan (R110, R112). -/
def Search.initial : Search := ⟨.noCell, .idle, 0, 0, 0, false⟩

def Tla.initial : Tla where
  table := []
  generations := List.replicate Config.tableSize 0
  band := 0
  subSel := .A
  rxEn := false
  txEn := false

def Smg.initial : Smg where
  sessions := List.replicate Config.sessionSize none
  generations := List.replicate Config.sessionSize 0
  queues := ⟨[], []⟩
  missed := ⟨⟨0, false⟩, ⟨0, false⟩⟩

def Msu.initial : Msu := ⟨⟨CellTable.initial, CellTable.initial⟩, 0, none⟩

def Rcc.initial : Rcc where
  shadow := []
  tuning := none
  view := none
  prep := none
  replay := []
  answering := ⟨.answering, .answering, .answering, .answering⟩
  poweredSince := false
  bridges := ⟨⟨[], 0⟩, ⟨[], 0⟩⟩
  lastServed := .B
  bus := none

def Psc.initial : Psc where
  power := ⟨.off, .off, .off, .off⟩
  sleep := .awake
  divider := 0
  fraction := 0
  consent := ⟨false, false⟩
  stayAwake := false

def Core.initial : Core where
  tla := Tla.initial
  smg := Smg.initial
  msu := Msu.initial
  hoe := ⟨Hoe.initial, Hoe.initial⟩
  csc := ⟨Search.initial, Search.initial⟩
  rcc := Rcc.initial
  psc := Psc.initial
  ssv := ⟨⟨.detached, none⟩, ⟨.detached, none⟩⟩
  pif := ⟨⟨[], 0⟩, ⟨[], 0⟩, ⟨[], 0⟩⟩
  notices := []
  evaluate := false

/-- A port's link after power-on reset: the slot holds NOT_READY with sequence 0 (R199), the count is 0 (R197). DESIGN
CHOICE (log entry 50): no transaction is in progress, so that one cut by the reset ends with no effect. -/
def Link.initial : Link := ⟨⟨0, .notReady, []⟩, 0, none⟩

/-- The part with RESET_N held low: every block at its power-on values, the load not yet begun (R210). -/
def State.reset : State where
  env := Env.initial
  links := ⟨Link.initial, Link.initial, Link.initial⟩
  core := Core.initial
  pending := []

end Sys2Proof.Machine
end

