-- ==== Sys2Proof/Machine/Ops.lean ====
section
/-! DEFINITION. The operations every block shares: time by half range, clamping and saturation, the event queues, and
the lookups of records by handle. -/

namespace Sys2Proof.Machine

/-! ### Time (R1) -/

/-- A span of `n` tu as a difference of times. -/
def tu (n : Nat) : Time := BitVec.ofNat 32 n

/-- `t` is at or after `u` (R1). -/
def atOrAfter (t u : Time) : Bool := decide ((t - u).toNat < 2 ^ 31)

/-- `t` is before `u` (R1). -/
def before (t u : Time) : Bool := !atOrAfter t u

/-- The later of two times (R1). -/
def laterOf (t u : Time) : Time := if atOrAfter t u then t else u

/-- At `now`, at least `n` tu have passed since `t` (R1). -/
def passed (now t : Time) (n : Nat) : Bool := atOrAfter now t && decide (n ≤ (now - t).toNat)

/-- The time `t` has been reached at `now`. -/
def reached (now t : Time) : Bool := atOrAfter now t

/-- The earliest of a list of times (R1), absent when there is none. -/
def earliest : List Time → Option Time
  | [] => none
  | t :: ts =>
    match earliest ts with
    | none => some t
    | some u => some (if before u t then u else t)

/-- A duration field that may hold a time. -/
def reachedOpt (now : Time) : Option Time → Bool
  | none => false
  | some t => reached now t

/-! ### Runs of bits -/

/-- A run of bits as a number, its first bit the most significant: so on the host links (R193); on the sample link by
log entry 44. -/
def bitsToNat (bits : List Bool) : Nat := bits.foldl (fun n b => 2 * n + b.toNat) 0

/-! ### Clamping and saturation (R7) -/

def clamp (lo hi n : Nat) : Nat := max lo (min hi n)

def clampInt (lo hi n : Int) : Int := max lo (min hi n)

/-- A count that stops at `top` (R7). -/
def saturate (top n : Nat) : Nat := min top n

/-- A nonnegative quantity in a signed 16-bit event value, saturating at 32767. -/
def value16 (n : Nat) : Half := BitVec.ofNat 16 (saturate 32767 n)

/-- A signed quantity in an event value. -/
def signed16 (z : Int) : Half := BitVec.ofInt 16 z

/-- The generation that follows `g`: 255 is followed by 0 (R11). -/
def nextGeneration (g : Byte) : Byte := g + 1

/-- A handle as index × 256 + generation, bit for bit (R45). -/
def Handle.asHalf (h : Handle) : Half := h.index ++ h.generation

/-! ### The numbers of the enumerations (R221) -/

def Class.code : Class → Nat
  | .access => 0
  | .voice => 1
  | .page => 2
  | .text => 3
  | .measure => 4
  | .search => 5

def Class.ofCode (b : Byte) : Option Class :=
  match b.toNat with
  | 0 => some .access
  | 1 => some .voice
  | 2 => some .page
  | 3 => some .text
  | 4 => some .measure
  | 5 => some .search
  | _ => none

def EndReason.code : EndReason → Nat
  | .completed => 0
  | .withdrawn => 1
  | .preempted => 2
  | .starved => 3
  | .sessionClosed => 4

/-- `seeking` stands only inside a placement run and is never returned. -/
def OccState.code : OccState → Nat
  | .granted => 0
  | .preparing => 1
  | .active => 2
  | .seeking => 0

def Coverage.code : Coverage → Nat
  | .noCell => 0
  | .inService => 1
  | .near => 2
  | .wide => 3
  | .dormant => 4

def CoverageCause.code : CoverageCause → Nat
  | .serviceLost => 0
  | .servingSet => 1
  | .found => 2
  | .stageLimit => 3
  | .restart => 4
  | .teardown => 5

def Supply.code : Supply → Nat
  | .normal => 0
  | .saver => 1
  | .low => 2

def StackState.code : StackState → Nat
  | .detached => 0
  | .attached => 1
  | .lost => 2

def SleepKind.code : SleepKind → Nat
  | .awake => 0
  | .settlingDown => 1
  | .light => 2
  | .deep => 3
  | .waking => 4

def BusOutcome.code : BusOutcome → Nat
  | .done => 0
  | .addressNak => 1
  | .dataNak => 2
  | .timeout => 3

def TextState.code : TextState → Nat
  | .queued => 0
  | .sending => 1
  | .held => 2

def Sub.code : Sub → Nat
  | .A => 0
  | .B => 1

def LoadCause.code : LoadCause → Nat
  | .none => 0
  | .badSignature => 1
  | .noAnswer => 2
  | .readFailed => 3

def EventKind.code : EventKind → Nat
  | .reservationEnded => 0x01
  | .occurrenceLost => 0x02
  | .windowLate => 0x03
  | .callState => 0x04
  | .tuneAway => 0x05
  | .pageStarved => 0x06
  | .textWindow => 0x07
  | .textDone => 0x08
  | .textFailed => 0x09
  | .hoCandidate => 0x0A
  | .servingWeak => 0x0B
  | .servingRecovered => 0x0C
  | .coverage => 0x0D
  | .searchWindow => 0x0E
  | .searchReport => 0x0F
  | .contextFault => 0x10
  | .stagedKilled => 0x11
  | .bridgeDone => 0x12
  | .supply => 0x13
  | .stackAttached => 0x14
  | .stackDetached => 0x15
  | .stackLost => 0x16

def Status.code : Status → Nat
  | .ok => 0x00
  | .frameError => 0x01
  | .unknownRequest => 0x02
  | .notPermitted => 0x03
  | .notReady => 0x04
  | .waking => 0x05
  | .notAttached => 0x06
  | .badLength => 0x07
  | .badParam => 0x08
  | .noSuch => 0x09
  | .notOwner => 0x0A
  | .noSession => 0x0B
  | .conflict => 0x0C
  | .tooLate => 0x0D
  | .tableFull => 0x0E
  | .busy => 0x0F
  | .noService => 0x10
  | .supplyLow => 0x11

/-- The RF device a byte numbers (R5). -/
def Device.ofByte (b : Byte) : Option Device :=
  match b.toNat with
  | 0 => some .transceiver
  | 1 => some .amplifier
  | 2 => some .antennaSwitch
  | 3 => some .frontEnd
  | _ => none

/-- The subscription a byte names: 0 is A, 1 is B (R219). -/
def Sub.ofByte (b : Byte) : Option Sub :=
  match b.toNat with
  | 0 => some .A
  | 1 => some .B
  | _ => none

/-! ### Stacks, monitors and event queues -/

def Core.attached (c : Core) (x : Sub) : Bool := decide ((c.ssv.get x).state = .attached)

def Core.setMonitor (c : Core) (x : Sub) (m : Option Time) : Core :=
  { c with ssv := c.ssv.set x { c.ssv.get x with monitor := m } }

/-- A trigger of the sleep entry evaluation (R165). The evaluation itself runs when the operation that gave the
trigger is over (log entry 11). -/
def Core.trigger (c : Core) : Core := { c with evaluate := true }

/-- X's silence monitor starts, with expiry time now + X's limit, when an event joins X's empty queue while X is
ATTACHED and its limit is not 0 (R182). -/
def startMonitor (e : Env) (x : Sub) (c : Core) : Core :=
  if c.attached x && decide (e.policy.limits.get x ≠ 0) then
    c.setMonitor x (some (e.count + tu (e.policy.limits.get x)))
  else c

/-- The record joins the tail of a queue that holds fewer than 16; otherwise it is dropped and counted (R202). -/
def EventQueue.join (q : EventQueue) (ev : Event) : EventQueue :=
  if q.events.length < Config.queueSize then { q with events := q.events ++ [ev] }
  else { q with overflow := saturate 255 (q.overflow + 1) }

/-- A block posts an event to a port (R202). A record for a stack port whose stack is not ATTACHED is discarded. -/
def post (e : Env) (port : Port) (ev : Event) (c : Core) : Core :=
  match port with
  | .app => { c with pif := c.pif.set .app ((c.pif.get .app).join ev) }
  | .stack x =>
    if c.attached x then
      let c' := { c with pif := c.pif.set (.stack x) ((c.pif.get (.stack x)).join ev) }
      if (c.pif.get (.stack x)).events.isEmpty then startMonitor e x c' else c'
    else c

/-- An event at now. -/
def Event.now (e : Env) (kind : EventKind) (subject : Subject) (value1 value2 : Half) : Event :=
  ⟨kind, subject, e.count, value1, value2⟩

/-- A queue that held records has become empty: X's silence monitor stops (R182), and the sleep entry evaluation is
triggered (R165, R202). -/
def queueEmptied (port : Port) (c : Core) : Core :=
  match port with
  | .app => c.trigger
  | .stack x => (c.setMonitor x none).trigger

/-- All records leave a port's queue and its overflow count is zeroed (R205, R216). -/
def emptyQueue (port : Port) (c : Core) : Core :=
  let c' := { c with pif := c.pif.set port ⟨[], 0⟩ }
  if (c.pif.get port).events.isEmpty then c' else queueEmptied port c'

/-- A notice for a block that acts when the Timeline Arbiter has finished its run (R44). -/
def Core.tell (c : Core) (n : Notice) : Core := { c with notices := c.notices ++ [n] }

/-! ### Records by handle -/

/-- The reservation record a handle names (R11). -/
def Core.reservation (c : Core) (h : Handle) : Option Reservation :=
  c.tla.table.find? fun r => decide (r.handle = h)

/-- A change of the record a handle names. -/
def Core.editReservation (c : Core) (h : Handle) (f : Reservation → Reservation) : Core :=
  { c with tla := { c.tla with table := c.tla.table.map fun r => if r.handle = h then f r else r } }

/-- The session a handle names (R41). -/
def Core.session (c : Core) (h : Handle) : Option Session :=
  match c.smg.sessions[h.index.toNat]? with
  | some (some s) => if s.handle = h then some s else none
  | _ => none

/-- A change of the session a handle names. -/
def Core.editSession (c : Core) (h : Handle) (f : Session → Session) : Core :=
  match c.session h with
  | none => c
  | some s => { c with smg := { c.smg with sessions := c.smg.sessions.set h.index.toNat (some (f s)) } }

/-- The voice session, of either subscription (R42). -/
def Core.voiceSession (c : Core) : Option (Session × Voice) :=
  c.smg.sessions.findSome? fun o =>
    match o with
    | some s => match s.body with
      | .voice v => some (s, v)
      | .text _ => none
    | none => none

/-- The lowest index of a table of `n` at which `taken` does not hold (R11, R41). -/
def lowestFree (taken : Nat → Bool) (n : Nat) : Option Nat := (List.range n).find? fun i => !taken i

/-! ### Supply -/

/-- The supply state follows the taken levels (R160). -/
def supplyOf (warn low : Bool) : Supply :=
  if low then .low else if warn then .saver else .normal

def Env.supply (e : Env) : Supply := supplyOf e.warn.taken e.low.taken

end Sys2Proof.Machine
end

