-- ==== Sys2Proof/Machine/Cells.lean ====
section
/-! DEFINITION. The Measurement Unit's cell tables, sample intake and level filter (chapter 3), but for the requests. -/

namespace Sys2Proof.Machine

/-! ### Cell tables -/

def Core.cells (c : Core) (x : Sub) : CellTable := c.msu.tables.get x

def Core.setCells (c : Core) (x : Sub) (t : CellTable) : Core :=
  { c with msu := { c.msu with tables := c.msu.tables.set x t } }

def Core.setFlags (c : Core) (x : Sub) (f : Flags → Flags) : Core :=
  c.setCells x { c.cells x with flags := f (c.cells x).flags }

/-- The slot of a key's record (R71). -/
def slotOf (slots : List (Option Cell)) (key : CellKey) : Option Nat :=
  slots.findIdx? fun o => match o with
    | some r => decide (r.key = key)
    | none => false

/-- The lowest free slot (R71). -/
def freeSlot (slots : List (Option Cell)) : Option Nat := slots.findIdx? Option.isNone

def cellAt (slots : List (Option Cell)) (i : Nat) : Option Cell := (slots[i]?).join

/-- The record of a key. -/
def cellOf (slots : List (Option Cell)) (key : CellKey) : Option Cell :=
  match slotOf slots key with
  | none => none
  | some i => cellAt slots i

def cellCount (slots : List (Option Cell)) : Nat := (slots.filterMap id).length

/-- The SERVING record (R71). -/
def servingCell (slots : List (Option Cell)) : Option Cell :=
  (slots.filterMap id).find? fun r => decide (r.role = .serving)

/-- A change of every record. -/
def mapCells (slots : List (Option Cell)) (f : Cell → Cell) : List (Option Cell) := slots.map (Option.map f)

/-- A VALID level is stale at `t` unless `t` is at or after its last update and within the stale limit of it
(R72). -/
def Level.staleAt (l : Level) (limit : Nat) (t : Time) : Bool :=
  !(atOrAfter t l.updated && decide ((t - l.updated).toNat ≤ limit))

/-- A record is VALID and not stale (R72). -/
def Cell.fresh (r : Cell) (limit : Nat) (t : Time) : Bool :=
  match r.level with
  | none => false
  | some l => !l.staleAt limit t

/-- A new record (R70). -/
def newCell (key : CellKey) (role : Role) (offset : Int) (barred : Bool) : Cell :=
  ⟨key, role, offset, barred, none, 0, none, false⟩

/-- A removed record's accumulator in an open window of its subscription is discarded (R74). -/
def discardAccumulator (x : Sub) (key : CellKey) (c : Core) : Core :=
  match c.msu.view with
  | none => c
  | some v =>
    if v.owner = x then
      { c with msu := { c.msu with view := some { v with accs := v.accs.filter fun a => decide (a.key ≠ key) } } }
    else c

/-- A record leaves its slot with all its fields (R74). -/
def removeCell (x : Sub) (i : Nat) (c : Core) : Core :=
  match cellAt (c.cells x).slots i with
  | none => c
  | some r => discardAccumulator x r.key (c.setCells x { c.cells x with slots := (c.cells x).slots.set i none })

/-! ### The serving mechanism (R73) -/

/-- The NEIGHBOUR slots, lowest first. -/
def neighbourSlots (slots : List (Option Cell)) : List (Nat × Cell) :=
  (List.range slots.length).filterMap fun i =>
    match cellAt slots i with
    | some r => if r.role = .neighbour then some (i, r) else none
    | none => none

/-- Of two VALID neighbours the one whose last update lies further before now, the lower slot among equals (R73); the
differences are read in the half range (R1). -/
def older (now : Time) (best next : Nat × Time) : Nat × Time :=
  if (now - best.2).toInt < (now - next.2).toInt then next else best

/-- The slot evicted from a full table: the lowest EMPTY neighbour, or else the VALID neighbour whose last update lies
furthest before now (R73). -/
def evictSlot (now : Time) (slots : List (Option Cell)) : Option Nat :=
  match (neighbourSlots slots).find? fun p => p.2.level.isNone with
  | some p => some p.1
  | none =>
    match (neighbourSlots slots).filterMap fun p => p.2.level.map fun l => (p.1, l.updated) with
    | [] => none
    | p :: ps => some (ps.foldl (older now) p).1

/-- What a serving change did (R107, R108, R121). -/
structure ServingChange where
  slot : Nat
  inserted : Bool
  changed : Bool
  evicted : Option CellKey

/-- Step 1: a SERVING record with another key becomes NEIGHBOUR (R73). -/
def demoteOthers (key : CellKey) (slots : List (Option Cell)) : List (Option Cell) :=
  mapCells slots fun r => if r.key = key then r else { r with role := .neighbour }

/-- X's trigger state is cleared: every record's trigger fields, and the weak state (R103). -/
def clearTrigger (x : Sub) (c : Core) : Core :=
  let c1 := c.setCells x
    { c.cells x with slots := mapCells (c.cells x).slots fun r => { r with entry := none, reported := false } }
  { c1 with hoe := c1.hoe.set x { c1.hoe.get x with weak := .clear } }

/-- A record for the key takes a slot as SERVING, EMPTY (R73). -/
def insertServing (x : Sub) (key : CellKey) (i : Nat) (c : Core) : Core :=
  c.setCells x { c.cells x with slots := (c.cells x).slots.set i (some (newCell key .serving 0 false)) }

/-- The serving mechanism, and the clearing of the trigger state when the serving key changes (R73, R103). -/
def makeServing (e : Env) (x : Sub) (key : CellKey) (c : Core) : Core × ServingChange :=
  let was := (servingCell (c.cells x).slots).map fun r => r.key
  let changed := decide (was ≠ some key)
  let clear := fun c' : Core => if changed then clearTrigger x c' else c'
  let c1 := c.setCells x { c.cells x with slots := demoteOthers key (c.cells x).slots }
  match slotOf (c1.cells x).slots key with
  | some i =>
    let promoted := mapCells (c1.cells x).slots fun r => if r.key = key then { r with role := .serving } else r
    (clear (c1.setCells x { c1.cells x with slots := promoted }), ⟨i, false, changed, none⟩)
  | none =>
    match freeSlot (c1.cells x).slots with
    | some i => (clear (insertServing x key i c1), ⟨i, true, changed, none⟩)
    | none =>
      match evictSlot e.count (c1.cells x).slots with
      | some i =>
        let gone := (cellAt (c1.cells x).slots i).map fun r => r.key
        (clear (insertServing x key i (removeCell x i c1)), ⟨i, true, changed, gone⟩)
      | none => (c1, ⟨0, false, changed, none⟩)

/-! ### Sample intake -/

/-- A sample report (R76, R220). -/
structure Sample where
  key : CellKey
  raw : Int
  valid : Bool

/-- A frame of exactly 38 bits is a report: 16 bits frequency number, 10 bits cell identity, 11 bits signed raw level,
1 bit valid flag (R220). DESIGN CHOICE (log entry 44): the first bit of each field is its most significant, and the raw
level is in two's complement. -/
def sampleOfBits (bits : List Bool) : Option Sample :=
  if bits.length = 38 then
    some
      { key := ⟨BitVec.ofNat 16 (bitsToNat (bits.take 16)), BitVec.ofNat 16 (bitsToNat ((bits.drop 16).take 10))⟩
        raw := (BitVec.ofNat 11 (bitsToNat ((bits.drop 26).take 11))).toInt
        valid := (bits.drop 37).head? == some true }
  else none

/-- A raw level is clamped to −560..−160 (R79). -/
def clampLevel (raw : Int) : Int := clampInt (-560) (-160) raw

/-- The clamp sets the window owner's SAT_LOW or SAT_HIGH (R79). -/
def noteSaturation (x : Sub) (raw : Int) (c : Core) : Core :=
  if raw < -560 then c.setFlags x fun f => { f with satLow := true }
  else if -160 < raw then c.setFlags x fun f => { f with satHigh := true }
  else c

/-- The cell's accumulator, created with all counts 0 when it has none (R81). -/
def accumulatorOf (accs : List Accumulator) (key : CellKey) : Accumulator :=
  match accs.find? fun a => decide (a.key = key) with
  | some a => a
  | none => ⟨key, 0, 0, 0⟩

def putAccumulator (accs : List Accumulator) (a : Accumulator) : List Accumulator :=
  if accs.any fun b => decide (b.key = a.key) then accs.map fun b => if b.key = a.key then a else b
  else accs ++ [a]

/-- A counted sample is blanked, accumulated, or discarded with OVERRUN (R80, R81). -/
def countSample (e : Env) (v : MsuView) (key : CellKey) (level : Int) (c : Core) : Core :=
  let a := accumulatorOf v.accs key
  let keep := fun a' : Accumulator =>
    { c with msu := { c.msu with view := some { v with accs := putAccumulator v.accs a' } } }
  if v.retune && decide (a.blanked < e.image.blanking) then keep { a with blanked := a.blanked + 1 }
  else if a.n < 4 then keep { a with n := a.n + 1, sum := a.sum + level }
  else c.setFlags v.owner fun f => { f with overrun := true }

/-- A counted sample is clamped, then blanked or accumulated (R78 to R81). -/
def intake (e : Env) (v : MsuView) (s : Sample) (c : Core) : Core :=
  countSample e v s.key (clampLevel s.raw) (noteSaturation v.owner s.raw c)

/-- The stray count rises by one, saturating (R86). -/
def countStray (c : Core) : Core := { c with msu := { c.msu with stray := saturate 65535 (c.msu.stray + 1) } }

/-- A search sample updates the attempt's best sample and count while the phase is LISTENING (R114). -/
def searchSample (x : Sub) (key : CellKey) (level : Int) (c : Core) : Core :=
  match (c.csc.get x).phase with
  | .listening h best n =>
    let best' := match best with
      | none => some (key, level)
      | some (k, l) => if l < level then some (key, level) else some (k, l)
    { c with csc := c.csc.set x { c.csc.get x with phase := .listening h best' (saturate 32767 (n + 1)) } }
  | _ => c

/-- The attribution of a report, by the first line of R78's table that fits. -/
def attributeSample (e : Env) (s : Sample) (c : Core) : Core :=
  if s.valid then
    match c.msu.view with
    | none => countStray c
    | some v =>
      match v.cls with
      | .access => countStray c
      | .text => countStray c
      | .search => searchSample v.owner s.key (clampLevel s.raw) (noteSaturation v.owner s.raw c)
      | k =>
        match cellOf (c.cells v.owner).slots s.key with
        | none => c.setFlags v.owner fun f => { f with stray := true }
        | some r =>
          if k = .measure then (if v.cells.contains s.key then intake e v s c else c)
          else if r.role = .serving then intake e v s c else c
  else c

/-! ### The level filter -/

/-- The window mean: Σ / n to the nearest integer, an exact half toward +∞ (R82). -/
def windowMean (sum : Int) (n : Nat) : Int := Int.fdiv (2 * sum + n) (2 * n)

/-- The step of a filter with constant k (R83). -/
def filterStep (k : Nat) (d : Int) : Int :=
  if k = 0 then d else d.sign * (((d.natAbs + 2 ^ (k - 1)) / 2 ^ k : Nat) : Int)

/-- A cell's record takes a window mean at time t (R83). -/
def filterUpdate (k limit : Nat) (t : Time) (mean : Int) (r : Cell) : Cell :=
  let m := 16 * mean
  let value := match r.level with
    | none => m
    | some l => if l.staleAt limit t then m else l.value + filterStep k (m - l.value)
  { r with level := some ⟨value, t⟩, updates := saturate 255 (r.updates + 1) }

/-- The accumulators with a mean. -/
def means (accs : List Accumulator) : List (CellKey × Int) :=
  (accs.filter fun a => decide (1 ≤ a.n)).map fun a => (a.key, windowMean a.sum a.n)

/-- A record takes its mean, when the window gives one. -/
def updateFrom (k limit : Nat) (t : Time) (ms : List (CellKey × Int)) (r : Cell) : Cell :=
  match ms.find? fun m => decide (m.1 = r.key) with
  | none => r
  | some m => filterUpdate k limit t m.2 r

/-- At least one record of the table takes a mean (R84). -/
def anyUpdated (slots : List (Option Cell)) (ms : List (CellKey × Int)) : Bool :=
  (slots.filterMap id).any fun r => ms.any fun m => decide (m.1 = r.key)

/-- X's table after a window's means are folded in (R82, R83). -/
def foldMeans (x : Sub) (t : Time) (ms : List (CellKey × Int)) (c : Core) : Core :=
  c.setCells x { c.cells x with
    slots := mapCells (c.cells x).slots (updateFrom (c.cells x).k (c.cells x).stale t ms) }

end Sys2Proof.Machine
end

