-- ==== Sys2Proof/Machine/Contexts.lean ====
section
/-! DEFINITION. The RF Context Controller's tables, bridge queues and window view (chapter 6), without the control-bus
arbiter, which stands in Arbiter.lean. -/

namespace Sys2Proof.Machine

/-! ### The shadow map -/

def Env.has (e : Env) (d : Device) : Bool := e.image.present.get d

/-- The number of the map entry for a register (R126); an entry of an absent device takes no part. -/
def Core.mapIndex (e : Env) (c : Core) (d : Device) (reg : Byte) : Option Nat :=
  if e.has d then
    c.rcc.shadow.findIdx? fun s => decide (s.entry.device = d) && decide (s.entry.register = reg)
  else none

/-- The scope of a register, absent when it is non-retained (R126, R139). -/
def Core.scopeOf (e : Env) (c : Core) (d : Device) (reg : Byte) : Option Scope :=
  match c.mapIndex e d reg with
  | none => none
  | some i => (c.rcc.shadow[i]?).map fun s => s.entry.scope

def Core.setShadow (c : Core) (shadow : List ShadowEntry) : Core := { c with rcc := { c.rcc with shadow := shadow } }

/-- The tuning register's live value, or UNKNOWN (R128, R132). -/
def Rcc.tuningLive (r : Rcc) : Option Half :=
  match r.tuning with
  | none => none
  | some i => match r.shadow[i]? with
    | none => none
    | some s => s.live

/-- What a write made by or for a subscription does to a map entry's stored value (R127). -/
def ShadowEntry.store (s : ShadowEntry) (owner : Option Sub) (v : Half) : ShadowEntry :=
  match s.entry.scope with
  | .common => { s with common := some v }
  | .context => match owner with
    | none => s
    | some x => { s with own := s.own.set x (some v) }

/-- A write sets the subscription's context value, or the COMMON value, of a retained register (R127). -/
def storeValue (e : Env) (owner : Option Sub) (d : Device) (reg : Byte) (v : Half) (c : Core) : Core :=
  match c.mapIndex e d reg with
  | none => c
  | some i => c.setShadow (c.rcc.shadow.modify i fun s => s.store owner v)

/-- A live entry takes the value a transfer leaves (R128). -/
def setLive (e : Env) (d : Device) (reg : Byte) (v : Option Half) (c : Core) : Core :=
  match c.mapIndex e d reg with
  | none => c
  | some i => c.setShadow (c.rcc.shadow.modify i fun s => { s with live := v })

/-- X's set value of a CONTEXT register (R140). -/
def ownValue (e : Env) (c : Core) (x : Sub) (d : Device) (reg : Byte) : Option Half :=
  match c.mapIndex e d reg with
  | none => none
  | some i => match c.rcc.shadow[i]? with
    | none => none
    | some s => match s.entry.scope with
      | .context => s.own.get x
      | .common => none

/-! ### Power states and work -/

def Core.power (c : Core) (d : Device) : Power := c.psc.power.get d

def Core.isOn (c : Core) (d : Device) : Bool := decide (c.power d = .on)

def Power.isOffOrFalling : Power → Bool
  | .off => true
  | .falling _ => true
  | _ => false

/-- Replay writes of a device are pending (R130). -/
def Rcc.replayPending (r : Rcc) (d : Device) : Bool := r.replay.any fun p => decide (p.device = d)

/-- The RF Context Controller holds work for a device (R129). -/
def Rcc.holdsWork (r : Rcc) (d : Device) : Bool :=
  r.replayPending d
    || (r.bridges.a.queue ++ r.bridges.b.queue).any (fun t => decide (t.device = d))
    || (match r.bus with
        | none => false
        | some t => decide (t.device = d))
    || r.prep.isSome

/-- A power request of the RF Context Controller stands for a device (R156). -/
def Rcc.powerRequest (r : Rcc) (d : Device) : Bool :=
  (match r.prep with
    | none => false
    | some p => p.requests.contains d)
    || (r.bridges.a.queue ++ r.bridges.b.queue).any fun t => decide (t.device = d) && t.request

/-! ### Bridge queues -/

def Core.bridge (c : Core) (x : Sub) : Bridge := c.rcc.bridges.get x

def Core.setBridge (c : Core) (x : Sub) (b : Bridge) : Core :=
  { c with rcc := { c.rcc with bridges := c.rcc.bridges.set x b } }

/-- A change of the head of X's bridge queue. -/
def Core.setHead (c : Core) (x : Sub) (t : Txn) : Core :=
  match (c.bridge x).queue with
  | [] => c
  | _ :: rest => c.setBridge x { c.bridge x with queue := t :: rest }

/-- The window in the view is foreign to X: its owner is the other subscription (R131). -/
def Core.foreign (c : Core) (x : Sub) : Bool :=
  match c.rcc.view with
  | none => false
  | some v => decide (v.owner = x.other)

/-- The value a BRIDGE_DONE carries for a transaction that completes with a code (R146): the value written, or the
value a DONE or FROM_SHADOW read returns. -/
def Txn.doneValue (t : Txn) (read : Option Half) : Half :=
  match t.kind with
  | .write v => v
  | .read => read.getD 0

/-- The head of X's bridge queue completes: BRIDGE_DONE is posted, the transaction leaves the queue, and a queue that
becomes empty is told to the Power and Sleep Controller (R146). The outcome is a bus and bridge outcome code (R221). -/
def completeHead (e : Env) (x : Sub) (outcome : Nat) (read : Option Half) (c : Core) : Core :=
  match (c.bridge x).queue with
  | [] => c
  | t :: rest =>
    let c1 := c.setBridge x { c.bridge x with queue := rest }
    (post e (.stack x) (Event.now e .bridgeDone (.ticket x t.ticket) (value16 outcome) (t.doneValue read)) c1).trigger

/-- What the examination of a head finds (R140). -/
inductive Finding where
  | absorb (v : Half)
  | fromShadow (v : Half)
  | defer
  | toDevice
  deriving DecidableEq

/-- The table of R140, by its first row that fits. -/
def finding (e : Env) (x : Sub) (t : Txn) (c : Core) : Finding :=
  match t.kind, t.scope, c.foreign x with
  | .write v, some .context, true => .absorb v
  | .write _, some .context, false => .toDevice
  | .write _, _, true => .defer
  | .write _, _, false => .toDevice
  | .read, some .context, f =>
    match ownValue e c x t.device t.register with
    | some v => .fromShadow v
    | none => if f then .defer else .toDevice
  | .read, _, true => .defer
  | .read, _, false => .toDevice

/-- A transaction that goes to its device (R140, R144): READY when the device is ON with no replay pending, or
RESTARTING when it was trapped; WAITING_POWER while replay writes are pending; trapped when the device is not ON. A
head that leaves DEFERRED is released (R142). -/
def goToDevice (t : Txn) (c : Core) : Txn :=
  let t1 := { t with released := t.released || decide (t.state = TxnState.deferred) }
  if c.isOn t.device then
    if c.rcc.replayPending t.device then { t1 with state := .waitingPower, request := false }
    else if t.trapped then { t1 with state := .restarting, request := false, position := 0, begun := false }
    else { t1 with state := .ready, request := false }
  else
    { t1 with state := .waitingPower, trapped := true,
              request := t.request || (c.power t.device).isOffOrFalling }

/-- One examination of the head of X's bridge queue (R140 to R142). The Bool says whether the head completed. DESIGN CHOICE
(log entry 46): a trapped head that meets a foreign window is examined at the change of the view and defers at once, and is
then neither trapped nor asking for power. -/
def examineHead (e : Env) (x : Sub) (c : Core) : Core × Bool :=
  match (c.bridge x).queue with
  | [] => (c, false)
  | t :: _ =>
    match finding e x t c with
    | .absorb v => (completeHead e x 4 none (storeValue e (some x) t.device t.register v c), true)
    | .fromShadow v => (completeHead e x 5 (some v) c, true)
    | .defer => (c.setHead x { t with state := .deferred, trapped := false, request := false }, false)
    | .toDevice => (c.setHead x (goToDevice t c), false)

/-- The head is examined, and each transaction that reaches the head after it (R141, R143). -/
def examineFrom (e : Env) (x : Sub) : Nat → Core → Core
  | 0, c => c
  | n + 1, c =>
    match examineHead e x c with
    | (c', true) => examineFrom e x n c'
    | (c', false) => c'

/-- An examination reaches at most every transaction of the queue once. -/
def examine (e : Env) (x : Sub) (c : Core) : Core := examineFrom e x (Config.bridgeSize + 1) c

/-- The head may be examined: it is not in flight, and not in its restart series, whose transfers are decided at their
own turns (R144). -/
def Core.headExaminable (c : Core) (x : Sub) : Bool :=
  match (c.bridge x).queue with
  | [] => false
  | t :: _ => decide (t.state ≠ .inFlight) && decide (t.state ≠ .restarting)

/-- The examination at a change of the view (R140; log entry 15). -/
def examineIfHeld (e : Env) (x : Sub) (c : Core) : Core := if c.headExaminable x then examine e x c else c

/-- The head waits for a device's power or for its replay list (R129, R140). -/
def Core.headWaitsFor (c : Core) (x : Sub) (d : Device) : Bool :=
  match (c.bridge x).queue with
  | [] => false
  | t :: _ => decide (t.state = .waitingPower) && decide (t.device = d)

/-- The heads that wait for a device are examined (R129, R140), A's first (log entry 16). -/
def examineWaiting (e : Env) (d : Device) (c : Core) : Core :=
  let c1 := if c.headWaitsFor .A d then examine e .A c else c
  if c1.headWaitsFor .B d then examine e .B c1 else c1

/-- When the last replay write of a device leaves the list, the heads that wait for it are examined (R140, R144). -/
def replayShortened (e : Env) (d : Device) (c : Core) : Core :=
  if c.rcc.replayPending d then c else examineWaiting e d c

/-- A completion, after which the next transaction reaches the head (R143). -/
def completeAndExamine (e : Env) (x : Sub) (outcome : Nat) (read : Option Half) (c : Core) : Core :=
  examine e x (completeHead e x outcome read c)

/-! ### The window view (R131) -/

/-- The view becomes none when the window it shows ends: the other stack's head is examined first, then the owner's
(R131, R140). A view that shows the next window already is kept (R142). -/
def viewNone (e : Env) (h : Handle) (c : Core) : Core :=
  match c.rcc.view with
  | none => c
  | some v =>
    if v.handle = h then
      let c1 := { c with rcc := { c.rcc with view := none } }
      examineIfHeld e v.owner (examineIfHeld e v.owner.other c1)
    else c

/-- X's head is DEFERRED. -/
def Core.headDeferred (c : Core) (x : Sub) : Bool :=
  match (c.bridge x).queue with
  | [] => false
  | t :: _ => decide (t.state = .deferred)

/-- The view shows a window that is being prepared: for the other stack it is foreign, and its head is examined
(R140). A head of the owner that is still DEFERRED, behind the window just ending, is examined too (R142; log entry
15). -/
def viewPreparing (e : Env) (x : Sub) (h : Handle) (c : Core) : Core :=
  let c1 := examineIfHeld e x.other { c with rcc := { c.rcc with view := some ⟨x, h, false⟩ } }
  if c1.headDeferred x then examine e x c1 else c1

/-- The view shows the window as ACTIVE, and the powered-since flag is cleared (R131, R135). -/
def viewActive (x : Sub) (h : Handle) (c : Core) : Core :=
  { c with rcc := { c.rcc with view := some ⟨x, h, true⟩, poweredSince := false } }

/-- A failed write with a window in the view marks its occurrence DEGRADED: a write to a COMMON or non-retained register
whoever it was made for, a write to a CONTEXT register when it was made for the window's owner (R136). -/
def degradeView (e : Env) (t : Transfer) (c : Core) : Core :=
  match c.rcc.view with
  | none => c
  | some v =>
    if c.scopeOf e t.device t.register ≠ some .context ∨ (t.owner = some v.owner ∧ t.ownerGone = false) then
      c.editReservation v.handle fun r => { r with degraded := true }
    else c

/-! ### Preparation records (R132, R135, R137) -/

/-- The required devices of a class: all four for a transmit class, all but the power amplifier for a receive
class (R6). -/
def Class.requires (k : Class) (d : Device) : Bool :=
  match k with
  | .access => true
  | .voice => true
  | .text => true
  | .page => decide (d ≠ .amplifier)
  | .measure => decide (d ≠ .amplifier)
  | .search => decide (d ≠ .amplifier)

/-- X has a set value in a CONTEXT entry of the device (R132). -/
def Rcc.holdsContext (r : Rcc) (x : Sub) (d : Device) : Bool :=
  r.shadow.any fun s => decide (s.entry.device = d) && decide (s.entry.scope = .context) && (s.own.get x).isSome

/-- The awaited devices of a preparation (R132). -/
def awaitedDevices (e : Env) (r : Reservation) (c : Core) : List Device :=
  Device.all.filter fun d =>
    e.has d && (r.cls.requires d || c.rcc.holdsContext r.owner d || r.staged.any fun w => decide (w.device = d))

/-- A transfer of the preparation that is in flight completes without marking or reporting (R137). -/
def Transfer.drop (t : Transfer) : Transfer := if t.cause = .preparation then { t with dropped := true } else t

/-- The RF Context Controller begins a preparation, with a power request for each awaited device that is OFF or
FALLING (R131, R132). A preparation still running, of a window at its end time, is dropped (R131, R137). -/
def beginPreparation (e : Env) (r : Reservation) (c : Core) : Core :=
  let awaited := awaitedDevices e r c
  let p : Prep :=
    { owner := r.owner, handle := r.handle, cls := r.cls, staged := r.staged, step := .awaitingPower, position := 0,
      tuningAtStart := c.rcc.tuningLive, tuningChanged := false, awaited := awaited,
      requests := awaited.filter fun d => (c.power d).isOffOrFalling }
  viewPreparing e r.owner r.handle
    { c with rcc := { c.rcc with prep := some p, bus := c.rcc.bus.map Transfer.drop } }

/-- The preparation in progress, if it is the handle's, is closed with its remaining writes (R137). -/
def Rcc.closePrep (r : Rcc) (h : Handle) : Rcc :=
  match r.prep with
  | none => r
  | some p => if p.handle = h then { r with prep := none, bus := r.bus.map Transfer.drop } else r

/-- A preparation is dropped: its remaining writes go, and the record and the view are closed (R131, R137). -/
def dropPreparation (e : Env) (h : Handle) (c : Core) : Core :=
  (viewNone e h { c with rcc := c.rcc.closePrep h }).trigger

/-! ### Devices entering and leaving ON (R129, R130) -/

def Transfer.leave (d : Device) (t : Transfer) : Transfer := if t.device = d then { t with deviceLeft := true } else t

/-- A device leaves ON: its live entries become UNKNOWN, its pending replay writes are dropped and its answer check is
cleared (R128, R129, R130). -/
def leavesOn (d : Device) (c : Core) : Core :=
  { c with rcc := { c.rcc with
      shadow := c.rcc.shadow.map fun s => if s.entry.device = d then { s with live := none } else s
      replay := c.rcc.replay.filter fun p => decide (p.device ≠ d)
      answering := c.rcc.answering.set d .answering
      bus := c.rcc.bus.map (Transfer.leave d) } }

/-- The replay list of a device: its COMMON entries whose value is set, in map order (R130). -/
def replayList (shadow : List ShadowEntry) (d : Device) (now : Time) : List Replay :=
  (List.range shadow.length).filterMap fun i =>
    match shadow[i]? with
    | none => none
    | some s =>
      if s.entry.device = d ∧ s.entry.scope = .common ∧ s.common.isSome then some ⟨i, d, now⟩ else none

/-- Replay writes are served in the order in which their devices came ON, and devices that came ON at one moment in
order of device number (R125). -/
def insertReplay (new : List Replay) (d : Device) (now : Time) (old : List Replay) : List Replay :=
  let later := fun p : Replay => decide (p.since = now) && decide (d.number < p.device.number)
  (old.takeWhile fun p => !later p) ++ new ++ old.dropWhile fun p => !later p

/-- A head that waits for a device's power no longer needs its power request (R156). -/
def Txn.powered (d : Device) (t : Txn) : Txn := if t.device = d then { t with request := false } else t

def Bridge.powered (d : Device) (b : Bridge) : Bridge := { b with queue := b.queue.map (Txn.powered d) }

/-- A device enters ON: power requests for it lapse, its replay list is built, its answer check is pending, the
powered-since flag is set for device 0, and the heads that wait for it are examined (R129, R130, R135). -/
def entersOn (e : Env) (d : Device) (c : Core) : Core :=
  examineWaiting e d { c with rcc := { c.rcc with
      replay := insertReplay (replayList c.rcc.shadow d e.count) d e.count c.rcc.replay
      answering := c.rcc.answering.set d .pending
      poweredSince := c.rcc.poweredSince || decide (d = .transceiver)
      prep := c.rcc.prep.map fun p => { p with requests := p.requests.filter fun q => decide (q ≠ d) }
      bridges := ⟨c.rcc.bridges.a.powered d, c.rcc.bridges.b.powered d⟩ } }

/-! ### Teardown (R147) -/

def Transfer.orphan (x : Sub) (t : Transfer) : Transfer := if t.owner = some x then { t with ownerGone := true } else t

/-- X's context values become UNSET, X's bridge queue is emptied without BRIDGE_DONE, and a transfer in flight for X
sets no value and posts nothing (R147). -/
def rccTeardown (x : Sub) (c : Core) : Core :=
  let c1 := { c with rcc := { c.rcc with
      shadow := c.rcc.shadow.map fun s => { s with own := s.own.set x none }
      bus := c.rcc.bus.map (Transfer.orphan x) } }
  if (c.bridge x).queue.isEmpty then c1 else (c1.setBridge x { c1.bridge x with queue := [] }).trigger

/-- A map entry as COORDINATOR_RESET leaves it: a COMMON value at its initial value or UNSET, the live value UNKNOWN
(R147). -/
def ShadowEntry.restart (s : ShadowEntry) : ShadowEntry :=
  match s.entry.scope with
  | .common => { s with common := s.entry.initial, live := none }
  | .context => { s with live := none }

/-- What COORDINATOR_RESET does to the RF Context Controller beyond the two teardowns (R147, R216). -/
def rccReset (c : Core) : Core :=
  { c with rcc := { c.rcc with
      shadow := c.rcc.shadow.map ShadowEntry.restart
      replay := []
      answering := ⟨.answering, .answering, .answering, .answering⟩
      poweredSince := false
      lastServed := .B
      bus := c.rcc.bus.map fun t => { t with void := true } } }

end Sys2Proof.Machine
end

