-- ==== Sys2Proof/Machine/Power.lean ====
section
/-! DEFINITION. The Power and Sleep Controller (chapter 7): device power, demand and wake times, sleep entry, aborts and
wakes. -/

namespace Sys2Proof.Machine

def Env.delay (e : Env) (d : Device) : Nat := e.image.delays.get d

/-! ### Views of the sleep state (R151, R154, R162) -/

def Sleep.kind : Sleep → SleepKind
  | .awake => .awake
  | .settlingDown _ _ => .settlingDown
  | .light _ => .light
  | .deep _ => .deep
  | .waking _ => .waking

/-- Which clock advances the count (R151, R162). -/
def Sleep.source : Sleep → ClockSource
  | .deep _ => .sleep
  | .waking _ => .sleep
  | _ => .main

/-- CLK_REQ (R162). -/
def Sleep.clockRequest : Sleep → Bool
  | .deep _ => false
  | _ => true

/-- PEN of a device: high in RISING and ON, low otherwise and for an absent device (R154). -/
def Core.enableLine (e : Env) (c : Core) (d : Device) : Bool :=
  e.has d && (match c.power d with
    | .rising _ => true
    | .on => true
    | _ => false)

/-- The wake time held (R162). -/
def Sleep.wake : Sleep → Option Time
  | .settlingDown _ w => w
  | .light w => w
  | .deep w => w
  | _ => none

/-! ### Demand and wake times -/

/-- The starts of the GRANTED occurrences, each less a lead that goes with its class. -/
def grantedLess (lead : Class → Nat) (rs : List Reservation) : List Time :=
  rs.filterMap fun r => if r.state = .granted then some (r.start - tu (lead r.cls)) else none

/-- The demand time of a device: the earliest of start − 4 tu − its power-on delay over the GRANTED occurrences whose
class requires it (R157). -/
def demandTimeOf (e : Env) (c : Core) (d : Device) : Option Time :=
  earliest (grantedLess (fun _ => Config.guardGap + e.delay d) (c.tla.table.filter fun r => r.cls.requires d))

/-- The lead of a class: 4 tu plus the largest power-on delay among its required devices, 0 when none is present (R164;
log entry 12). -/
def leadOf (e : Env) (k : Class) : Nat :=
  Config.guardGap + ((Device.all.filter fun d => e.has d && k.requires d).map e.delay).foldl max 0

/-- W_light (R164). -/
def wakeLight (e : Env) (c : Core) : Option Time := earliest (grantedLess (leadOf e) c.tla.table)

/-- The wake time of a target: W_light, or W_deep = W_light − clock settle (R164). -/
def wakeFor (e : Env) (c : Core) : Target → Option Time
  | .light => wakeLight e c
  | .deep => (wakeLight e c).map fun t => t - tu e.image.clockSettle

/-- A wake time is absent or at least `n` tu after now (R165, R166). -/
def farEnough (e : Env) (n : Nat) : Option Time → Bool
  | none => true
  | some w => passed w e.count n

/-- The threshold of a target (R166). -/
def Env.threshold (e : Env) : Target → Nat
  | .light => e.image.lightThreshold
  | .deep => e.image.deepThreshold

/-- A device is wanted: its demand time is present and at or before now, or a power request stands for it (R156). -/
def wanted (e : Env) (c : Core) (d : Device) : Bool :=
  reachedOpt e.count (demandTimeOf e c d) || c.rcc.powerRequest d

/-! ### Sleep state changes -/

def Core.setSleep (c : Core) (s : Sleep) : Core := { c with psc := { c.psc with sleep := s } }

/-- The source changes to MAIN with the fraction discarded and the divider position 0 (R153). -/
def Core.mainClock (c : Core) : Core := { c with psc := { c.psc with divider := 0, fraction := 0 } }

/-- The source changes to SLEEP with the divider position discarded and the fraction 0 (R153). -/
def Core.sleepClock (c : Core) : Core := { c with psc := { c.psc with divider := 0, fraction := 0 } }

/-- A demand or a preparation taken in any state but AWAKE brings the part AWAKE first (R172). -/
def forceAwake (c : Core) : Core :=
  match c.psc.sleep with
  | .awake => c
  | .settlingDown _ _ => c.setSleep .awake
  | .light _ => c.setSleep .awake
  | .deep _ => (c.setSleep .awake).mainClock
  | .waking _ => (c.setSleep .awake).mainClock

/-- DEEP is left for WAKING, with settle end now + the clock settle time (R170). -/
def beginWaking (e : Env) (c : Core) : Core := c.setSleep (.waking (e.count + tu e.image.clockSettle))

/-- The wake time held is reached: SETTLING_DOWN aborts and an entry evaluation runs, LIGHT goes AWAKE, DEEP goes
WAKING (R168, R169). -/
def wakeReached (e : Env) (c : Core) : Core :=
  match c.psc.sleep with
  | .settlingDown _ _ => (c.setSleep .awake).trigger
  | .light _ => c.setSleep .awake
  | .deep _ => beginWaking e c
  | _ => c

/-- The wake time is worked out again while the part is settling down or asleep (R168, R169). -/
def recomputeWake (e : Env) (c : Core) : Core :=
  match c.psc.sleep with
  | .settlingDown t _ =>
    if farEnough e (e.threshold t) (wakeFor e c t) then c.setSleep (.settlingDown t (wakeFor e c t))
    else (c.setSleep .awake).trigger
  | .light _ =>
    let c1 := c.setSleep (.light (wakeFor e c .light))
    if reachedOpt e.count (wakeFor e c .light) then wakeReached e c1 else c1
  | .deep _ =>
    let c1 := c.setSleep (.deep (wakeFor e c .deep))
    if reachedOpt e.count (wakeFor e c .deep) then wakeReached e c1 else c1
  | _ => c

/-! ### Device power (R155) -/

def Core.setPower (c : Core) (d : Device) (p : Power) : Core :=
  { c with psc := { c.psc with power := c.psc.power.set d p } }

/-- A device goes RISING, with rise end now + its power-on delay; the part is brought AWAKE first (R155, R172). -/
def rise (e : Env) (d : Device) (c : Core) : Core :=
  (forceAwake c).setPower d (.rising (e.count + tu (e.delay d)))

/-- An OFF device that is wanted rises at once (R156). -/
def raiseIfWanted (e : Env) (c : Core) (d : Device) : Core :=
  if e.has d && decide (c.power d = .off) && wanted e c d then rise e d c else c

def raiseWanted (e : Env) (c : Core) : Core := Device.all.foldl (raiseIfWanted e) c

/-- A device goes FALLING, with fall end now + off-settle; the RF Context Controller is told when it leaves ON
(R155). -/
def fall (e : Env) (c : Core) (d : Device) : Core :=
  match c.power d with
  | .rising _ => c.setPower d (.falling (e.count + tu e.image.offSettle))
  | .on => leavesOn d (c.setPower d (.falling (e.count + tu e.image.offSettle)))
  | _ => c

/-- Every present device that is RISING or ON goes FALLING (R155, R166). -/
def fallAll (e : Env) (c : Core) : Core := (Device.all.filter e.has).foldl (fall e) c

/-- A RISING device enters ON (R155). -/
def enterOn (e : Env) (d : Device) (c : Core) : Core := entersOn e d (c.setPower d .on)

/-- A FALLING device reaches its fall end: RISING when it is wanted, OFF otherwise (R155). -/
def finishFall (e : Env) (d : Device) (c : Core) : Core :=
  if wanted e c d then rise e d c else c.setPower d .off

/-! ### Notices of the Timeline Arbiter (R23) -/

/-- Each placement, removal of a GRANTED occurrence, freed record and window end: the wake time and every demand time
are worked out again (R157, R169). -/
def tableNotice (e : Env) (c : Core) : Core := raiseWanted e (recomputeWake e c)

/-- A GRANTED occurrence whose class requires the device starts before now + 4 + off-settle + its power-on delay
(R158). -/
def neededSoon (e : Env) (c : Core) (d : Device) : Bool :=
  c.tla.table.any fun r =>
    decide (r.state = .granted) && r.cls.requires d
      && before r.start (e.count + tu (Config.guardGap + e.image.offSettle + e.delay d))

/-- The power-down check of one device at a window end (R158). DEDUCED (log entry 53): a window that is in the view when the
notice comes is the next one, whose preparation was taken first; nothing is powered down then, also when that preparation has
made its writes already, since no device is powered down within a window (R136). -/
def powerDownCheck (e : Env) (c : Core) (d : Device) : Core :=
  if e.has d && c.isOn d && c.rcc.view.isNone && !c.rcc.holdsWork d && !neededSoon e c d then fall e c d else c

/-- The window-end notice: the power-down check, the recomputations, and a trigger of the sleep entry evaluation
(R158, R165). -/
def windowEndNotice (e : Env) (c : Core) : Core :=
  (tableNotice e (Device.all.foldl (powerDownCheck e) c)).trigger

/-- A record has been freed (R23, R165). -/
def freedNotice (e : Env) (c : Core) : Core := (tableNotice e c).trigger

/-! ### Sleep entry (R165 to R167) -/

/-- A stack lets the part sleep: it is not ATTACHED, or its consent is set (R163). -/
def Core.consents (c : Core) (x : Sub) : Bool := !c.attached x || c.psc.consent.get x

/-- Every condition of the sleep entry evaluation (R165); none runs before the load has ended (R162). -/
def maySleep (e : Env) (c : Core) : Bool :=
  decide (e.load.phase = .ended)
    && decide (c.psc.sleep = .awake)
    && (c.tla.table.all fun r => decide (r.state ≠ .preparing) && decide (r.state ≠ .active))
    && c.rcc.bridges.a.queue.isEmpty && c.rcc.bridges.b.queue.isEmpty
    && c.rcc.bus.isNone
    && (Device.all.all fun d => !e.has d || !c.rcc.holdsWork d)
    && c.consents .A && c.consents .B
    && !c.psc.stayAwake
    && farEnough e e.image.lightThreshold (wakeLight e c)

/-- The target of a sleep entry (R166). -/
def chooseTarget (e : Env) (c : Core) : Target :=
  if e.image.deepAllowed && farEnough e e.image.deepThreshold (wakeFor e c .deep) then .deep else .light

/-- Sleep entry: SETTLING_DOWN with its target and wake time, every RISING or ON device FALLING (R166). -/
def enterSleep (e : Env) (c : Core) : Core :=
  fallAll e (c.setSleep (.settlingDown (chooseTarget e c) (wakeFor e c (chooseTarget e c))))

/-- The sleep entry evaluation, taken whole at now (R165). -/
def evaluateSleep (e : Env) (c : Core) : Core :=
  let c1 := { c with evaluate := false }
  if maySleep e c1 then enterSleep e c1 else c1

/-- Every present device is OFF (R167). -/
def allOff (e : Env) (c : Core) : Bool := Device.all.all fun d => !e.has d || decide (c.power d = .off)

/-- SETTLING_DOWN ends: the state becomes the target, and in DEEP the source changes to SLEEP (R153, R167). -/
def settledDown (t : Target) (w : Option Time) (c : Core) : Core :=
  match t with
  | .light => c.setSleep (.light w)
  | .deep => (c.setSleep (.deep w)).sleepClock

end Sys2Proof.Machine
end

