-- ==== Sys2Proof/Machine/Flags.lean ====
section
/-! DEFINITION. What the part shows without storing it: the bars (R87), the attention lines (R204) and the summary bytes
(R200, R201). -/

namespace Sys2Proof.Machine

/-! ### Bars (R87) -/

/-- The bars of a serving level. -/
def barsOfLevel (q : Int) : Nat :=
  if -5440 ≤ q then 5
  else if -6080 ≤ q then 4
  else if -6720 ≤ q then 3
  else if -7168 ≤ q then 2
  else if -7680 ≤ q then 1
  else 0

/-- The bars of a subscription: 0 with no SERVING record, an EMPTY one or a stale one (R87). -/
def bars (e : Env) (c : Core) (x : Sub) : Nat :=
  match servingCell (c.cells x).slots with
  | none => 0
  | some r => match r.level with
    | none => 0
    | some l => if l.staleAt (c.cells x).stale e.count then 0 else barsOfLevel l.value

/-! ### Attention lines (R204) -/

/-- ATN of a port: asserted while its event queue holds at least one record. -/
def attention (c : Core) (port : Port) : Bool := !(c.pif.get port).events.isEmpty

/-! ### Summary bytes (R200, R201, R219) -/

def bitAt (n : Nat) (b : Bool) : Byte := if b then BitVec.ofNat 8 (2 ^ n) else 0

/-- Bits 7 and 6: events pending and overflow occurred. -/
def queueBits (q : EventQueue) : Byte := bitAt 7 (!q.events.isEmpty) ||| bitAt 6 (decide (0 < q.overflow))

/-- The stack port's summary byte (R200). -/
def stackSummary (c : Core) (x : Sub) : Byte :=
  queueBits (c.pif.get (.stack x))
    ||| BitVec.ofNat 8 (16 * (c.ssv.get x).state.code)
    ||| bitAt 3 (decide ((c.csc.get x).coverage = .inService))
    ||| BitVec.ofNat 8 c.psc.sleep.kind.code

/-- A voice session in ACTIVE exists (R201). -/
def Core.voiceActive (c : Core) : Bool :=
  match c.voiceSession with
  | none => false
  | some (_, v) => v.traffic.isSome

/-- The Application Port's summary byte (R201). -/
def appSummary (e : Env) (c : Core) : Byte :=
  queueBits (c.pif.get .app)
    ||| bitAt 5 (decide ((c.ssv.get .A).state = .lost))
    ||| bitAt 4 (decide ((c.ssv.get .B).state = .lost))
    ||| bitAt 3 e.alert
    ||| bitAt 2 c.voiceActive

/-- The summary byte of a port (R200, R201). -/
def summary (e : Env) (c : Core) : Port → Byte
  | .stack x => stackSummary c x
  | .app => appSummary e c

end Sys2Proof.Machine
end

