-- ==== Sys2Proof/Machine/Operands.lean ====
section
/-! DEFINITION. Bytes on the links (chapter 11, R195, R196, R219): the CRC, the fields of payloads, event records, and
the reading and writing of request frames. -/

namespace Sys2Proof.Machine

/-! ### Bits of the links (R193) -/

/-- The bytes shifted in, most significant bit first; bits left over after the last whole byte are discarded (R193). -/
def wholeBytes : List Bool → List Byte
  | b7 :: b6 :: b5 :: b4 :: b3 :: b2 :: b1 :: b0 :: rest =>
    BitVec.ofNat 8 (bitsToNat [b7, b6, b5, b4, b3, b2, b1, b0]) :: wholeBytes rest
  | _ => []

/-- A byte as a link carries it, most significant bit first (R193). -/
def bitsOfByte (b : Byte) : List Bool :=
  [b.getLsbD 7, b.getLsbD 6, b.getLsbD 5, b.getLsbD 4, b.getLsbD 3, b.getLsbD 2, b.getLsbD 1, b.getLsbD 0]

def bitsOfBytes (bytes : List Byte) : List Bool := (bytes.map bitsOfByte).flatten

/-! ### The CRC (R196) -/

/-- One shift of the register: when the bit leaving at the top was 1, 0x2F is combined in (R196). -/
def crcShift (r : Byte) : Byte := if r.msb then (r <<< 1) ^^^ 0x2F else r <<< 1

/-- A byte is combined into the register, which is then shifted eight times (R196). -/
def crcByte (r b : Byte) : Byte :=
  crcShift (crcShift (crcShift (crcShift (crcShift (crcShift (crcShift (crcShift (r ^^^ b))))))))

/-- The CRC of a run of bytes: the register starts at 0xFF (R196). -/
def crc (bytes : List Byte) : Byte := bytes.foldl crcByte 0xFF

/-! ### Fields, most significant byte first (R219) -/

def bytes8 (n : Nat) : List Byte := [BitVec.ofNat 8 n]

def bytes16 (h : Half) : List Byte := [h.extractLsb' 8 8, h.extractLsb' 0 8]

def bytes32 (w : BitVec 32) : List Byte :=
  [w.extractLsb' 24 8, w.extractLsb' 16 8, w.extractLsb' 8 8, w.extractLsb' 0 8]

def nat16 (n : Nat) : List Byte := bytes16 (BitVec.ofNat 16 n)

def nat32 (n : Nat) : List Byte := bytes32 (BitVec.ofNat 32 n)

/-- A yes/no field as the part writes it (R219). -/
def yesNo (b : Bool) : List Byte := [if b then 1 else 0]

/-- A field given as "or none": a presence byte, then the field, whose bytes are 0 when it is absent (R219). `size` is
the field's length. -/
def orNone {α : Type} (size : Nat) (write : α → List Byte) : Option α → List Byte
  | none => 0 :: List.replicate size 0
  | some a => 1 :: write a

def bytesHandle (h : Handle) : List Byte := [h.index, h.generation]

def bytesKey (k : CellKey) : List Byte := bytes16 k.frequency ++ bytes16 k.identity

/-- A handle or none, and a time or none. -/
def handleOrNone (h : Option Handle) : List Byte := orNone 2 bytesHandle h

def timeOrNone (t : Option Time) : List Byte := orNone 4 bytes32 t

/-! ### Event records (R203, R219) -/

/-- Subject type, subscription and identifier: six bytes (R219). -/
def Subject.bytes : Subject → List Byte
  | .none => [0, 0xFF, 0xFF, 0xFF, 0xFF, 0xFF]
  | .reservation x h => [1, BitVec.ofNat 8 (Sub.code x), h.index, h.generation, 0, 0]
  | .session x h => [2, BitVec.ofNat 8 (Sub.code x), h.index, h.generation, 0, 0]
  | .ticket x t => [3, BitVec.ofNat 8 (Sub.code x), t, 0, 0, 0]
  | .cell x k => [4, BitVec.ofNat 8 (Sub.code x)] ++ bytesKey k
  | .subscription x => [5, BitVec.ofNat 8 (Sub.code x), 0, 0, 0, 0]

/-- The 15 bytes of an event record (R219). -/
def Event.bytes (ev : Event) : List Byte :=
  bytes8 ev.kind.code ++ ev.subject.bytes ++ bytes32 ev.time ++ bytes16 ev.value1 ++ bytes16 ev.value2

/-! ### Reading fields -/

def byteAt (p : List Byte) (i : Nat) : Byte := (p[i]?).getD 0

def halfAt (p : List Byte) (i : Nat) : Half := byteAt p i ++ byteAt p (i + 1)

def wordAt (p : List Byte) (i : Nat) : BitVec 32 := halfAt p i ++ halfAt p (i + 2)

def flagAt (p : List Byte) (i : Nat) : Bool := decide (byteAt p i ≠ 0)

def handleAt (p : List Byte) (i : Nat) : Handle := ⟨byteAt p i, byteAt p (i + 1)⟩

def keyAt (p : List Byte) (i : Nat) : CellKey := ⟨halfAt p i, halfAt p (i + 2)⟩

/-- A presence byte: 0 absent, 1 present (R219); any other value is a free value (log entry 3). -/
def presentAt (p : List Byte) (i : Nat) : Bool :=
  if byteAt p i = 0 then false else if byteAt p i = 1 then true else Config.presenceByte (byteAt p i)

/-- The cells of a RESERVE payload, from offset 22 on. -/
def cellsAt (p : List Byte) : Nat → Nat → List CellKey
  | _, 0 => []
  | i, n + 1 => keyAt p i :: cellsAt p (i + 4) n

/-! ### Request frames (R195, R219) -/

/-- What the command byte and the payload of a whole frame spell (R198). -/
inductive FrameReading where
  | unknown
  | badLength
  | request (i : Instr)
  deriving DecidableEq, Repr

/-- A payload whose length the command table gives for the command (R198, R219). -/
def exactly (n : Nat) (p : List Byte) (i : Instr) : FrameReading := if p.length = n then .request i else .badLength

/-- A RESERVE payload: 22 + 4 × cells bytes, cells 0 to 9 (R219). -/
def readReserve (port : Port) (seq : Byte) (p : List Byte) : FrameReading :=
  if 22 ≤ p.length ∧ p.length ≤ 58 ∧ p.length % 4 = 2 then
    .request (.reserve port seq (byteAt p 0) (flagAt p 1) (wordAt p 2) (halfAt p 6) (halfAt p 8) (halfAt p 10)
      (byteAt p 12) (wordAt p 13) (halfAt p 17) (if presentAt p 19 then some (handleAt p 20) else none)
      (cellsAt p 22 ((p.length - 22) / 4)))
  else .badLength

/-- The request a whole frame carries, by the command table (R219). -/
def readRequest (port : Port) (seq code : Byte) (p : List Byte) : FrameReading :=
  match code.toNat with
  | 0x00 => exactly 0 p (.fetch port seq)
  | 0x01 => exactly 0 p (.eventRead port seq)
  | 0x02 => exactly 0 p (.linkRead port seq)
  | 0x03 => exactly 0 p (.attach port seq)
  | 0x04 => exactly 0 p (.detach port seq)
  | 0x08 => exactly 0 p (.statusRead port seq)
  | 0x09 => exactly 14 p (.policySet port seq (byteAt p 0) (byteAt p 1) (wordAt p 2) (wordAt p 6) (wordAt p 10))
  | 0x0A => exactly 0 p (.coordinatorReset port seq)
  | 0x0B => exactly 0 p (.configRead port seq)
  | 0x10 => readReserve port seq p
  | 0x11 => exactly 2 p (.withdraw port seq (handleAt p 0))
  | 0x12 => exactly 6 p (.stage port seq (handleAt p 0) (byteAt p 2) (byteAt p 3) (halfAt p 4))
  | 0x13 => exactly 2 p (.reservationRead port seq (handleAt p 0))
  | 0x18 => exactly 1 p (.voiceOpen port seq (flagAt p 0))
  | 0x19 => exactly 13 p (.voiceConnect port seq (handleAt p 0) (halfAt p 2) (halfAt p 4) (wordAt p 6) (halfAt p 10)
      (byteAt p 12))
  | 0x1A => exactly 2 p (.voiceRelease port seq (handleAt p 0))
  | 0x1B => exactly 7 p (.textSubmit port seq (byteAt p 0) (halfAt p 1) (flagAt p 3) (halfAt p 4) (byteAt p 6))
  | 0x1C => exactly 3 p (.segmentResult port seq (handleAt p 0) (byteAt p 2))
  | 0x1D => exactly 2 p (.textCancel port seq (handleAt p 0))
  | 0x1E => exactly 2 p (.sessionRead port seq (handleAt p 0))
  | 0x20 => exactly 6 p (.cellSet port seq (keyAt p 0) (byteAt p 4) (flagAt p 5))
  | 0x21 => exactly 4 p (.cellRemove port seq (keyAt p 0))
  | 0x22 => exactly 2 p (.cellRead port seq (byteAt p 0) (byteAt p 1))
  | 0x23 => exactly 5 p (.filterSet port seq (byteAt p 0) (wordAt p 1))
  | 0x24 => exactly 1 p (.flagsRead port seq (byteAt p 0))
  | 0x28 => exactly 4 p (.servingSet port seq (keyAt p 0))
  | 0x29 => exactly 6 p (.handoverDone port seq (keyAt p 0) (halfAt p 4))
  | 0x2A => exactly 11 p (.handoverSet port seq (byteAt p 0) (wordAt p 1) (halfAt p 5) (wordAt p 7))
  | 0x30 => exactly 0 p (.serviceLost port seq)
  | 0x31 => exactly 5 p (.searchResult port seq (byteAt p 0) (keyAt p 1))
  | 0x32 => exactly 3 p (.searchPlan port seq (halfAt p 0) (byteAt p 2))
  | 0x33 => exactly 1 p (.searchRestart port seq (byteAt p 0))
  | 0x38 => exactly 4 p (.rfWrite port seq (byteAt p 0) (byteAt p 1) (halfAt p 2))
  | 0x39 => exactly 2 p (.rfRead port seq (byteAt p 0) (byteAt p 1))
  | 0x3A => exactly 2 p (.contextRead port seq (byteAt p 0) (byteAt p 1))
  | 0x40 => exactly 0 p (.timeRead port seq)
  | 0x41 => exactly 2 p (.calibrate port seq (halfAt p 0))
  | 0x42 => exactly 1 p (.sleepConsent port seq (byteAt p 0))
  | 0x43 => exactly 1 p (.stayAwake port seq (byteAt p 0))
  | _ => .unknown

/-- A whole frame: the sequence byte, the command code and the payload (R195). -/
structure WholeFrame where
  code : Byte
  seq : Byte
  payload : List Byte
  deriving DecidableEq, Repr

/-- A received frame is whole when it has at least 4 bytes, its length byte is 60 or less, it has at least 4 + length
bytes, and the CRC over those comes to 0; what follows is filler (R195). -/
def wholeFrame (received : List Byte) : Option WholeFrame :=
  match received with
  | code :: seq :: n :: rest =>
    if n.toNat ≤ Config.requestMax ∧ n.toNat + 1 ≤ rest.length
        ∧ crc (code :: seq :: n :: rest.take (n.toNat + 1)) = 0 then
      some ⟨code, seq, rest.take n.toNat⟩
    else none
  | _ => none

/-- A request's payload as a frame carries it (R219), with the command code. -/
def requestPayload : Instr → Option (Byte × List Byte)
  | .fetch _ _ => some (0x00, [])
  | .eventRead _ _ => some (0x01, [])
  | .linkRead _ _ => some (0x02, [])
  | .attach _ _ => some (0x03, [])
  | .detach _ _ => some (0x04, [])
  | .statusRead _ _ => some (0x08, [])
  | .policySet _ _ preferred credit refill limitA limitB =>
    some (0x09, [preferred, credit] ++ bytes32 refill ++ bytes32 limitA ++ bytes32 limitB)
  | .coordinatorReset _ _ => some (0x0A, [])
  | .configRead _ _ => some (0x0B, [])
  | .reserve _ _ cls emergency desired slack length frequency band period count session cells =>
    some (0x10, [cls] ++ yesNo emergency ++ bytes32 desired ++ bytes16 slack ++ bytes16 length ++ bytes16 frequency
      ++ [band] ++ bytes32 period ++ bytes16 count ++ handleOrNone session ++ (cells.map bytesKey).flatten)
  | .withdraw _ _ h => some (0x11, bytesHandle h)
  | .stage _ _ h device register value => some (0x12, bytesHandle h ++ [device, register] ++ bytes16 value)
  | .reservationRead _ _ h => some (0x13, bytesHandle h)
  | .voiceOpen _ _ emergency => some (0x18, yesNo emergency)
  | .voiceConnect _ _ h period length anchor frequency band =>
    some (0x19, bytesHandle h ++ bytes16 period ++ bytes16 length ++ bytes32 anchor ++ bytes16 frequency ++ [band])
  | .voiceRelease _ _ h => some (0x1A, bytesHandle h)
  | .textSubmit _ _ segments length urgent frequency band =>
    some (0x1B, [segments] ++ bytes16 length ++ yesNo urgent ++ bytes16 frequency ++ [band])
  | .segmentResult _ _ h result => some (0x1C, bytesHandle h ++ [result])
  | .textCancel _ _ h => some (0x1D, bytesHandle h)
  | .sessionRead _ _ h => some (0x1E, bytesHandle h)
  | .cellSet _ _ key offset barred => some (0x20, bytesKey key ++ [offset] ++ yesNo barred)
  | .cellRemove _ _ key => some (0x21, bytesKey key)
  | .cellRead _ _ sub slot => some (0x22, [sub, slot])
  | .filterSet _ _ k stale => some (0x23, [k] ++ bytes32 stale)
  | .flagsRead _ _ sub => some (0x24, [sub])
  | .servingSet _ _ key => some (0x28, bytesKey key)
  | .handoverDone _ _ key offset => some (0x29, bytesKey key ++ bytes16 offset)
  | .handoverSet _ _ hysteresis ttt weak hold =>
    some (0x2A, [hysteresis] ++ bytes32 ttt ++ bytes16 weak ++ bytes32 hold)
  | .serviceLost _ _ => some (0x30, [])
  | .searchResult _ _ result key => some (0x31, [result] ++ bytesKey key)
  | .searchPlan _ _ frequency band => some (0x32, bytes16 frequency ++ [band])
  | .searchRestart _ _ sub => some (0x33, [sub])
  | .rfWrite _ _ device register value => some (0x38, [device, register] ++ bytes16 value)
  | .rfRead _ _ device register => some (0x39, [device, register])
  | .contextRead _ _ sub entry => some (0x3A, [sub, entry])
  | .timeRead _ _ => some (0x40, [])
  | .calibrate _ _ step => some (0x41, bytes16 step)
  | .sleepConsent _ _ consent => some (0x42, [consent])
  | .stayAwake _ _ hold => some (0x43, [hold])
  | .linkTransactionBegin _ => none
  | .linkTransactionEnd _ _ => none
  | .preparationRequest => none
  | .windowStart => none
  | .windowEnd => none
  | .sampleReport _ => none
  | .holdExpiry _ => none
  | .searchResultDeadline _ => none
  | .searchDueTime _ => none
  | .textResultDeadline _ => none
  | .busTransferEnd _ _ => none
  | .busTransferTimeout => none
  | .riseEnd _ => none
  | .fallEnd _ => none
  | .demandTime _ => none
  | .wakeTime => none
  | .settleEnd => none
  | .timelineClockAdvance _ => none
  | .battLineChange _ _ => none
  | .supplyStabilityTime => none
  | .silenceMonitorExpiry _ => none
  | .powerOnReset => none
  | .resetNRise => none
  | .configByteRead _ => none

/-- The port and the sequence byte of the frame that carries a request; an event has none. -/
def requestHead : Instr → Option (Port × Byte)
  | .fetch port seq => some (port, seq)
  | .eventRead port seq => some (port, seq)
  | .linkRead port seq => some (port, seq)
  | .attach port seq => some (port, seq)
  | .detach port seq => some (port, seq)
  | .statusRead port seq => some (port, seq)
  | .policySet port seq _ _ _ _ _ => some (port, seq)
  | .coordinatorReset port seq => some (port, seq)
  | .configRead port seq => some (port, seq)
  | .reserve port seq _ _ _ _ _ _ _ _ _ _ _ => some (port, seq)
  | .withdraw port seq _ => some (port, seq)
  | .stage port seq _ _ _ _ => some (port, seq)
  | .reservationRead port seq _ => some (port, seq)
  | .voiceOpen port seq _ => some (port, seq)
  | .voiceConnect port seq _ _ _ _ _ _ => some (port, seq)
  | .voiceRelease port seq _ => some (port, seq)
  | .textSubmit port seq _ _ _ _ _ => some (port, seq)
  | .segmentResult port seq _ _ => some (port, seq)
  | .textCancel port seq _ => some (port, seq)
  | .sessionRead port seq _ => some (port, seq)
  | .cellSet port seq _ _ _ => some (port, seq)
  | .cellRemove port seq _ => some (port, seq)
  | .cellRead port seq _ _ => some (port, seq)
  | .filterSet port seq _ _ => some (port, seq)
  | .flagsRead port seq _ => some (port, seq)
  | .servingSet port seq _ => some (port, seq)
  | .handoverDone port seq _ _ => some (port, seq)
  | .handoverSet port seq _ _ _ _ => some (port, seq)
  | .serviceLost port seq => some (port, seq)
  | .searchResult port seq _ _ => some (port, seq)
  | .searchPlan port seq _ _ => some (port, seq)
  | .searchRestart port seq _ => some (port, seq)
  | .rfWrite port seq _ _ _ => some (port, seq)
  | .rfRead port seq _ _ => some (port, seq)
  | .contextRead port seq _ _ => some (port, seq)
  | .timeRead port seq => some (port, seq)
  | .calibrate port seq _ => some (port, seq)
  | .sleepConsent port seq _ => some (port, seq)
  | .stayAwake port seq _ => some (port, seq)
  | .linkTransactionBegin _ => none
  | .linkTransactionEnd _ _ => none
  | .preparationRequest => none
  | .windowStart => none
  | .windowEnd => none
  | .sampleReport _ => none
  | .holdExpiry _ => none
  | .searchResultDeadline _ => none
  | .searchDueTime _ => none
  | .textResultDeadline _ => none
  | .busTransferEnd _ _ => none
  | .busTransferTimeout => none
  | .riseEnd _ => none
  | .fallEnd _ => none
  | .demandTime _ => none
  | .wakeTime => none
  | .settleEnd => none
  | .timelineClockAdvance _ => none
  | .battLineChange _ _ => none
  | .supplyStabilityTime => none
  | .silenceMonitorExpiry _ => none
  | .powerOnReset => none
  | .resetNRise => none
  | .configByteRead _ => none

/-- A request frame, closed by its CRC (R195, R196, R219). -/
def frameBytes (code seq : Byte) (payload : List Byte) : List Byte :=
  let body := [code, seq, BitVec.ofNat 8 payload.length] ++ payload
  body ++ [crc body]

/-- The frame that carries a request with a sequence byte. -/
def requestFrame (seq : Byte) (i : Instr) : List Byte :=
  match requestPayload i with
  | none => []
  | some (code, payload) => frameBytes code seq payload

end Sys2Proof.Machine
end

