-- ==== Sys2Proof/Machine/Handover.lean ====
section
/-! DEFINITION. The Handover Evaluator's evaluation (chapter 4), and the closing of the Measurement Unit's view, which
asks for it. -/

namespace Sys2Proof.Machine

/-! ### Conditions (R95, R97) -/

/-- The serving cell's WEAK condition brought forward (R95, R97): the state after, and the event posted. -/
def judgeWeak (now : Time) (ttt : Nat) (threshold q : Int) (w : WeakState) : WeakState × Option EventKind :=
  let report := fun entry : Time =>
    if passed now entry ttt then (WeakState.reported entry, some EventKind.servingWeak)
    else (WeakState.pending entry, none)
  match w with
  | .clear => if q < threshold then report now else (.clear, none)
  | .pending entry => if threshold + 64 ≤ q then (.clear, none) else report entry
  | .reported entry => if threshold + 64 ≤ q then (.clear, some .servingRecovered) else (.reported entry, none)

/-- A neighbour's BETTER condition brought forward from Q_n − Q_s (R95, R97): the record after, and whether
HO_CANDIDATE is posted. `h` is the stored hysteresis. -/
def judgeBetter (now : Time) (ttt : Nat) (h diff : Int) (r : Cell) : Cell × Bool :=
  match r.entry with
  | none =>
    if h < diff then
      if passed now now ttt then ({ r with entry := some now, reported := true }, true)
      else ({ r with entry := some now, reported := false }, false)
    else (r, false)
  | some entry =>
    if diff ≤ h - 64 then ({ r with entry := none, reported := false }, false)
    else if !r.reported && passed now entry ttt then ({ r with reported := true }, true)
    else (r, false)

/-- A record whose timing is lost (R101, R102). -/
def Cell.untimed (r : Cell) : Cell := { r with entry := none, reported := false }

/-- The ranking value of a neighbour's level: F + 32 × offset (R94). -/
def rankValue (l : Level) (offset : Int) : Int := l.value + 32 * offset

/-- One slot of the walk of R102: the record after, and the event posted. -/
def judgeSlot (e : Env) (x : Sub) (p : Hoe) (limit : Nat) (qs : Int) (r : Cell) : Cell × List Event :=
  match r.role, r.level with
  | .serving, _ => (r, [])
  | .neighbour, none => (r.untimed, [])
  | .neighbour, some l =>
    if !l.staleAt limit e.count && !r.barred then
      let qn := rankValue l r.offset
      match judgeBetter e.count p.ttt (32 * p.hysteresis) (qn - qs) r with
      | (r', true) => (r', [Event.now e .hoCandidate (.cell x r.key) (signed16 qn) (signed16 qs)])
      | (r', false) => (r', [])
    else (r.untimed, [])

/-- The NEIGHBOUR records in slot order (R102). -/
def judgeSlots (e : Env) (x : Sub) (p : Hoe) (limit : Nat) (qs : Int) :
    List (Option Cell) → List (Option Cell) × List Event
  | [] => ([], [])
  | none :: rest =>
    let (slots, evs) := judgeSlots e x p limit qs rest
    (none :: slots, evs)
  | some r :: rest =>
    let (r', ev) := judgeSlot e x p limit qs r
    let (slots, evs) := judgeSlots e x p limit qs rest
    (some r' :: slots, ev ++ evs)

def Core.setHoe (c : Core) (x : Sub) (h : Hoe) : Core := { c with hoe := c.hoe.set x h }

/-- The events of an evaluation go to the subscription's stack port (R98). -/
def postAll (e : Env) (port : Port) (evs : List Event) (c : Core) : Core :=
  evs.foldl (fun c' ev => post e port ev c') c

/-- No usable serving reference: the neighbours' timing is reset, and a PENDING weak state becomes CLEAR (R101). -/
def resetTiming (x : Sub) (c : Core) : Core :=
  let c1 := c.setCells x { c.cells x with slots := mapCells (c.cells x).slots Cell.untimed }
  match (c1.hoe.get x).weak with
  | .pending _ => c1.setHoe x { c1.hoe.get x with weak := .clear }
  | _ => c1

/-- The serving level when it is usable: VALID and not stale at now (R101). -/
def servingReference (e : Env) (c : Core) (x : Sub) : Option (CellKey × Int) :=
  match servingCell (c.cells x).slots with
  | none => none
  | some r => match r.level with
    | none => none
    | some l => if l.staleAt (c.cells x).stale e.count then none else some (r.key, l.value)

/-- An evaluation of X (R99 to R102). -/
def evaluateHandover (e : Env) (x : Sub) (c : Core) : Core :=
  let p := c.hoe.get x
  match p.holdEnd with
  | some _ => c
  | none =>
    match servingReference e c x with
    | none => resetTiming x c
    | some (key, qs) =>
      let threshold : Int := 64 * p.weakDbm
      let (weak, kind) := judgeWeak e.count p.ttt threshold qs p.weak
      let weakEvents := match kind with
        | none => []
        | some k => [Event.now e k (.cell x key) (signed16 qs) (signed16 threshold)]
      let (slots, evs) := judgeSlots e x p (c.cells x).stale qs (c.cells x).slots
      postAll e (.stack x) (weakEvents ++ evs)
        ((c.setHoe x { p with weak := weak }).setCells x { c.cells x with slots := slots })

/-- The view closes at an end or truncation notice that carries time t: the means are folded in slot by slot, and the
owner is evaluated when a record was updated (R82 to R84). -/
def closeView (e : Env) (t : Time) (c : Core) : Core :=
  match c.msu.view with
  | none => c
  | some v =>
    let ms := means v.accs
    let c1 := foldMeans v.owner t ms { c with msu := { c.msu with view := none } }
    if anyUpdated (c.cells v.owner).slots ms then evaluateHandover e v.owner c1 else c1

end Sys2Proof.Machine
end

