-- ==== Sys2Proof/Machine/Timeline.lean ====
section
/-! DEFINITION. The Timeline Arbiter: priority, placement, repeats, windows and withdrawal (chapter 1), with the
tune-away answer it takes from the Session Manager within a placement (R50). -/

namespace Sys2Proof.Machine

/-! ### Priority and spans (R16, R17) -/

/-- The class base (R16). -/
def Reservation.base (r : Reservation) : Nat :=
  match r.cls with
  | .access => if r.emergency then 7 else 6
  | .voice => if r.emergency then 7 else 5
  | .page => 4
  | .text => if r.urgent then 3 else 2
  | .measure => 1
  | .search => 0

/-- The effective priority, from the policy in force (R16). -/
def priority (e : Env) (r : Reservation) : Nat :=
  2 * r.base + (if e.policy.preferred = some r.owner then 1 else 0)

/-- The time a window at `t` leaves free again: its length and the guard gap (R17). -/
def spanEnd (t : Time) (length : Nat) : Time := t + tu (length + Config.guardGap)

/-- The end time of a window (R29). -/
def Reservation.endTime (r : Reservation) : Time := r.start + tu r.length

/-- The record holds a placed occurrence. -/
def Reservation.placed (r : Reservation) : Bool := decide (r.state ≠ .seeking)

/-- Two occupied spans overlap when each begins before the other ends (R17). -/
def Reservation.overlaps (r : Reservation) (t : Time) (length : Nat) : Bool :=
  before t (spanEnd r.start r.length) && before r.start (spanEnd t length)

/-- The occurrences whose span overlaps a candidate's, in order of start (R18, R19). -/
def overlapped (table : List Reservation) (t : Time) (length : Nat) : List Reservation :=
  table.filter fun r => r.placed && r.overlaps t length

/-! ### The tune-away rule (R50) -/

/-- Step 1: whole intervals between the last refill and now, the difference read in the half range (R1, R50). -/
def refillSteps (now lastRefill : Time) (interval : Nat) : Int := Int.fdiv (now - lastRefill).toInt interval

/-- Steps 1 to 3: the credit is brought up to date (R50, R51). A last refill that lies after now makes the steps
negative; the credit is then kept at 0 or above, as the law of R49 has it (log entry 26). -/
def Traffic.refill (now : Time) (creditMax interval : Nat) (t : Traffic) : Traffic :=
  let n := refillSteps now t.lastRefill interval
  let credit := (min (creditMax : Int) (t.credit + n)).toNat
  { t with
    credit := credit
    lastRefill := if credit = creditMax then now else t.lastRefill + BitVec.ofInt 32 (n * interval) }

/-- The voice session's traffic fields after a change. -/
def Core.setTraffic (c : Core) (h : Handle) (t : Traffic) : Core :=
  c.editSession h fun s => match s.body with
    | .voice v => { s with body := .voice { v with traffic := some t } }
    | .text _ => s

/-- The tune-away rule is consulted for a page window at `t`: it refills, then spends a unit and allows, or refuses
(R50). DESIGN CHOICE (log entry 42): a call whose VOICE record is being placed by its own VOICE_CONNECT holds no credit yet;
consulted within that placement run, the rule refuses, posts nothing and changes nothing. -/
def consultTuneAway (e : Env) (t : Time) (length : Nat) (c : Core) : Core × Bool :=
  match c.voiceSession with
  | none => (c, false)
  | some (s, v) =>
    match v.traffic with
    | none => (c, false)
    | some tr =>
      let tr1 := tr.refill e.count e.policy.creditMax e.policy.refill
      if 1 ≤ tr1.credit then
        let tr2 := { tr1 with credit := tr1.credit - 1 }
        (post e (.stack s.owner)
          ⟨.tuneAway, .session s.owner s.handle, t, value16 tr2.credit, value16 length⟩ (c.setTraffic s.handle tr2),
          true)
      else (c.setTraffic s.handle tr1, false)

/-! ### The two passes (R17 to R19) -/

/-- The first of `n` candidates from `t` on that qualifies. -/
def firstWhere (ok : Time → Bool) : Nat → Time → Option Time
  | 0, _ => none
  | n + 1, t => if ok t then some t else firstWhere ok n (t + 1)

/-- The first candidate, and how many there are; none, too late, when desired start + slack is before now + 4, whatever the
desired start (R1, R17). -/
def candidates (now desired : Time) (slack : Nat) : Option (Time × Nat) :=
  let earliest := now + tu Config.guardGap
  let first := laterOf desired earliest
  let last := desired + tu slack
  if atOrAfter last earliest && atOrAfter last first then some (first, (last - first).toNat + 1) else none

/-- What the second pass finds at a candidate (R19). -/
inductive Verdict where
  | no
  | yes
  | ask
  deriving DecidableEq

/-- The tune-away case: a GRANTED, non-emergency VOICE occurrence of one subscription against a PAGE of the other
(R19). -/
def tuneAwayCase (r victim : Reservation) : Bool :=
  decide (r.cls = .page) && decide (victim.cls = .voice) && decide (victim.owner = r.owner.other) && !victim.emergency

/-- The verdict on a candidate: every overlapped occurrence is GRANTED and of lower priority, or in the tune-away case.
`refused` says that the rule has refused (R19). -/
def verdict (e : Env) (table : List Reservation) (r : Reservation) (refused : Bool) (t : Time) : Verdict :=
  let met := overlapped table t r.length
  if met.any fun v => decide (v.state ≠ .granted) then .no
  else if met.any fun v => !tuneAwayCase r v && decide (priority e r ≤ priority e v) then .no
  else if met.any (tuneAwayCase r) then (if refused then .no else .ask)
  else .yes

/-- The second pass up to the first candidate that is taken or has to be asked for: the candidate, whether it is to be
asked for, and how many follow it. -/
def scanSecond (v : Time → Verdict) : Nat → Time → Option (Time × Bool × Nat)
  | 0, _ => none
  | n + 1, t =>
    match v t with
    | .yes => some (t, false, n)
    | .ask => some (t, true, n)
    | .no => scanSecond v n (t + 1)

/-- The outcome of a placement's choice. `conflict` says whether a refused tune-away ruled out a candidate (R22). -/
inductive Choice where
  | tooLate
  | conflict (refused : Bool)
  | start (t : Time)
  deriving DecidableEq

/-- The second pass (R19), with at most one consultation of the tune-away rule. -/
def secondPass (e : Env) (r : Reservation) (first : Time) (n : Nat) (c : Core) : Core × Choice :=
  match scanSecond (verdict e c.tla.table r false) n first with
  | none => (c, .conflict false)
  | some (t, false, _) => (c, .start t)
  | some (t, true, rest) =>
    match consultTuneAway e t r.length c with
    | (c1, true) => (c1, .start t)
    | (c1, false) =>
      match firstWhere (fun u => decide (verdict e c1.tla.table r true u = .yes)) rest (t + 1) with
      | none => (c1, .conflict true)
      | some u => (c1, .start u)

/-- A placement's choice of a start for record `r` (R17 to R19). -/
def choose (e : Env) (r : Reservation) (c : Core) : Core × Choice :=
  match candidates e.count r.desired r.slack with
  | none => (c, .tooLate)
  | some (first, n) =>
    match firstWhere (fun t => (overlapped c.tla.table t r.length).isEmpty) n first with
    | some t => (c, .start t)
    | none => secondPass e r first n c

/-! ### The table -/

/-- The table's order: by occurrence start (R12). -/
def insertByStart (r : Reservation) : List Reservation → List Reservation
  | [] => [r]
  | q :: rest => if before r.start q.start then r :: q :: rest else q :: insertByStart r rest

def Core.setTable (c : Core) (table : List Reservation) : Core := { c with tla := { c.tla with table := table } }

/-- The record leaves the table. -/
def Core.dropRecord (c : Core) (h : Handle) : Core := c.setTable (c.tla.table.filter fun r => decide (r.handle ≠ h))

/-- A record takes its place in the table anew (R12). -/
def Core.putRecord (c : Core) (r : Reservation) : Core :=
  c.setTable (insertByStart r (c.tla.table.filter fun q => decide (q.handle ≠ r.handle)))

/-! ### Events of the timeline (R15) -/

/-- The codes of an occurrence loss (R221). -/
def lossPreempted : Nat := 0
def lossSkipped : Nat := 1

/-- OCCURRENCE_LOST: its time is the lost occurrence's desired start, its value 2 the lost count after the loss. -/
def postLost (e : Env) (r : Reservation) (how : Nat) (c : Core) : Core :=
  post e (.stack r.owner)
    ⟨.occurrenceLost, .reservation r.owner r.handle, r.desired, value16 how, value16 r.lost⟩ c

/-- STAGED_KILLED (R138). -/
def postKilled (e : Env) (r : Reservation) (c : Core) : Core :=
  post e (.stack r.owner)
    (Event.now e .stagedKilled (.reservation r.owner r.handle) (value16 r.staged.length) (value16 r.cls.code)) c

/-- RESERVATION_ENDED (R15). -/
def postEnded (e : Env) (r : Reservation) (reason : EndReason) (c : Core) : Core :=
  post e (.stack r.owner)
    (Event.now e .reservationEnded (.reservation r.owner r.handle) (value16 reason.code) (value16 r.cls.code)) c

/-- A staged-write list is killed when its record is freed GRANTED or ends STARVED (R23, R36). -/
def Reservation.listKilled (r : Reservation) (reason : EndReason) : Bool :=
  !r.staged.isEmpty && (decide (r.state = .granted) || decide (reason = .starved))

/-- A record ends: it is freed, its end is reported or silent, its staged writes are killed with it, and the Session
Manager and the Power and Sleep Controller are told (R14, R15, R23, R31, R138). -/
def endRecord (e : Env) (reason : EndReason) (reported : Bool) (r : Reservation) (c : Core) : Core :=
  let c1 := c.dropRecord r.handle
  let c2 := if reported then postEnded e r reason c1 else c1
  let c3 := if reported && r.listKilled reason then postKilled e r c2 else c2
  freedNotice e (c3.tell (.recordEnded r.handle r.owner r.cls (some reason) r.session r.endTime))

/-- The blocks told of a lost occurrence of a PAGE or SEARCH record (R20, R25); the loss of a one-shot TEXT record
reaches the Session Manager with the end of the record (R44). -/
def tellLost (r : Reservation) (c : Core) : Core :=
  match r.cls with
  | .page => c.tell (.pageLost r.owner)
  | .search => c.tell (.searchLost r.owner r.handle r.endTime)
  | _ => c

/-- The Session Manager is told of each skipped VOICE occurrence too (R25). -/
def tellSkipped (r : Reservation) (c : Core) : Core :=
  match r.cls, r.session with
  | .voice, some s => c.tell (.voiceSkipped s)
  | _, _ => tellLost r c

/-! ### Placing and removing -/

/-- A successful placement reduces a repeats-remaining field that is not 0, and at 0 makes the record one-shot
(R24). -/
def Repeats.spend (p : Repeats) : Option Repeats :=
  if p.remaining = 0 then some p
  else if p.remaining = 1 then none
  else some { p with remaining := p.remaining - 1 }

/-- At start − 4 tu an occurrence becomes PREPARING and the preparation is asked for; the part is brought AWAKE first
(R28, R172). -/
def askPreparation (e : Env) (h : Handle) (c : Core) : Core :=
  let c1 := (forceAwake c).editReservation h fun r => { r with state := .preparing }
  match c1.reservation h with
  | none => c1
  | some r => beginPreparation e r c1

/-- The record with a new occurrence GRANTED at `t` (R10, R24). -/
def Reservation.grant (r : Reservation) (t : Time) : Reservation :=
  { r with
    start := t, state := .granted, late := false, degraded := false, prepared := none, waiting := false
    repeats := match r.repeats with
      | none => none
      | some p => p.spend }

/-- An occurrence is placed at `t`; placed at now + 4 it is prepared at once (R20, R23, R28). -/
def placeAt (e : Env) (r : Reservation) (t : Time) (c : Core) : Core :=
  let c1 := tableNotice e (c.putRecord (r.grant t))
  if t = e.count + tu Config.guardGap then askPreparation e r.handle c1 else c1

/-- A victim is removed: a repeating record's occurrence is lost, a one-shot record ends PREEMPTED (R20). DESIGN
CHOICE (log entry 60): both are reported, also where a request on the owner's own port has caused them. -/
def removeVictim (e : Env) (c : Core) (r : Reservation) : Core :=
  match r.repeats with
  | none => tellLost r (endRecord e .preempted true r c)
  | some _ =>
    let r1 := { r with state := .seeking, lost := saturate Config.starveCount (r.lost + 1) }
    tableNotice e (tellLost r (postLost e r1 lossPreempted (c.putRecord r1)))

/-- A record for which an occurrence is to be sought: the next one of its series, or, for a shift of cadence, the
current one anew. -/
structure Todo where
  handle : Handle
  advance : Bool
  deriving DecidableEq

/-- The victims whose next occurrences are sought (R21). -/
def repeatingTodo (victims : List Reservation) : List Todo :=
  (victims.filter fun r => r.repeats.isSome).map fun r => ⟨r.handle, true⟩

/-- The next occurrence of a record: its index and desired start step on by one period (R24). -/
def Reservation.advance (r : Reservation) : Reservation :=
  match r.repeats with
  | none => r
  | some p => { r with occIndex := r.occIndex + 1, desired := r.desired + tu p.period }

/-- A MEASURE occurrence of odd index is thinned in SAVER or LOW supply (R26). -/
def thinned (e : Env) (r : Reservation) : Bool :=
  decide (r.cls = .measure) && decide (r.occIndex.toNat % 2 = 1) && decide (e.supply ≠ .normal)

/-- An occurrence whose placement failed is skipped (R25). DESIGN CHOICE (log entry 60): a one-shot record's end is reported,
also where a request on the owner's own port has caused it. -/
def skipOccurrence (e : Env) (r : Reservation) (c : Core) : Core :=
  match r.repeats with
  | none => tellSkipped r (endRecord e .starved true r c)
  | some _ =>
    let r1 := { r with state := .seeking, lost := saturate Config.starveCount (r.lost + 1) }
    tellSkipped r (postLost e r1 lossSkipped (c.putRecord r1))

/-- The record as an occurrence is sought for it (R24, R27). -/
def Todo.prepare (td : Todo) (r : Reservation) : Reservation := if td.advance then r.advance else { r with slack := 0 }

/-- One record for which an occurrence is sought: the core after, and the records whose occurrences are sought before
the others (R21, R24, R25, R26). DESIGN CHOICE (log entry 60): a STARVED end is reported, also where a request on the
owner's own port has caused it. -/
def seekOne (e : Env) (td : Todo) (c : Core) : Core × List Todo :=
  match c.reservation td.handle with
  | none => (c, [])
  | some r =>
    if Config.starveCount ≤ r.lost then (endRecord e .starved true r c, [])
    else
      let r1 := td.prepare r
      if thinned e r1 then (c.putRecord r1, [⟨td.handle, true⟩])
      else
        match choose e r1 c with
        | (c1, .start t) =>
          let victims := overlapped c1.tla.table t r1.length
          (placeAt e r1 t (victims.foldl (removeVictim e) c1), repeatingTodo victims)
        | (c1, _) =>
          (skipOccurrence e r1 c1, if r1.repeats.isSome then [⟨td.handle, true⟩] else [])

/-- The run of R21 and R25: each record's own victims are given next occurrences before the next record in the list. A
run makes at most 8 losses for each record, so the bound of `seekFuel` is not reached from a part that keeps the laws of
R12. -/
def seekAll (e : Env) : Nat → List Todo → Core → Core
  | 0, _, c => c
  | _ + 1, [], c => c
  | n + 1, td :: rest, c =>
    match seekOne e td c with
    | (c1, first) => seekAll e n (first ++ rest) c1

def seekFuel : Nat := 1024

/-! ### Creation (R11, R12, R22) -/

/-- What a creation answers (R22). -/
inductive Creation where
  | tableFull
  | tooLate
  | conflict (refused : Bool)
  | created (h : Handle) (start : Time)
  deriving DecidableEq

/-- The room check (R12). -/
def roomFor (c : Core) (x : Sub) : Bool :=
  decide (c.tla.table.length < Config.tableSize)
    && decide ((c.tla.table.filter fun r => decide (r.owner = x)).length < Config.ownerLimit)

/-- The lowest free index of the reservation table (R11). -/
def freeIndex (table : List Reservation) : Nat :=
  (lowestFree (fun i => table.any fun r => decide (r.handle.index.toNat = i)) Config.tableSize).getD 0

/-- The handle a new record takes (R11). -/
def newHandle (tla : Tla) : Handle :=
  ⟨BitVec.ofNat 8 (freeIndex tla.table), nextGeneration ((tla.generations[freeIndex tla.table]?).getD 0)⟩

def Core.takeHandle (c : Core) (h : Handle) : Core :=
  { c with tla := { c.tla with generations := c.tla.generations.set h.index.toNat h.generation } }

/-- A record as it is created: index and lost count 0, nothing staged, no mark (R10). Its handle is set at
placement. -/
def newRecord (owner : Sub) (cls : Class) (desired : Time) (slack length : Nat) (frequency : Half) (band : BitVec 3) :
    Reservation where
  handle := ⟨0, 0⟩
  owner := owner
  cls := cls
  urgent := false
  emergency := false
  desired := desired
  slack := slack
  length := length
  frequency := frequency
  band := band
  repeats := none
  occIndex := 0
  lost := 0
  session := none
  cells := []
  staged := []
  start := desired
  state := .seeking
  late := false
  degraded := false
  prepared := none
  waiting := false

/-- A creation: the room check, the placement, the removal of its victims, the record, and the victims' next
occurrences (R12, R17 to R22). -/
def createRecord (e : Env) (r : Reservation) (c : Core) : Core × Creation :=
  if roomFor c r.owner then
    match choose e r c with
    | (c1, .tooLate) => (c1, .tooLate)
    | (c1, .conflict refused) => (c1, .conflict refused)
    | (c1, .start t) =>
      let victims := overlapped c1.tla.table t r.length
      let c2 := victims.foldl (removeVictim e) c1
      let h := newHandle c2.tla
      (seekAll e seekFuel (repeatingTodo victims) (placeAt e { r with handle := h } t (c2.takeHandle h)), .created h t)
  else (c, .tableFull)

/-! ### Windows (R29 to R33) -/

def Class.receives : Class → Bool
  | .page => true
  | .measure => true
  | .search => true
  | .voice => true
  | .access => false
  | .text => false

def Class.transmits : Class → Bool
  | .access => true
  | .text => true
  | .voice => true
  | .page => false
  | .measure => false
  | .search => false

/-- The window lines when a window goes ACTIVE (R33). -/
def raiseLines (r : Reservation) (c : Core) : Core :=
  { c with tla := { c.tla with
      band := r.band, subSel := r.owner, rxEn := r.cls.receives, txEn := r.cls.transmits } }

/-- RX_EN and TX_EN go low; BAND and SUB_SEL hold (R31, R33). -/
def lowerLines (c : Core) : Core := { c with tla := { c.tla with rxEn := false, txEn := false } }

def Core.setSearch (c : Core) (x : Sub) (s : Search) : Core := { c with csc := c.csc.set x s }

/-- The Coverage Search Controller hears of the start of its attempt's window (R114). -/
def searchStarted (r : Reservation) (c : Core) : Core :=
  match (c.csc.get r.owner).phase with
  | .placed h =>
    if h = r.handle then
      c.setSearch r.owner { c.csc.get r.owner with phase := .listening h none 0 }
    else c
  | _ => c

/-- The neighbours told when a window goes ACTIVE (R29). -/
def tellActive (r : Reservation) (c : Core) : Core :=
  match r.cls with
  | .search => searchStarted r c
  | .page => c.tell (.pageActive r.owner)
  | _ => c

/-- A window goes ACTIVE (R29). -/
def activate (retune : Bool) (r : Reservation) (c : Core) : Core :=
  let c1 := c.editReservation r.handle fun q => { q with state := .active, lost := 0, waiting := false }
  let c2 := raiseLines r c1
  let c3 := { c2 with msu := { c2.msu with view := some ⟨r.owner, r.cls, retune, r.cells, []⟩ } }
  viewActive r.owner r.handle (tellActive r c3)

/-- A window goes ACTIVE after its start: it is marked LATE, and WINDOW_LATE is posted with the delay (R30). -/
def activateLate (e : Env) (retune : Bool) (r : Reservation) (c : Core) : Core :=
  let c1 := (activate retune r c).editReservation r.handle fun q => { q with late := true }
  post e (.stack r.owner)
    (Event.now e .windowLate (.reservation r.owner r.handle) (value16 (e.count - r.start).toNat)
      (value16 r.cls.code)) c1

/-- The best sample of a search window as SEARCH_REPORT carries it (R115). -/
def bestSubject (x : Sub) : Option (CellKey × Int) → Subject
  | none => .none
  | some (k, _) => .cell x k

def bestLevel : Option (CellKey × Int) → Int
  | none => 0
  | some (_, l) => 16 * l

/-- The Coverage Search Controller hears of the end of its attempt's window (R115). -/
def searchEnded (e : Env) (r : Reservation) (c : Core) : Core :=
  match (c.csc.get r.owner).phase with
  | .listening h best n =>
    if h = r.handle then
      post e (.stack r.owner)
        ⟨.searchReport, bestSubject r.owner best, r.endTime, signed16 (bestLevel best), value16 n⟩
        (c.setSearch r.owner
          { c.csc.get r.owner with phase := .awaiting (r.endTime + tu 32000) r.endTime, late := false })
    else c
  | _ => c

/-- The record's next occurrence is sought, or the one-shot record ends COMPLETED (R24, R31). -/
def goOn (e : Env) (r : Reservation) (c : Core) : Core :=
  match r.repeats with
  | none => endRecord e .completed true r c
  | some _ =>
    seekAll e seekFuel [⟨r.handle, true⟩] (c.editReservation r.handle fun q => { q with state := .seeking })

/-- The window is over for the lines, the RF Context Controller and the Measurement Unit (R31, R32, R131). -/
def closeWindow (e : Env) (t : Time) (r : Reservation) (c : Core) : Core :=
  closeView e t (viewNone e r.handle (lowerLines c))

/-- An ACTIVE occurrence reaches its end time (R31). -/
def finishWindow (e : Env) (r : Reservation) (c : Core) : Core :=
  windowEndNotice e (goOn e r (searchEnded e r (closeWindow e r.endTime r c)))

/-- The staged-write list is emptied when a preparation ends or is dropped (R36). -/
def Core.emptyStaged (c : Core) (h : Handle) : Core := c.editReservation h fun r => { r with staged := [] }

/-- An occurrence still PREPARING at its end time is skipped (R30, R25). -/
def skipAtEnd (e : Env) (r : Reservation) (c : Core) : Core :=
  let c1 := (dropPreparation e r.handle c).emptyStaged r.handle
  let c2 := skipOccurrence e { r with staged := [] } c1
  if r.repeats.isSome then seekAll e seekFuel [⟨r.handle, true⟩] c2 else c2

/-! ### Withdrawal, shift and teardown (R27, R32, R34, R35) -/

/-- An ACTIVE window is truncated at now (R32). -/
def truncate (e : Env) (r : Reservation) (c : Core) : Core := windowEndNotice e (closeWindow e e.count r c)

/-- What a withdrawal does to the occurrence before its record is freed (R34). -/
def stopOccurrence (e : Env) (r : Reservation) (c : Core) : Core :=
  match r.state with
  | .preparing => dropPreparation e r.handle c
  | .active => truncate e r c
  | _ => c

/-- A record is withdrawn for a reason, with its end reported or silent (R34). -/
def withdrawRecord (e : Env) (reason : EndReason) (reported : Bool) (r : Reservation) (c : Core) : Core :=
  endRecord e reason reported r (stopOccurrence e r c)

/-- A shift of a call's cadence by `d` (R27). -/
def shiftCadence (e : Env) (h : Handle) (d : Time) (c : Core) : Core :=
  match c.reservation h with
  | none => c
  | some r =>
    let c1 := c.editReservation h fun q => { q with desired := q.desired + d }
    if r.state = .granted then
      seekAll e seekFuel [⟨h, false⟩] (tableNotice e (c1.editReservation h fun q => { q with state := .seeking }))
    else c1

/-- A record is freed by the teardown of its owner: no event, no next occurrence (R35). -/
def freeSilently (e : Env) (c : Core) (r : Reservation) : Core :=
  freedNotice e ((stopOccurrence e r c).dropRecord r.handle)

/-- The Timeline Arbiter's share of X's teardown (R35). -/
def tlaTeardown (e : Env) (x : Sub) (c : Core) : Core :=
  (c.tla.table.filter fun r => decide (r.owner = x)).foldl (freeSilently e) c

end Sys2Proof.Machine
end

