-- ==== Sys2Proof/Machine/Arbiter.lean ====
section
/-! DEFINITION. The control-bus arbiter: preparation writes, replay, restart series, own transfers, and what the end of a
transfer does (R124, R125, R130, R133 to R136, R143 to R145). -/

namespace Sys2Proof.Machine

/-! ### Starting a transfer -/

/-- The bus is granted: the first transfer to a device after it enters ON is its answer check (R124, R130). -/
def startTransfer (kind : TxnKind) (d : Device) (reg : Byte) (cause : TransferCause) (owner : Option Sub) (c : Core) :
    Core :=
  { c with rcc := { c.rcc with
      bus := some ⟨kind, d, reg, cause, owner, decide (c.rcc.answering.get d = .pending), false, false, false, false⟩ } }

/-- The first position from `i` on at which a list's element qualifies. -/
def firstFrom {α : Type} (l : List α) (i : Nat) (ok : α → Bool) : Option (Nat × α) :=
  match (l.drop i).findIdx? ok with
  | none => none
  | some j => (l[i + j]?).map fun a => (i + j, a)

/-! ### Rank 1: the preparation (R133, R135) -/

/-- A CONTEXT entry whose value for X is to be written (R133). -/
def needsContext (e : Env) (c : Core) (x : Sub) (s : ShadowEntry) : Bool :=
  decide (s.entry.scope = .context) && e.has s.entry.device && c.isOn s.entry.device
    && (s.own.get x).isSome && decide (s.live ≠ s.own.get x)

/-- A COMMON entry whose value is to be restored (R133). -/
def needsCommon (e : Env) (c : Core) (s : ShadowEntry) : Bool :=
  decide (s.entry.scope = .common) && e.has s.entry.device && c.isOn s.entry.device && s.common.isSome && s.live.isNone

def Core.setPrep (c : Core) (p : Prep) : Core := { c with rcc := { c.rcc with prep := some p } }

/-- A preparation write is made, and the turn moves on. -/
def prepWrite (p : Prep) (d : Device) (reg : Byte) (v : Half) (next : Nat) (c : Core) : Core :=
  startTransfer (.write v) d reg .preparation (some p.owner) (c.setPrep { p with position := next })

/-- The window is a retune window (R135). -/
def isRetune (c : Core) (p : Prep) : Bool :=
  c.rcc.tuning.isNone || p.tuningAtStart.isNone || p.tuningChanged || c.rcc.poweredSince

/-- A preparation ends: the Timeline Arbiter is told with the retune indication, the record and the staged list are
closed, and a window whose start has passed goes ACTIVE, LATE (R30, R135, R36). -/
def endPreparation (e : Env) (p : Prep) (c : Core) : Core :=
  let retune := isRetune c p
  let c1 := { c with rcc := { c.rcc with prep := none } }
  let c2 := (c1.editReservation p.handle fun r => { r with prepared := some retune, staged := [] }).trigger
  match c2.reservation p.handle with
  | none => c2
  | some r => if r.waiting && before e.count r.endTime then activateLate e retune r c2 else c2

/-- The preparation's turn when the bus is idle (R133). -/
def prepTurn (e : Env) (p : Prep) (c : Core) : Core :=
  match p.step with
  | .awaitingPower => c
  | .context =>
    match firstFrom c.rcc.shadow p.position (needsContext e c p.owner) with
    | some (i, s) => prepWrite p s.entry.device s.entry.register ((s.own.get p.owner).getD 0) (i + 1) c
    | none => c.setPrep { p with step := .common, position := 0 }
  | .common =>
    match firstFrom c.rcc.shadow p.position (needsCommon e c) with
    | some (i, s) => prepWrite p s.entry.device s.entry.register (s.common.getD 0) (i + 1) c
    | none => c.setPrep { p with step := .staged, position := 0 }
  | .staged =>
    match p.staged[p.position]? with
    | some w => prepWrite p w.device w.register w.value (p.position + 1) c
    | none => endPreparation e p c

/-- Every awaited device is ON: the preparation goes to its writes (R132). -/
def powerArrived (p : Prep) (c : Core) : Bool := decide (p.step = .awaitingPower) && p.awaited.all c.isOn

/-- The preparation has a turn at rank 1. -/
def Prep.writing (p : Prep) : Bool := decide (p.step ≠ .awaitingPower)

/-! ### Rank 2: replay (R130) -/

/-- The first pending replay write is made if its live value is still UNKNOWN, and dropped otherwise (R130). -/
def replayTurn (e : Env) (p : Replay) (rest : List Replay) (c : Core) : Core :=
  let dropped := replayShortened e p.device { c with rcc := { c.rcc with replay := rest } }
  match c.rcc.shadow[p.entry]? with
  | none => dropped
  | some s =>
    match s.live, s.common with
    | none, some v => startTransfer (.write v) p.device s.entry.register .replay none c
    | _, _ => dropped

/-! ### Ranks 3 and 4: bridge transactions (R125, R143, R144) -/

/-- The head of X's queue takes part in the arbitration (R125). -/
def headReady (c : Core) (x : Sub) : Option Txn :=
  match (c.bridge x).queue with
  | [] => none
  | t :: _ => if t.state = .ready ∨ t.state = .restarting then some t else none

/-- A ready head at rank 3. -/
def releasedReady (c : Core) (x : Sub) : Bool :=
  match headReady c x with
  | none => false
  | some t => t.released

/-- A restart series under way at rank 4. -/
def seriesBegun (c : Core) (x : Sub) : Bool :=
  match headReady c x with
  | none => false
  | some t => !t.released && decide (t.state = .restarting) && t.begun

/-- Of two stacks that qualify, the one not served last (R125). -/
def alternate (last : Sub) (a b : Bool) : Option Sub :=
  match a, b with
  | true, true => some last.other
  | true, false => some .A
  | false, true => some .B
  | false, false => none

/-- The stack the arbiter would serve (R125, R144). -/
def chooseStack (c : Core) : Option Sub :=
  match alternate c.rcc.lastServed (releasedReady c .A) (releasedReady c .B) with
  | some x => some x
  | none =>
    if seriesBegun c .A then some .A
    else if seriesBegun c .B then some .B
    else alternate c.rcc.lastServed (headReady c .A).isSome (headReady c .B).isSome

def Core.served (c : Core) (x : Sub) : Core := { c with rcc := { c.rcc with lastServed := x } }

/-- The head's own transfer (R143). -/
def ownTransfer (x : Sub) (t : Txn) (c : Core) : Core :=
  startTransfer t.kind t.device t.register (.own x) (some x)
    ((c.setHead x { t with state := .inFlight }).served x)

/-- A CONTEXT entry to restore before a trapped transaction's own transfer (R144). -/
def needsRestore (e : Env) (c : Core) (x : Sub) (d : Device) (s : ShadowEntry) : Bool :=
  decide (s.entry.device = d) && needsContext e c x s

/-- The next transfer of a restart series (R144). DESIGN CHOICE (log entry 59): a READ whose own context value has become set
during the series is answered FROM_SHADOW at the turn of its own transfer, after the restore writes that are left. -/
def seriesTurn (e : Env) (x : Sub) (t : Txn) (c : Core) : Core :=
  if c.foreign x then examine e x (c.setHead x { t with state := .queued })
  else
    match firstFrom c.rcc.shadow t.position (needsRestore e c x t.device) with
    | some (i, s) =>
      startTransfer (.write ((s.own.get x).getD 0)) t.device s.entry.register (.restore x) (some x)
        ((c.setHead x { t with position := i + 1, begun := true }).served (if t.begun then c.rcc.lastServed else x))
    | none =>
      match finding e x t c with
      | .fromShadow v => completeAndExamine e x 5 (some v) c
      | _ => ownTransfer x t c

/-- The bus is given to the head of X's queue, which is examined at this moment (R140, R143). -/
def headTurn (e : Env) (x : Sub) (t : Txn) (c : Core) : Core :=
  if t.state = .restarting then seriesTurn e x t c
  else
    match finding e x t c with
    | .toDevice =>
      if c.isOn t.device && !c.rcc.replayPending t.device then ownTransfer x t c else examine e x c
    | _ => examine e x c

/-- One decision of the arbiter with the bus idle: the first rank with a ready transfer (R125). -/
def arbitrate (e : Env) (c : Core) : Option Core :=
  match c.rcc.prep with
  | some p =>
    if p.writing then some (prepTurn e p c) else lower c
  | none => lower c
where
  lower (c : Core) : Option Core :=
    match c.rcc.replay with
    | p :: rest => some (replayTurn e p rest c)
    | [] =>
      match chooseStack c with
      | none => none
      | some x =>
        match headReady c x with
        | none => none
        | some t => some (headTurn e x t c)

/-! ### The bits of a transfer (R220)

DESIGN CHOICE (log entry 57): a field is driven and read most significant bit first, as every other serial format of the
manual; R220 names the fields of a transfer and their widths, and not the order of their bits. -/

/-- The bits of a field, most significant first. -/
def msbFirst {w : Nat} (v : BitVec w) : List Bool := (List.range w).map fun i => v.getMsbD i

/-- The steps of a transfer on RFC_DAT, with the bits that the part drives (R220). -/
def Transfer.steps (t : Transfer) : List BusStep :=
  let device := msbFirst (BitVec.ofNat 2 t.device.number)
  match t.kind with
  | .write v =>
    [.driven (false :: device), .acknowledge false .addressNak, .driven (msbFirst t.register), .driven (msbFirst v),
      .acknowledge true .dataNak, .busy]
  | .read =>
    [.driven (true :: device), .acknowledge false .addressNak, .driven (msbFirst t.register),
      .acknowledge true .dataNak, .busy, .returned]

/-- What the device's side does at a step, when it makes the step fail: a device acknowledges by holding RFC_DAT low for
the slot, and may hold the line busy for 20 µs (R220). -/
def BusReply.failure (b : BusReply) : BusStep → Option BusOutcome
  | .driven _ => none
  | .acknowledge second failure => if (if second then b.slots.data else b.slots.address) then some failure else none
  | .busy => if b.heldLong then some .timeout else none
  | .returned => none

/-- The first step that fails gives the outcome and ends the transfer; a transfer ends DONE when every step passes
(R220). -/
def BusReply.outcome (b : BusReply) (steps : List BusStep) : BusOutcome := (steps.findSome? b.failure).getD .done

/-- The value that the device returns at step 7 (R220). -/
def BusReply.value (b : BusReply) : Half := BitVec.ofNat 16 (bitsToNat b.returned)

/-! ### The end of a transfer -/

/-- What the transfer leaves in the tables of set values (R127). -/
def transferStores (e : Env) (t : Transfer) (c : Core) : Core :=
  match t.kind with
  | .write v => if t.ownerGone then c else storeValue e t.owner t.device t.register v c
  | .read => c

/-- What the transfer leaves in the live table (R128). -/
def transferLive (e : Env) (t : Transfer) (outcome : BusOutcome) (value : Half) (c : Core) : Core :=
  if t.deviceLeft then c
  else
    match t.kind with
    | .write v => setLive e t.device t.register (if outcome = .done then some v else none) c
    | .read => if outcome = .done then setLive e t.device t.register (some value) c else c

/-- Tuning changed is set when a transfer during a preparation changes the tuning register's live value (R132,
R135). -/
def noteTuning (before after : Option Half) (c : Core) : Core :=
  match c.rcc.prep with
  | none => c
  | some p => c.setPrep { p with tuningChanged := p.tuningChanged || decide (before ≠ after) }

/-- A trapped transaction for the device: waiting for its power, in its restart series, or with its own transfer made
(R145). -/
def trappedOn (c : Core) (x : Sub) (d : Device) : Bool :=
  match (c.bridge x).queue with
  | [] => false
  | t :: _ => t.trapped && decide (t.device = d)

/-- A trapped head completes POWER_FAIL (R145). -/
def failTrapped (e : Env) (d : Device) (c : Core) (x : Sub) : Core :=
  if trappedOn c x d then completeAndExamine e x 6 none c else c

/-- The device is not answering: its replay writes are dropped, and its trapped transactions complete POWER_FAIL, A's
first (R130, R145; log entry 16). -/
def notAnswering (e : Env) (d : Device) (c : Core) : Core :=
  let c1 := { c with rcc := { c.rcc with
    answering := c.rcc.answering.set d .notAnswering, replay := c.rcc.replay.filter fun p => decide (p.device ≠ d) } }
  replayShortened e d (failTrapped e d (failTrapped e d c1 .A) .B)

/-- The answer check of a device ends (R130). -/
def endCheck (e : Env) (t : Transfer) (outcome : BusOutcome) (c : Core) : Core :=
  if t.check && !t.deviceLeft then
    if outcome = .addressNak then notAnswering e t.device c
    else { c with rcc := { c.rcc with answering := c.rcc.answering.set t.device .answering } }
  else c

/-- A transfer is a failed write (R124). -/
def Transfer.failedWrite (t : Transfer) (outcome : BusOutcome) : Bool :=
  decide (outcome ≠ .done) && (match t.kind with
    | .write _ => true
    | .read => false)

/-- A failed write of the preparation marks the occurrence DEGRADED and posts CONTEXT_FAULT (R134). -/
def prepFailed (e : Env) (t : Transfer) (outcome : BusOutcome) (c : Core) : Core :=
  match c.rcc.prep with
  | none => c
  | some p =>
    post e (.stack p.owner)
      (Event.now e .contextFault (.reservation p.owner p.handle)
        (BitVec.ofNat 16 (256 * t.device.number + t.register.toNat)) (value16 (BusOutcome.code outcome)))
      (c.editReservation p.handle fun r => { r with degraded := true })

/-- The replay write that has been made leaves the list, and the heads that waited for the list's end are examined
(R130, R140). -/
def replayMade (e : Env) (t : Transfer) (c : Core) : Core :=
  let c1 := { c with rcc := { c.rcc with
    replay := c.rcc.replay.filter fun p => !(decide (p.device = t.device)
      && decide (c.mapIndex e t.device t.register = some p.entry)) } }
  replayShortened e t.device c1

/-- The head's own transfer has ended: the transaction completes with its outcome (R143), unless it has completed
POWER_FAIL already (R145). -/
def ownEnded (e : Env) (x : Sub) (outcome : BusOutcome) (value : Half) (c : Core) : Core :=
  match (c.bridge x).queue with
  | [] => c
  | t :: _ =>
    if t.state = .inFlight then
      completeAndExamine e x (BusOutcome.code outcome) (if outcome = .done then some value else none) c
    else c

/-- A failed write that is none of the preparation's marks the occurrence in the view, by R136. -/
def noteFailure (e : Env) (t : Transfer) (outcome : BusOutcome) (c : Core) : Core :=
  if t.failedWrite outcome then degradeView e t c else c

/-- What the end of a transfer means for the work it belongs to (R134, R136, R137, R143, R144). -/
def workEnded (e : Env) (t : Transfer) (outcome : BusOutcome) (value : Half) (c : Core) : Core :=
  match t.cause with
  | .preparation => if t.failedWrite outcome && !t.dropped then prepFailed e t outcome c else c
  | .replay => replayMade e t (noteFailure e t outcome c)
  | .restore _ => noteFailure e t outcome c
  | .own x =>
    if t.ownerGone then noteFailure e t outcome c else ownEnded e x outcome value (noteFailure e t outcome c)

/-- A transfer that was not left without effect ends: values, live table, tuning, answer check, work. DESIGN CHOICE (log
entry 48): the answer check comes before the work, so that BRIDGE_DONE(POWER_FAIL) of a head trapped on the device precedes
the CONTEXT_FAULT of the preparation write that was the check. -/
def takeOutcome (e : Env) (t : Transfer) (outcome : BusOutcome) (value : Half) (c : Core) : Core :=
  let c1 := transferLive e t outcome value (transferStores e t c)
  workEnded e t outcome value (endCheck e t outcome (noteTuning c.rcc.tuningLive c1.rcc.tuningLive c1))

/-- The transfer in flight ends with what the device's side has left on the line (R124, R220). The RF Context Controller
may cease to hold work for its device, which triggers the sleep entry evaluation (R165). -/
def endTransfer (e : Env) (b : BusReply) (c : Core) : Core :=
  match c.rcc.bus with
  | none => c
  | some t =>
    let c1 := { c with rcc := { c.rcc with bus := none } }
    (if t.void then c1 else takeOutcome e t (b.outcome t.steps) b.value c1).trigger

end Sys2Proof.Machine
end

