-- ==== Sys2Proof/Machine/Calls.lean ====
section
/-! DEFINITION. The Session Manager's own mechanisms (chapter 2): sessions, text queues, segments, missed pages and call
rebase. The tune-away answer stands in Timeline.lean. -/

namespace Sys2Proof.Machine

/-! ### The session table (R41 to R43) -/

def Core.setSmg (c : Core) (s : Smg) : Core := { c with smg := s }

def sessionCount (c : Core) : Nat := (c.smg.sessions.filterMap id).length

/-- The handle a new session takes: the lowest free index, its generation raised by one (R41). -/
def newSessionHandle (smg : Smg) : Handle :=
  let i := (smg.sessions.findIdx? Option.isNone).getD 0
  ⟨BitVec.ofNat 8 i, nextGeneration ((smg.generations[i]?).getD 0)⟩

/-- A session enters the table (R41). -/
def addSession (owner : Sub) (body : SessionBody) (c : Core) : Core × Handle :=
  let h := newSessionHandle c.smg
  (c.setSmg { c.smg with
      sessions := c.smg.sessions.set h.index.toNat (some ⟨h, owner, body⟩)
      generations := c.smg.generations.set h.index.toNat h.generation }, h)

def Core.queue (c : Core) (x : Sub) : List Handle := c.smg.queues.get x

def Core.setQueue (c : Core) (x : Sub) (q : List Handle) : Core :=
  c.setSmg { c.smg with queues := c.smg.queues.set x q }

/-- A change of the text fields of a session. -/
def Core.editText (c : Core) (h : Handle) (f : TextBody → TextBody) : Core :=
  c.editSession h fun s => match s.body with
    | .text t => { s with body := .text (f t) }
    | .voice _ => s

/-- A change of the voice fields of a session. -/
def Core.editVoice (c : Core) (h : Handle) (f : Voice → Voice) : Core :=
  c.editSession h fun s => match s.body with
    | .voice v => { s with body := .voice (f v) }
    | .text _ => s

/-- The text session a handle names. -/
def Core.textSession (c : Core) (h : Handle) : Option (Session × TextBody) :=
  match c.session h with
  | none => none
  | some s => match s.body with
    | .text t => some (s, t)
    | .voice _ => none

/-- The head of X's text queue. -/
def Core.headText (c : Core) (x : Sub) : Option (Session × TextBody) :=
  match c.queue x with
  | [] => none
  | h :: _ => c.textSession h

/-! ### Segments (R54 to R57) -/

/-- The head is eligible (R54). -/
def eligible (e : Env) (c : Core) (x : Sub) (urgent : Bool) : Bool :=
  decide ((c.csc.get x).coverage = .inService) && (urgent || decide (e.supply ≠ .low))

/-- The owner's GRANTED PAGE starts at or after now and within 64000 tu of it (R56). -/
def pageAhead (e : Env) (x : Sub) (r : Reservation) : Bool :=
  decide (r.owner = x) && decide (r.cls = .page) && decide (r.state = .granted)
    && atOrAfter r.start e.count && decide ((r.start - e.count).toNat ≤ 64000)

/-- The desired start of a segment, but for its not-before (R56). -/
def segmentStart (e : Env) (c : Core) (x : Sub) (urgent : Bool) : Time :=
  if urgent then e.count + tu Config.guardGap
  else
    match c.tla.table.find? (pageAhead e x) with
    | some r => spanEnd r.start r.length
    | none => e.count + tu Config.guardGap

/-- The desired start of a segment (R56). -/
def segmentDesired (e : Env) (c : Core) (x : Sub) (t : TextBody) : Time :=
  match t.notBefore with
  | some u => if atOrAfter u (e.count + tu Config.guardGap) then u else segmentStart e c x t.urgent
  | none => segmentStart e c x t.urgent

/-- The one-shot TEXT record of a segment (R56). -/
def segmentRecord (e : Env) (c : Core) (s : Session) (t : TextBody) : Reservation :=
  { newRecord s.owner .text (segmentDesired e c s.owner t) 3200 t.length t.frequency t.band with
    urgent := t.urgent, session := some s.handle }

/-- A segment is placed (R56); a refusal leaves the session without a segment reservation (R57). -/
def placeSegment (e : Env) (s : Session) (t : TextBody) (c : Core) : Core :=
  match createRecord e (segmentRecord e c s t) c with
  | (c1, .created h start) =>
    post e (.stack s.owner)
      ⟨.textWindow, .session s.owner s.handle, start, (Handle.asHalf h), value16 (t.done + 1)⟩
      (c1.editText s.handle fun t' => { t' with record := some h, notBefore := none })
  | (c1, _) => c1

/-- A placement first looks at eligibility: an eligible head is SENDING and its segment is placed, an ineligible one is
HELD (R54, R55). -/
def sendOrHold (e : Env) (x : Sub) (c : Core) : Core :=
  match c.headText x with
  | none => c
  | some (s, t) =>
    if eligible e c x t.urgent then placeSegment e s t (c.editText s.handle fun t' => { t' with state := .sending })
    else c.editText s.handle fun t' => { t' with state := .held }

/-- A placement step for a session: only the head of its queue sends (R54). -/
def sendSegment (e : Env) (s : Session) (c : Core) : Core :=
  if (c.queue s.owner).head? = some s.handle then sendOrHold e s.owner c else c

/-- The head waits for room: SENDING with neither a segment reservation nor a result deadline (R57). -/
def TextBody.waitsForRoom (t : TextBody) : Bool :=
  decide (t.state = .sending) && t.record.isNone && t.deadline.isNone

/-- At the end of any reservation of the same owner a waiting placement is tried again (R57). -/
def retryPlacement (e : Env) (x : Sub) (c : Core) : Core :=
  match c.headText x with
  | none => c
  | some (_, t) => if t.waitsForRoom then sendOrHold e x c else c

/-! ### Close (R43) -/

/-- A session leaves the table and, if it is a text, its queue; the next session becomes head (R43, R54). -/
def freeSession (e : Env) (s : Session) (c : Core) : Core :=
  let c1 := c.setSmg { c.smg with sessions := c.smg.sessions.set s.handle.index.toNat none }
  let wasHead := decide ((c.queue s.owner).head? = some s.handle)
  let c2 := c1.setQueue s.owner ((c1.queue s.owner).filter fun h => decide (h ≠ s.handle))
  if wasHead then sendOrHold e s.owner c2 else c2

/-- The reservations that name a session, in table order (R43). -/
def recordsOf (c : Core) (h : Handle) : List Reservation :=
  c.tla.table.filter fun r => decide (r.session = some h)

/-- Steps 1 to 3 of a close (R43); the closing event follows it. `reported` is false when the close was caused by a
request on the owner's own stack port. -/
def closeSession (e : Env) (reported : Bool) (s : Session) (c : Core) : Core :=
  freeSession e s
    ((recordsOf c s.handle).foldl (fun c' r => withdrawRecord e .sessionClosed reported r c') c)

/-! ### Call events (R45, R48) -/

/-- The codes of call states and close reasons (R221). -/
def callSetup : Nat := 0
def callActive : Nat := 1
def callClosed : Nat := 2
def closeReleased : Nat := 0
def closeStarved : Nat := 1
def closeLost : Nat := 2
def closeDetached : Nat := 3

/-- CALL_STATE to the Application Port (R45). -/
def postCall (e : Env) (port : Port) (x : Sub) (state value : Nat) (c : Core) : Core :=
  post e port (Event.now e .callState (.subscription x) (value16 state) (value16 value)) c

/-- A call closes by a request of its owner or because its VOICE record starved (R48). -/
def closeCall (e : Env) (reported : Bool) (reason : Nat) (s : Session) (c : Core) : Core :=
  postCall e .app s.owner callClosed reason
    (postCall e (.stack s.owner) s.owner callClosed reason (closeSession e reported s c))

/-! ### Segment outcomes (R58 to R61) -/

/-- The codes of text failure causes (R221). -/
def failReported : Nat := 0
def failNoResult : Nat := 1
def failWindowLost : Nat := 2

/-- A failed segment: retried after a pause, or the text fails (R60). -/
def failSegment (e : Env) (cause : Nat) (s : Session) (t : TextBody) (c : Core) : Core :=
  if t.retries < 2 then
    sendSegment e s (c.editText s.handle fun t' =>
      { t' with notBefore := some (e.count + tu (320 * 2 ^ t.retries)), retries := t.retries + 1 })
  else
    post e (.stack s.owner)
      (Event.now e .textFailed (.session s.owner s.handle) (value16 (t.done + 1)) (value16 cause))
      (closeSession e true s c)

/-- A segment the network took (R59). `reported` follows R15; no record of the session is left to end. -/
def segmentSent (e : Env) (s : Session) (t : TextBody) (c : Core) : Core :=
  if t.done + 1 = t.total then
    post e (.stack s.owner)
      (Event.now e .textDone (.session s.owner s.handle) (value16 t.total) 0) (closeSession e false s c)
  else
    sendSegment e s (c.editText s.handle fun t' =>
      { t' with done := t.done + 1, retries := 0, notBefore := none })

/-- The end of a segment reservation (R58). -/
def segmentEnded (e : Env) (h : Handle) (reason : EndReason) (endTime : Time) (session : Handle) (c : Core) : Core :=
  match c.textSession session with
  | none => c
  | some (s, t) =>
    if t.record = some h then
      let c1 := c.editText session fun t' => { t' with record := none }
      match reason with
      | .completed =>
        c1.editText session fun t' => { t' with deadline := some (endTime + tu 64000), late := false }
      | .preempted => failSegment e failWindowLost s t c1
      | .starved => failSegment e failWindowLost s t c1
      | .withdrawn => c1
      | .sessionClosed => c1
    else c

/-- The result deadline of a session expires (R61). -/
def resultExpired (e : Env) (s : Session) (t : TextBody) (c : Core) : Core :=
  failSegment e failNoResult s t (c.editText s.handle fun t' => { t' with deadline := none, late := true })

/-! ### Eligibility (R55) -/

/-- A SENDING head that has lost eligibility, by what it holds (R55). -/
def loseEligibility (e : Env) (s : Session) (t : TextBody) (c : Core) : Core :=
  match t.record with
  | some h =>
    match c.reservation h with
    | none => c
    | some r =>
      if r.state = .granted then
        withdrawRecord e .withdrawn true r
          (c.editText s.handle fun t' => { t' with state := .held, record := none })
      else c
  | none =>
    if t.deadline.isNone then c.editText s.handle fun t' => { t' with state := .held } else c

/-- The head's eligibility is looked at again, at a change of coverage or of the supply state (R55). -/
def lookAgain (e : Env) (x : Sub) (c : Core) : Core :=
  match c.headText x with
  | none => c
  | some (s, t) =>
    match t.state, eligible e c x t.urgent with
    | .held, true => sendOrHold e x c
    | .sending, false => loseEligibility e s t c
    | _, _ => c

/-! ### Missed pages (R52) -/

def Core.setMissed (c : Core) (x : Sub) (m : Missed) : Core :=
  c.setSmg { c.smg with missed := c.smg.missed.set x m }

/-- The other subscription holds a voice session (R45). -/
def Core.holdsCall (c : Core) (x : Sub) : Bool :=
  match c.voiceSession with
  | none => false
  | some (s, _) => decide (s.owner = x)

/-- A page of X is missed (R52). -/
def missPage (e : Env) (x : Sub) (c : Core) : Core :=
  let m := c.smg.missed.get x
  let n := saturate 255 (m.count + 1)
  if !m.starved && decide (3 ≤ n) then
    post e .app
      (Event.now e .pageStarved (.subscription x) (value16 n) (value16 (c.holdsCall x.other).toNat))
      (c.setMissed x ⟨n, true⟩)
  else c.setMissed x { m with count := n }

/-! ### Notices of the Timeline Arbiter (R44) -/

/-- The VOICE record of a call ends STARVED (R48). DESIGN CHOICE (log entry 52): SESSION_CLOSED is posted for the call's ACCESS
records, as R48's table has it, also where a request of the owner's own set off the run that starved the record. -/
def voiceStarved (e : Env) (session : Handle) (c : Core) : Core :=
  match c.session session with
  | none => c
  | some s => closeCall e true closeStarved s c

/-- The end of a record, as the Session Manager hears of it (R44, R48, R57, R58). DESIGN CHOICE (log entry 55): the end of a
STARVED VOICE record closes its call (R48) before the owner's waiting text is tried again (R57), so that the retry finds the
call's ACCESS records freed. -/
def recordEndedNotice (e : Env) (h : Handle) (x : Sub) (cls : Class) (reason : Option EndReason)
    (session : Option Handle) (endTime : Time) (c : Core) : Core :=
  let c1 := match cls, reason, session with
    | .text, some r, some s => segmentEnded e h r endTime s c
    | .voice, some .starved, some s => voiceStarved e s c
    | _, _, _ => c
  retryPlacement e x c1

/-! ### Rebase and policy (R51, R53) -/

/-- A call rebase by `d` (R53). -/
def rebaseCall (e : Env) (x : Sub) (d : Time) (c : Core) : Core :=
  match c.voiceSession with
  | none => c
  | some (s, v) =>
    match v.traffic with
    | none => c
    | some tr =>
      if s.owner = x ∧ d ≠ 0 then
        let c1 := c.setTraffic s.handle { tr with anchor := tr.anchor + d }
        match tr.record with
        | none => c1
        | some h => shiftCadence e h d c1
      else c

/-- The credit of a live call at a change of C or I (R51). -/
def Traffic.clampCredit (now : Time) (creditMax : Nat) (t : Traffic) : Traffic :=
  { t with credit := min t.credit creditMax
           lastRefill := if min t.credit creditMax = creditMax then now else t.lastRefill }

/-- A POLICY_SET that changes C or I (R51). -/
def creditPolicy (now : Time) (was will : Policy) (c : Core) : Core :=
  if was.creditMax = will.creditMax ∧ was.refill = will.refill then c
  else
    match c.voiceSession with
    | none => c
    | some (s, v) =>
      match v.traffic with
      | none => c
      | some tr => c.setTraffic s.handle ((tr.refill now was.creditMax was.refill).clampCredit now will.creditMax)

/-! ### Teardown (R62) -/

/-- X's sessions leave the table. -/
def dropSessions (x : Sub) (sessions : List (Option Session)) : List (Option Session) :=
  sessions.map fun o => match o with
    | some s => if s.owner = x then none else some s
    | none => none

/-- The Session Manager's share of X's teardown, with the close reason of a call of X (R62). -/
def smgTeardown (e : Env) (x : Sub) (reason : Nat) (c : Core) : Core :=
  let held := c.holdsCall x
  let c1 := (c.setSmg { c.smg with
    sessions := dropSessions x c.smg.sessions, queues := c.smg.queues.set x [] }).setMissed x ⟨0, false⟩
  if held then postCall e .app x callClosed reason c1 else c1

end Sys2Proof.Machine
end

