-- ==== Sys2Proof/Machine/Search.lean ====
section
/-! DEFINITION. The Coverage Search Controller's own mechanisms (chapter 5): coverage, attempts, counting, the ladder's
end and restart. -/

namespace Sys2Proof.Machine

/-! ### Coverage (R111) -/

/-- The coverage changes: COVERAGE is posted and the Session Manager is told; an unchanged state posts nothing
(R111). DESIGN CHOICE (log entry 45): the Session Manager's reaction (R55) comes here, before the SEARCH record of an attempt
begun at the same moment is created. -/
def setCoverage (e : Env) (x : Sub) (cov : Coverage) (cause : CoverageCause) (c : Core) : Core :=
  if (c.csc.get x).coverage = cov then c
  else
    lookAgain e x (post e .app
      (Event.now e .coverage (.subscription x) (value16 cov.code) (value16 cause.code))
      (c.setSearch x { c.csc.get x with coverage := cov }))

/-! ### Attempts (R112, R113) -/

/-- A coverage state in which the ladder runs (R110). -/
def Coverage.searching : Coverage → Bool
  | .near => true
  | .wide => true
  | .dormant => true
  | .noCell => false
  | .inService => false

/-- The attempt interval of a stage, DORMANT by the supply state (R112). -/
def attemptInterval (e : Env) : Coverage → Nat
  | .near => 32000
  | .wide => 160000
  | _ => if e.supply = .normal then 1920000 else 5760000

/-- The window length of a stage (R112). -/
def attemptLength : Coverage → Nat
  | .near => 320
  | _ => 3200

/-- An attempt begins: its one-shot SEARCH record is created, or the attempt is UNPLACED until its due time
(R113). -/
def beginAttempt (e : Env) (x : Sub) (attempt : Nat) (desired : Time) (c : Core) : Core × Option (Handle × Time) :=
  let s := { c.csc.get x with attempt := attempt }
  let r := newRecord x .search desired 3200 (attemptLength s.coverage) s.planFrequency s.planBand
  match createRecord e r c with
  | (c1, .created h start) =>
    (post e (.stack x)
      ⟨.searchWindow, .reservation x h, start, value16 s.coverage.code, value16 attempt⟩
      (c1.setSearch x { s with phase := .placed h }), some (h, start))
  | (c1, _) => (c1.setSearch x { s with phase := .unplaced desired }, none)

/-- Attempt 1 of a started or restarted ladder (R113). -/
def firstAttempt (e : Env) (x : Sub) (c : Core) : Core × Option (Handle × Time) :=
  beginAttempt e x 1 (e.count + tu Config.guardGap) c

/-- The desired start of a later attempt (R113). -/
def laterStart (e : Env) (stage : Coverage) (reference : Time) : Time :=
  laterOf (reference + tu (attemptInterval e stage)) (e.count + tu Config.guardGap)

/-! ### Counting (R117) -/

/-- The stage after the last attempt of a stage (R117). -/
def nextStage (stage : Coverage) (attempt : Nat) : Option Coverage :=
  match stage with
  | .near => if attempt = 10 then some .wide else none
  | .wide => if attempt = 12 then some .dormant else none
  | _ => none

/-- An attempt is counted with its reference time, and the next begins (R117). -/
def countAttempt (e : Env) (x : Sub) (reference : Time) (c : Core) : Core :=
  let s := c.csc.get x
  match nextStage s.coverage s.attempt with
  | some stage => (beginAttempt e x 1 (laterStart e stage reference) (setCoverage e x stage .stageLimit c)).1
  | none => (beginAttempt e x (saturate 65535 (s.attempt + 1)) (laterStart e s.coverage reference) c).1

/-- SEARCH_REPORT of an attempt with no window (R115, R117). -/
def reportNoWindow (e : Env) (x : Sub) (c : Core) : Core :=
  post e (.stack x) (Event.now e .searchReport .none 0 (signed16 (-1))) c

/-- The attempt's occurrence was preempted, or skipped at its end time (R117). -/
def attemptLost (e : Env) (x : Sub) (h : Handle) (reference : Time) (c : Core) : Core :=
  match (c.csc.get x).phase with
  | .placed h' => if h' = h then countAttempt e x reference (reportNoWindow e x c) else c
  | _ => c

/-! ### The ladder's end (R119, R123) -/

/-- The attempt in progress is removed by the table of R119. -/
def removeAttempt (e : Env) (x : Sub) (reported : Bool) (c : Core) : Core :=
  let c1 := c.setSearch x { c.csc.get x with phase := .idle, late := false }
  let withdraw := fun h : Handle =>
    match c1.reservation h with
    | none => c1
    | some r => withdrawRecord e .withdrawn reported r c1
  match (c.csc.get x).phase with
  | .placed h => withdraw h
  | .listening h _ _ => withdraw h
  | _ => c1

/-- The Coverage Search Controller's share of X's teardown: the record IDLE with the default plan, the coverage
NO_CELL (R119). COVERAGE is posted by the caller's order. -/
def cscTeardown (e : Env) (x : Sub) (c : Core) : Core :=
  let was := (c.csc.get x).coverage
  let c1 := c.setSearch x Search.initial
  if was = .noCell then c1
  else post e .app
    (Event.now e .coverage (.subscription x) (value16 Coverage.noCell.code) (value16 CoverageCause.teardown.code)) c1

end Sys2Proof.Machine
end

