-- ==== Sys2Proof/Machine/Settle.lean ====
section
/-! DEFINITION. What follows an event or a request at the same moment: the control bus is granted, devices with no delay
change state, the sleep entry evaluation runs, and the notices of the Timeline Arbiter are acted on. -/

namespace Sys2Proof.Machine

/-- A present device that is OFF while a power request stands for it (R156). -/
def risesNow (e : Env) (c : Core) (d : Device) : Bool :=
  e.has d && decide (c.power d = .off) && c.rcc.powerRequest d

/-- A RISING device with a power-on delay of 0 (R155). -/
def entersNow (e : Env) (c : Core) (d : Device) : Bool :=
  decide (e.delay d = 0) && (match c.power d with
    | .rising _ => true
    | _ => false)

/-- A FALLING device with an off-settle time of 0 (R155). -/
def fallsNow (e : Env) (c : Core) (d : Device) : Bool :=
  decide (e.image.offSettle = 0) && (match c.power d with
    | .falling _ => true
    | _ => false)

/-- A change of a device's power state that comes at once, lowest device number first (R155, R156). -/
def powerStep (e : Env) (c : Core) : Option Core :=
  match Device.all.find? (risesNow e c) with
  | some d => some (rise e d c)
  | none =>
    match Device.all.find? (entersNow e c) with
    | some d => some (enterOn e d c)
    | none =>
      match Device.all.find? (fallsNow e c) with
      | some d => some (finishFall e d c)
      | none => none

/-- The preparation goes to its writes, or the arbiter makes a decision on an idle bus (R125, R132). DESIGN CHOICE (log
entry 47): a preparation leaves AWAITING_POWER, and one with nothing to write ends, only while no transfer is in
flight. -/
def busStep (e : Env) (c : Core) : Option Core :=
  match c.rcc.bus with
  | some _ => none
  | none =>
    match c.rcc.prep with
    | some p => if powerArrived p c then some (c.setPrep { p with step := .context, position := 0 }) else arbitrate e c
    | none => arbitrate e c

/-- SETTLING_DOWN ends, or the sleep entry evaluation that has been triggered runs (R165, R167). -/
def sleepStep (e : Env) (c : Core) : Option Core :=
  match c.psc.sleep with
  | .settlingDown t w =>
    if allOff e c then some (settledDown t w c) else if c.evaluate then some (evaluateSleep e c) else none
  | _ => if c.evaluate then some (evaluateSleep e c) else none

/-- A notice of the Timeline Arbiter is acted on (R44, R117). -/
def actOn (e : Env) (n : Notice) (c : Core) : Core :=
  match n with
  | .pageLost x => missPage e x c
  | .pageActive x => c.setMissed x ⟨0, false⟩
  | .voiceSkipped s => c.editVoice s fun v => { v with skipped := saturate 65535 (v.skipped + 1) }
  | .searchLost x h reference => attemptLost e x h reference c
  | .recordEnded h x cls reason session endTime => recordEndedNotice e h x cls reason session endTime c

/-- The first notice is acted on. -/
def noticeStep (e : Env) (c : Core) : Option Core :=
  match c.notices with
  | [] => none
  | n :: rest => some (actOn e n { c with notices := rest })

/-- The next thing that comes at this moment: power changes first, then the bus, then sleep, then the notices (log
entry 11). -/
def settleStep (e : Env) (c : Core) : Option Core :=
  match powerStep e c with
  | some c' => some c'
  | none =>
    match busStep e c with
    | some c' => some c'
    | none =>
      match sleepStep e c with
      | some c' => some c'
      | none => noticeStep e c

def settleLoop (e : Env) : Nat → Core → Core
  | 0, c => c
  | n + 1, c =>
    match settleStep e c with
    | none => c
    | some c' => settleLoop e n c'

/-- A bound on what can follow one event at one moment. -/
def settleFuel : Nat := 4096

/-- Everything that follows at the same moment. -/
def settle (e : Env) (c : Core) : Core := settleLoop e settleFuel c

end Sys2Proof.Machine
end

