-- ==== Sys2Proof/Machine/Teardown.lean ====
section
/-! DEFINITION. The teardown of a subscription in every block, and COORDINATOR_RESET's work on the blocks (R180,
R216). -/

namespace Sys2Proof.Machine

/-- The Measurement Unit's share: the cell table empty, parameters and flags at their defaults, an open window of X
closed without update (R75). -/
def msuTeardown (x : Sub) (c : Core) : Core :=
  { c with msu := { c.msu with
      tables := c.msu.tables.set x CellTable.initial
      view := match c.msu.view with
        | none => none
        | some v => if v.owner = x then none else some v } }

/-- X's consent is cleared (R163); a change is a trigger (R165). -/
def clearConsent (x : Sub) (c : Core) : Core :=
  let c1 := { c with psc := { c.psc with consent := c.psc.consent.set x false } }
  if c.psc.consent.get x then c1.trigger else c1

/-- The code of the close reason that goes with the state a stack leaves ATTACHED for (R62, R180). -/
def StackState.closeReason : StackState → Nat
  | .lost => closeLost
  | _ => closeDetached

def Core.setStack (c : Core) (x : Sub) (s : Stack) : Core := { c with ssv := c.ssv.set x s }

/-- The teardown of X, whole at now: the stack state first, then every block's share, X's event queue last (R180,
R205). -/
def teardown (e : Env) (x : Sub) (left : StackState) (c : Core) : Core :=
  let c1 := c.setStack x ⟨left, none⟩
  let c2 := tlaTeardown e x (msuTeardown x c1)
  let c3 := smgTeardown e x left.closeReason c2
  let c4 := cscTeardown e x (c3.setHoe x Hoe.initial)
  emptyQueue (.stack x) (clearConsent x (rccTeardown x c4))

/-- A stack state event to the Application Port (R181). -/
def postStack (e : Env) (kind : EventKind) (x : Sub) (value1 value2 : Nat) (c : Core) : Core :=
  post e .app (Event.now e kind (.subscription x) (value16 value1) (value16 value2)) c

/-- The causes of STACK_DETACHED, in the order of R181. -/
def causeDetach : Nat := 0
def causeReattach : Nat := 1

/-- The silence monitor of X expires: X is LOST and torn down, and STACK_LOST is posted last, with what was queued at
the expiry (R181, R184). -/
def silenceExpired (e : Env) (x : Sub) (c : Core) : Core :=
  let q := c.pif.get (.stack x)
  postStack e .stackLost x q.events.length q.overflow (teardown e x .lost c)

/-! ### COORDINATOR_RESET (R216) -/

/-- X is torn down if it is ATTACHED, and becomes DETACHED (R178, R216). -/
def resetStack (e : Env) (x : Sub) (c : Core) : Core :=
  if c.attached x then teardown e x .detached c else c.setStack x ⟨.detached, none⟩

/-- The sticky flags of both subscriptions are cleared, and the stray count is 0 (R216). -/
def clearMeasurement (c : Core) : Core :=
  let c1 := (c.setFlags .A fun _ => ⟨false, false, false, false⟩).setFlags .B fun _ => ⟨false, false, false, false⟩
  { c1 with msu := { c1.msu with stray := 0 } }

/-- Both consents are cleared and the hold is off; the state is AWAKE (R163, R216). -/
def clearSleep (c : Core) : Core :=
  { c with psc := { c.psc with sleep := .awake, consent := ⟨false, false⟩, stayAwake := false } }

/-- Both subscriptions are torn down, in AWAKE, and the power states of the devices stay as they were when the reset was
taken: the teardowns are one moment, in which no device is raised, whichever comes first (R216; log entry 54). -/
def resetStacks (e : Env) (c : Core) : Core :=
  let c1 := resetStack e .B (resetStack e .A (c.setSleep .awake))
  { c1 with psc := { c1.psc with power := c.psc.power } }

/-- What COORDINATOR_RESET does to the blocks (R216). -/
def resetBlocks (e : Env) (c : Core) : Core :=
  let c2 := fallAll e (rccReset (resetStacks e c))
  let c3 := clearSleep (clearMeasurement c2)
  (emptyQueue .app (emptyQueue (.stack .B) (emptyQueue (.stack .A) { c3 with notices := [] }))).trigger

end Sys2Proof.Machine
end

