-- ==== Sys2Proof/Machine/Links.lean ====
section
/-! DEFINITION. Link transactions, the judging of frames and the answers to requests (R193 to R199). -/

namespace Sys2Proof.Machine

/-! ### The state around a request -/

def State.setCore (s : State) (c : Core) : State := { s with core := c }

def State.setLink (s : State) (port : Port) (l : Link) : State := { s with links := s.links.set port l }

/-- Everything that follows at the same moment has come. -/
def State.settled (s : State) : State := s.setCore (settle s.env s.core)

/-- An event of the blocks, and what follows it. -/
def State.react (s : State) (f : Env → Core → Core) : State := (s.setCore (f s.env s.core)).settled

/-- RESET_N is held low: no block works (R210). -/
def State.held (s : State) : Bool := decide (s.env.load.phase = .notBegun)

/-! ### Transactions (R171, R193, R199, R200) -/

/-- A response as it is shifted out (R199, R219). -/
def responseBytes (summaryByte : Byte) (slot : Slot) : List Byte :=
  let body := [summaryByte, slot.seq, BitVec.ofNat 8 slot.status.code, BitVec.ofNat 8 slot.payload.length] ++ slot.payload
  body ++ [crc body]

/-- The bit that leaves the part at the `i`-th clock of a transaction: the response, most significant bit of each byte
first, and then filler bytes of 0x00 (R193). -/
def Transaction.bitOut (t : Transaction) (i : Nat) : Bool := ((t.response[i / 8]?).getD 0).getLsbD (7 - i % 8)

/-- What leaves the part over `n` clocks of a transaction (R193). -/
def Transaction.shiftedOut (t : Transaction) (n : Nat) : List Bool := (List.range n).map t.bitOut

/-- The length of the response a slot holds (R194). -/
def Slot.responseLength (slot : Slot) : Nat := 5 + slot.payload.length

/-- The beginning of a transaction acts on the sleep state (R171). -/
def transactionWakes (e : Env) (c : Core) : Core :=
  match c.psc.sleep with
  | .awake => c
  | .settlingDown _ _ => c.setSleep .awake
  | .light _ => c.setSleep .awake
  | .deep _ => beginWaking e c
  | .waking _ => c

/-- A transaction begins: the summary byte and the CRC are formed from the state before its own effect on the sleep
state (R193, R200). -/
def State.beginTransaction (s : State) (port : Port) : State :=
  let l := s.links.get port
  let bytes := responseBytes (summary s.env s.core port) l.slot
  (s.setLink port { l with transaction := some ⟨s.core.psc.sleep.kind, bytes⟩ }).setCore (transactionWakes s.env s.core)

/-- The transaction in progress, or one that begins now (log entry 8). -/
def State.ensureBegun (s : State) (port : Port) : State :=
  match (s.links.get port).transaction with
  | some _ => s
  | none => s.beginTransaction port

/-- The sleep state in which the port's transaction began. -/
def State.beganIn (s : State) (port : Port) : SleepKind :=
  match (s.links.get port).transaction with
  | some t => t.began
  | none => s.core.psc.sleep.kind

/-- The answer is written into the slot, and the transaction is over (R199). -/
def State.answerSlot (s : State) (port : Port) (slot : Slot) : State :=
  s.setLink port { s.links.get port with slot := slot, transaction := none }

/-! ### Requests (R188, R198) -/

/-- The outcome of a request's handling: the state, the status and the payload. -/
structure Answer where
  state : State
  status : Status
  payload : List Byte

/-- A refusal carries no payload (R199) and changes nothing of the state it is given. -/
def refuse (status : Status) (s : State) : Answer := ⟨s, status, []⟩

def accept (s : State) (payload : List Byte) : Answer := ⟨s, .ok, payload⟩

/-- A request's own handling, by its class of permission (R188, R209): a stack request acts for its port's
subscription, an application request for the part, a shared request by the port. -/
inductive Handling where
  | stack (run : Sub → State → Answer)
  | app (run : SleepKind → State → Answer)
  | shared (run : Port → State → Answer)

/-- A request: whether it needs an ATTACHED stack on a stack port (R188, R209), and its handling. -/
structure Request where
  needsAttached : Bool
  handling : Handling

/-- Checks 5 and 6, and then the request's own handling (R188, R198). -/
def Request.judge (r : Request) (port : Port) (began : SleepKind) (s : State) : Answer :=
  match r.handling, port with
  | .stack run, .stack x =>
    if r.needsAttached && !s.core.attached x then refuse .notAttached s else run x s
  | .stack _, .app => refuse .notPermitted s
  | .app run, .app => run began s
  | .app _, .stack _ => refuse .notPermitted s
  | .shared run, .stack x =>
    if r.needsAttached && !s.core.attached x then refuse .notAttached s else run (.stack x) s
  | .shared run, .app => run .app s

/-- What a whole frame asks for. -/
inductive Asked where
  | unknown
  | badLength
  | request (r : Request)

/-- The checks of R198, in order. -/
def answerFrame (port : Port) (began : SleepKind) (a : Asked) (s : State) : Answer :=
  if s.env.load.phase ≠ .ended then refuse .notReady s
  else if began = .deep ∨ began = .waking then refuse .waking s
  else
    match a with
    | .unknown => refuse .unknownRequest s
    | .badLength => refuse .badLength s
    | .request r => r.judge port began s

/-- A whole frame on a stack port restarts a running silence monitor (R183). -/
def restartMonitor (port : Port) (s : State) : State :=
  match port with
  | .app => s
  | .stack x =>
    match (s.core.ssv.get x).monitor with
    | none => s
    | some _ => s.setCore (s.core.setMonitor x (some (s.env.count + tu (s.env.policy.limits.get x))))

/-- The end of a transaction that carried a whole frame and shifted the slot out: the monitor restarts, the frame is
judged, and its answer is written into the slot (R183, R195, R198, R199). The frame is judged by the sleep state in which
its transaction began; DESIGN CHOICE (log entry 49): one that began awake and ends after the part has fallen asleep is taken
without waking the part. -/
def takeFrame (port : Port) (seq : Byte) (a : Asked) (s : State) : State :=
  let s1 := restartMonitor port s
  let ans := answerFrame port (s1.beganIn port) a s1
  ans.state.answerSlot port ⟨seq, ans.status, ans.payload⟩

/-- A request command: the whole frame that carries it, at the end of a transaction that shifted the slot out (log entry
8). While RESET_N is low there is no transaction (R210). -/
def takeRequest (port : Port) (seq : Byte) (r : Request) (s : State) : Host.Outcome State Fault Refusal :=
  if s.held then .next s else .next (takeFrame port seq (.request r) (s.ensureBegun port))

/-- A frame error: answered FRAME_ERROR with the second received byte as its sequence, and counted (R197). -/
def frameError (port : Port) (received : List Byte) (s : State) : State :=
  let l := s.links.get port
  s.setLink port
    { slot := ⟨(received[1]?).getD 0, .frameError, []⟩, crcErrors := saturate 65535 (l.crcErrors + 1), transaction := none }

/-- An event command: nothing while RESET_N is low (R210). -/
def onEvent (s : State) (f : State → State) : Host.Outcome State Fault Refusal :=
  .next (if s.held then s else f s)

end Sys2Proof.Machine
end

