-- ==== Sys2Proof/Machine/CellCommands.lean ====
section
/-! DEFINITION. The Measurement Unit's requests and its event: CELL_SET, CELL_REMOVE, CELL_READ, FILTER_SET, FLAGS_READ,
SAMPLE_REPORT (R76, R88 to R92). -/

namespace Sys2Proof.Machine

/-- A cell identity above 1023 (R88). -/
def badKey (key : CellKey) : Bool := decide (1023 < key.identity.toNat)

/-- The offset in force, in half-dB (R88). -/
def takenOffset (offset : Byte) : Int := clampInt (-48) 48 offset.toInt

/-- The payload of CELL_SET: slot, added or replaced, offset in force (R88). -/
def cellSetBytes (slot : Nat) (replaced : Bool) (offset : Int) : List Byte :=
  bytes8 slot ++ bytes8 replaced.toNat ++ [BitVec.ofInt 8 offset]

/-- A table with one slot written. -/
def CellTable.put (t : CellTable) (i : Nat) (r : Option Cell) : CellTable := { t with slots := t.slots.set i r }

/-- CELL_SET (R88). -/
def cellSetRequest (key : CellKey) (offset : Byte) (barred : Bool) : Request := ⟨true, .stack fun x s =>
  let t := s.core.cells x
  let o := takenOffset offset
  if badKey key then refuse .badParam s
  else
    match slotOf t.slots key with
    | some i =>
      match cellAt t.slots i with
      | none => refuse .tableFull s
      | some r =>
        accept (s.setCore (s.core.setCells x (t.put i (some { r with offset := o, barred := barred }))))
          (cellSetBytes i true o)
    | none =>
      match freeSlot t.slots with
      | none => refuse .tableFull s
      | some i =>
        accept (s.setCore (s.core.setCells x (t.put i (some (newCell key .neighbour o barred)))))
          (cellSetBytes i false o)⟩

def execCellSet (port : Port) (seq : Byte) (key : CellKey) (offset : Byte) (barred : Bool) (s : State) :
    Host.Outcome State Fault Refusal :=
  takeRequest port seq (cellSetRequest key offset barred) s

/-- CELL_REMOVE (R74, R89). -/
def cellRemoveRequest (key : CellKey) : Request := ⟨true, .stack fun x s =>
  if badKey key then refuse .badParam s
  else
    match slotOf (s.core.cells x).slots key with
    | none => refuse .noSuch s
    | some i =>
      if (cellAt (s.core.cells x).slots i).map Cell.role = some .serving then refuse .notPermitted s
      else
        let c := removeCell x i s.core
        accept (s.setCore c) (bytes8 (cellCount (c.cells x).slots))⟩

def execCellRemove (port : Port) (seq : Byte) (key : CellKey) (s : State) : Host.Outcome State Fault Refusal :=
  takeRequest port seq (cellRemoveRequest key) s

def Role.code : Role → Nat
  | .serving => 0
  | .neighbour => 1

/-- The record fields of CELL_READ (R90). -/
def cellBytes (now : Time) (stale : Nat) (r : Cell) : List Byte :=
  bytesKey r.key ++ bytes8 r.role.code ++ [BitVec.ofInt 8 r.offset] ++ yesNo r.barred ++ (match r.level with
    | none => bytes8 0 ++ nat16 0 ++ nat32 0 ++ bytes8 r.updates ++ yesNo false
    | some l => bytes8 1 ++ bytes16 (signed16 l.value) ++ bytes32 l.updated ++ bytes8 r.updates
        ++ yesNo (l.staleAt stale now))
    ++ timeOrNone r.entry ++ yesNo r.reported

/-- The subscription a shared request acts for: the port's own, or the one named on the Application Port (R188,
R219). -/
def actsFor (port : Port) (sub : Byte) : Option Sub :=
  match port with
  | .stack x => some x
  | .app => Sub.ofByte sub

/-- The payload of CELL_READ (R90). -/
def cellReadBytes (now : Time) (t : CellTable) (slot : Nat) : List Byte :=
  bytes8 (cellCount t.slots) ++ (match cellAt t.slots slot with
    | none => yesNo false
    | some r => yesNo true ++ cellBytes now t.stale r)

/-- CELL_READ (R90). -/
def cellReadRequest (sub slot : Byte) : Request := ⟨true, .shared fun port s =>
  if 11 < slot.toNat then refuse .badParam s
  else
    match actsFor port sub with
    | none => refuse .badParam s
    | some x => accept s (cellReadBytes s.env.count (s.core.cells x) slot.toNat)⟩

def execCellRead (port : Port) (seq : Byte) (sub slot : Byte) (s : State) : Host.Outcome State Fault Refusal :=
  takeRequest port seq (cellReadRequest sub slot) s

/-- FILTER_SET (R91). -/
def filterSetRequest (k : Byte) (stale : BitVec 32) : Request := ⟨true, .stack fun x s =>
  let k' := clamp 0 6 k.toNat
  let stale' := clamp 3200 320000 stale.toNat
  accept (s.setCore (s.core.setCells x { s.core.cells x with k := k', stale := stale' })) (bytes8 k' ++ nat32 stale')⟩

def execFilterSet (port : Port) (seq : Byte) (k : Byte) (stale : BitVec 32) (s : State) :
    Host.Outcome State Fault Refusal :=
  takeRequest port seq (filterSetRequest k stale) s

/-- The payload of FLAGS_READ (R92). DESIGN CHOICE (log entry 43): the flags, given as set or clear, are written 1 when
set. -/
def flagBytes (f : Flags) (stray : Nat) : List Byte :=
  yesNo f.satHigh ++ yesNo f.satLow ++ yesNo f.stray ++ yesNo f.overrun ++ nat16 stray

/-- FLAGS_READ: a stack's own read clears its flags (R85, R92). -/
def flagsReadRequest (sub : Byte) : Request := ⟨true, .shared fun port s =>
  match actsFor port sub with
  | none => refuse .badParam s
  | some x =>
    accept (match port with
        | .stack _ => s.setCore (s.core.setFlags x fun _ => ⟨false, false, false, false⟩)
        | .app => s)
      (flagBytes (s.core.cells x).flags s.core.msu.stray)⟩

def execFlagsRead (port : Port) (seq : Byte) (sub : Byte) (s : State) : Host.Outcome State Fault Refusal :=
  takeRequest port seq (flagsReadRequest sub) s

/-- SAMPLE_REPORT: a frame of exactly 38 bits is a report, any other is discarded (R76, R220). -/
def takeSample (bits : List Bool) (e : Env) (c : Core) : Core :=
  match sampleOfBits bits with
  | none => c
  | some sample => attributeSample e sample c

def execSampleReport (bits : List Bool) (s : State) : Host.Outcome State Fault Refusal :=
  onEvent s fun s => s.setCore (takeSample bits s.env s.core)

end Sys2Proof.Machine
end

