-- ==== Sys2Proof/Machine/TimelineCommands.lean ====
section
/-! DEFINITION. The requests and events of the Timeline Arbiter: RESERVE, WITHDRAW, STAGE, RESERVATION_READ,
PREPARATION_REQUEST, WINDOW_START, WINDOW_END (R28 to R40). -/

namespace Sys2Proof.Machine

/-- A time a request may name: before now, or less than 2^24 tu after it (R37, R64). -/
def farStart (now t : Time) : Bool := atOrAfter t (now + tu (2 ^ 24)) && !before t now

/-- The 3-bit band code of a byte that has been checked to be at most 7. -/
def bandOf (b : Byte) : BitVec 3 := b.setWidth 3

/-- The slack in force (R37). -/
def takenSlack (slack : Half) : Nat := clamp 0 16383 slack.toNat

/-- The classes a RESERVE may name (R37). -/
def reservable : Option Class → Option Class
  | some .access => some .access
  | some .page => some .page
  | some .measure => some .measure
  | _ => none

/-- A non-zero repeat period outside length + slack + 4 to 4194304 (R37). -/
def badPeriod (slack length period : Nat) : Bool :=
  decide (period ≠ 0) && !(decide (length + slack + 4 ≤ period) && decide (period ≤ 4194304))

/-- The cells of a RESERVE do not suit its class (R37). -/
def badCells (k : Class) (cells : List CellKey) : Bool :=
  (match k with
    | .measure => decide (cells.length = 0) || decide (4 < cells.length)
    | _ => decide (cells.length ≠ 0))
    || cells.any fun key => decide (1023 < key.identity.toNat)

/-- The BAD_PARAM conditions of RESERVE, for a class it may name (R37). -/
def badReserve (now : Time) (k : Class) (emergency : Bool) (desired : Time) (slack length : Nat) (band : Byte)
    (period : Nat) (session : Option Handle) (cells : List CellKey) : Bool :=
  (emergency && decide (k ≠ .access))
    || decide (length < 8)
    || decide (7 < band.toNat)
    || farStart now desired
    || badPeriod slack length period
    || badCells k cells
    || (session.isSome && decide (k ≠ .access))

/-- The session named is an open voice session of the subscription (R37, R43). -/
def openCall (c : Core) (x : Sub) (h : Handle) : Bool :=
  match c.session h with
  | none => false
  | some s => decide (s.owner = x) && (match s.body with
    | .voice _ => true
    | .text _ => false)

/-- NO_SESSION's condition (R37). -/
def badSession (c : Core) (x : Sub) : Option Handle → Bool
  | none => false
  | some h => !openCall c x h

/-- Repeat period and count as a record holds them (R10, R37). -/
def repeatsOf (period count : Nat) : Option Repeats :=
  if period = 0 then none else some ⟨period, clamp 0 255 count⟩

/-- The record a RESERVE asks for (R37). -/
def reserveRecord (x : Sub) (k : Class) (emergency : Bool) (desired : Time) (slack length : Half) (frequency : Half)
    (band : Byte) (period : BitVec 32) (count : Half) (session : Option Handle) (cells : List CellKey) : Reservation :=
  { newRecord x k desired (takenSlack slack) length.toNat frequency (bandOf band) with
    emergency := emergency
    repeats := repeatsOf period.toNat count.toNat
    session := session
    cells := cells }

/-- What a creation answers to the request that asked for it (R22). -/
def answerCreation (s : State) (c : Core) : Creation → Answer
  | .tableFull => refuse .tableFull s
  | .tooLate => refuse .tooLate (s.setCore c).settled
  | .conflict _ => refuse .conflict (s.setCore c).settled
  | .created h start => accept (s.setCore c).settled (bytesHandle h ++ bytes32 start)

/-- A PAGE refused CONFLICT after a refused tune-away is told to the Session Manager (R22, R52). -/
def tellRefusedPage (r : Reservation) (made : Creation) (c : Core) : Core :=
  match r.cls, made with
  | .page, .conflict true => c.tell (.pageLost r.owner)
  | _, _ => c

/-- RESERVE (R37). -/
def reserveRequest (cls : Byte) (emergency : Bool) (desired : Time) (slack length frequency : Half) (band : Byte)
    (period : BitVec 32) (count : Half) (session : Option Handle) (cells : List CellKey) : Request :=
  ⟨true, .stack fun x s =>
    match reservable (Class.ofCode cls) with
    | none => refuse .badParam s
    | some k =>
      if badReserve s.env.count k emergency desired (takenSlack slack) length.toNat band period.toNat session cells then
        refuse .badParam s
      else if badSession s.core x session then refuse .noSession s
      else if k = .access ∧ emergency = false ∧ s.env.supply = .low then refuse .supplyLow s
      else
        let r := reserveRecord x k emergency desired slack length frequency band period count session cells
        match createRecord s.env r s.core with
        | (c, made) => answerCreation s (tellRefusedPage r made c) made⟩

def execReserve (port : Port) (seq : Byte) (cls : Byte) (emergency : Bool) (desired : Time)
    (slack length frequency : Half) (band : Byte) (period : BitVec 32) (count : Half) (session : Option Handle)
    (cells : List CellKey) (s : State) : Host.Outcome State Fault Refusal :=
  takeRequest port seq
    (reserveRequest cls emergency desired slack length frequency band period count session cells) s

/-- A class whose records end through the requests that own them (R38). -/
def Class.ownedElsewhere : Class → Bool
  | .voice => true
  | .text => true
  | .search => true
  | .access => false
  | .page => false
  | .measure => false

/-- The record of a handle, for a request on X's port: NO_SUCH and NOT_OWNER come first (R38, R39). -/
def ownRecord (x : Sub) (h : Handle) (s : State) (go : Reservation → Answer) : Answer :=
  match s.core.reservation h with
  | none => refuse .noSuch s
  | some r => if r.owner = x then go r else refuse .notOwner s

/-- WITHDRAW (R38): the owner's own end is silent. -/
def withdrawRequest (handle : Handle) : Request := ⟨true, .stack fun x s =>
  ownRecord x handle s fun r =>
    if r.cls.ownedElsewhere then refuse .notPermitted s
    else accept (s.react fun e c => withdrawRecord e .withdrawn false r c) []⟩

def execWithdraw (port : Port) (seq : Byte) (handle : Handle) (s : State) : Host.Outcome State Fault Refusal :=
  takeRequest port seq (withdrawRequest handle) s

/-- A present RF device named by a byte (R39). -/
def presentDevice (e : Env) (b : Byte) : Option Device :=
  match Device.ofByte b with
  | none => none
  | some d => if e.has d then some d else none

/-- STAGE (R39). -/
def stageRequest (handle : Handle) (device register : Byte) (value : Half) : Request := ⟨true, .stack fun x s =>
  ownRecord x handle s fun r =>
    match presentDevice s.env device with
    | none => refuse .badParam s
    | some d =>
      if r.state ≠ .granted then refuse .tooLate s
      else if Config.stagedSize ≤ r.staged.length then refuse .tableFull s
      else
        accept
          (s.setCore (s.core.editReservation handle fun q => { q with staged := q.staged ++ [⟨d, register, value⟩] }))
          (bytes8 (r.staged.length + 1))⟩

def execStage (port : Port) (seq : Byte) (handle : Handle) (device register : Byte) (value : Half) (s : State) :
    Host.Outcome State Fault Refusal :=
  takeRequest port seq (stageRequest handle device register value) s

/-- The repeat fields of RESERVATION_READ: the period, 0 when one-shot, and repeats remaining or none (R40). -/
def repeatBytes : Option Repeats → List Byte
  | none => nat32 0 ++ orNone 1 bytes8 none
  | some p => nat32 p.period ++ orNone 1 bytes8 (some p.remaining)

/-- The payload of RESERVATION_READ (R40, R219). DESIGN CHOICE (log entry 43): LATE and DEGRADED, given as set or clear, are
written 1 when set. -/
def reservationBytes (r : Reservation) : List Byte :=
  bytes8 (Sub.code r.owner) ++ bytes8 r.cls.code ++ yesNo r.urgent ++ yesNo r.emergency ++ bytes8 r.state.code
    ++ yesNo r.late ++ yesNo r.degraded ++ bytes32 r.start ++ bytes32 r.desired ++ nat16 r.slack ++ nat16 r.length
    ++ bytes16 r.frequency ++ bytes8 r.band.toNat ++ repeatBytes r.repeats ++ bytes16 r.occIndex ++ bytes8 r.lost
    ++ handleOrNone r.session ++ bytes8 r.staged.length ++ bytes8 r.cells.length ++ (r.cells.map bytesKey).flatten

/-- A shared read of a record: a stack port reads its own subscription's, the Application Port any (R40, R69). -/
def mayRead (port : Port) (owner : Sub) : Bool :=
  match port with
  | .app => true
  | .stack x => decide (owner = x)

/-- RESERVATION_READ (R40). -/
def reservationReadRequest (handle : Handle) : Request := ⟨true, .shared fun port s =>
  match s.core.reservation handle with
  | none => refuse .noSuch s
  | some r => if mayRead port r.owner then accept s (reservationBytes r) else refuse .notOwner s⟩

def execReservationRead (port : Port) (seq : Byte) (handle : Handle) (s : State) : Host.Outcome State Fault Refusal :=
  takeRequest port seq (reservationReadRequest handle) s

/-! ### Events -/

/-- The first GRANTED occurrence whose start − 4 tu has come (R28). -/
def duePreparation (e : Env) (c : Core) : Option Reservation :=
  c.tla.table.find? fun r => decide (r.state = .granted) && reached e.count (r.start - tu Config.guardGap)

/-- PREPARATION_REQUEST (R28). -/
def takePreparation (e : Env) (c : Core) : Core :=
  match duePreparation e c with
  | none => c
  | some r => askPreparation e r.handle c

def execPreparationRequest (s : State) : Host.Outcome State Fault Refusal :=
  onEvent s fun s => s.react takePreparation

/-- The first PREPARING occurrence whose start has come and has not been taken, before its end time (R29, R30). DEDUCED (log
entry 25): one that a later preparation has driven out of the RF Context Controller's view does not start; with every event
taken in time the view shows the one PREPARING occurrence (R131). -/
def dueStart (e : Env) (c : Core) : Option Reservation :=
  c.tla.table.find? fun r =>
    decide (r.state = .preparing) && !r.waiting && reached e.count r.start && before e.count r.endTime
      && decide (c.rcc.view.map RccView.handle = some r.handle)

/-- A window's start: ACTIVE when its preparation has ended, otherwise it waits (R29, R30). A start taken after its
time makes the window LATE (log entry 17). -/
def takeStart (e : Env) (c : Core) : Core :=
  match dueStart e c with
  | none => c
  | some r =>
    match r.prepared with
    | none => c.editReservation r.handle fun q => { q with waiting := true }
    | some retune => if e.count = r.start then activate retune r c else activateLate e retune r c

def execWindowStart (s : State) : Host.Outcome State Fault Refusal :=
  onEvent s fun s => s.react takeStart

/-- The first PREPARING or ACTIVE occurrence whose end time has come (R30, R31). -/
def dueEnd (e : Env) (c : Core) : Option Reservation :=
  c.tla.table.find? fun r =>
    (decide (r.state = .preparing) || decide (r.state = .active)) && reached e.count r.endTime

/-- A window's end: done when ACTIVE, skipped when still PREPARING (R30, R31). -/
def takeEnd (e : Env) (c : Core) : Core :=
  match dueEnd e c with
  | none => c
  | some r => if r.state = .active then finishWindow e r c else skipAtEnd e r c

def execWindowEnd (s : State) : Host.Outcome State Fault Refusal :=
  onEvent s fun s => s.react takeEnd

end Sys2Proof.Machine
end

