-- ==== Sys2Proof/Machine/BusCommands.lean ====
section
/-! DEFINITION. The RF Context Controller's requests and events: RF_WRITE, RF_READ, CONTEXT_READ, BUS_TRANSFER_END,
BUS_TRANSFER_TIMEOUT (R124, R148 to R150). -/

namespace Sys2Proof.Machine

/-- An immediate transaction as it is accepted (R139). -/
def newTxn (e : Env) (c : Core) (ticket : Byte) (kind : TxnKind) (d : Device) (reg : Byte) : Txn where
  ticket := ticket
  kind := kind
  device := d
  register := reg
  scope := c.scopeOf e d reg
  state := .queued
  released := false
  trapped := false
  request := false
  position := 0
  begun := false

/-- A transaction joins X's queue; when the queue was empty it has reached the head and is examined (R139, R140). -/
def joinQueue (e : Env) (x : Sub) (kind : TxnKind) (d : Device) (reg : Byte) (c : Core) : Core :=
  let b := c.bridge x
  let ticket := b.ticket + 1
  let c1 := c.setBridge x ⟨b.queue ++ [newTxn e c ticket kind d reg], ticket⟩
  if b.queue.isEmpty then examine e x c1 else c1

/-- The position of a ticket in X's queue, 0 when it has completed (R148). -/
def ticketPosition (c : Core) (x : Sub) (ticket : Byte) : Nat :=
  match (c.bridge x).queue.findIdx? fun t => decide (t.ticket = ticket) with
  | none => 0
  | some i => i + 1

/-- The handling that RF_WRITE and RF_READ share (R148, R149). -/
def acceptTransaction (x : Sub) (kind : TxnKind) (device register : Byte) (s : State) : Answer :=
  match presentDevice s.env device with
  | none => refuse .badParam s
  | some d =>
    if Config.bridgeSize ≤ (s.core.bridge x).queue.length then refuse .busy s
    else
      let ticket := (s.core.bridge x).ticket + 1
      let c := joinQueue s.env x kind d register s.core
      accept (s.setCore c).settled ([ticket] ++ bytes8 (ticketPosition c x ticket))

/-- RF_WRITE (R148). -/
def rfWriteRequest (device register : Byte) (value : Half) : Request :=
  ⟨true, .stack fun x s => acceptTransaction x (.write value) device register s⟩

def execRfWrite (port : Port) (seq : Byte) (device register : Byte) (value : Half) (s : State) :
    Host.Outcome State Fault Refusal :=
  takeRequest port seq (rfWriteRequest device register value) s

/-- RF_READ (R149). -/
def rfReadRequest (device register : Byte) : Request :=
  ⟨true, .stack fun x s => acceptTransaction x .read device register s⟩

def execRfRead (port : Port) (seq : Byte) (device register : Byte) (s : State) : Host.Outcome State Fault Refusal :=
  takeRequest port seq (rfReadRequest device register) s

def Scope.code : Scope → Nat
  | .context => 0
  | .common => 1

def Power.code : Power → Nat
  | .off => 0
  | .rising _ => 1
  | .on => 2
  | .falling _ => 3

/-- The power state of an entry's device and whether it is not answering; OFF and answering when it is absent
(R150). -/
def powerBytes (e : Env) (c : Core) (d : Device) : List Byte :=
  if e.has d then bytes8 (c.power d).code ++ yesNo (decide (c.rcc.answering.get d = .notAnswering))
  else bytes8 Power.off.code ++ yesNo false

def halfOrNone (h : Option Half) : List Byte := orNone 2 bytes16 h

/-- The payload of CONTEXT_READ (R150). -/
def contextBytes (e : Env) (c : Core) (x : Sub) (i : Nat) (m : ShadowEntry) : List Byte :=
  bytes8 c.rcc.shadow.length ++ bytes8 m.entry.device.number ++ [m.entry.register] ++ bytes8 m.entry.scope.code
    ++ yesNo (decide (c.rcc.tuning = some i))
    ++ (match m.entry.scope with
      | .context => halfOrNone (m.own.get x)
      | .common => halfOrNone m.common ++ halfOrNone m.entry.initial)
    ++ halfOrNone m.live ++ powerBytes e c m.entry.device

/-- CONTEXT_READ (R150). -/
def contextReadRequest (sub entry : Byte) : Request := ⟨true, .shared fun port s =>
  match s.core.rcc.shadow[entry.toNat]?, actsFor port sub with
  | some m, some x => accept s (contextBytes s.env s.core x entry.toNat m)
  | _, _ => refuse .badParam s⟩

def execContextRead (port : Port) (seq : Byte) (sub entry : Byte) (s : State) : Host.Outcome State Fault Refusal :=
  takeRequest port seq (contextReadRequest sub entry) s

/-! ### Events -/

/-- BUS_TRANSFER_END: the transfer in flight has run through its steps with these levels of RFC_DAT at the acknowledge
slots and in the bits of step 7, and ends with the outcome they give (R124, R220). -/
def execBusTransferEnd (slots : AckSlots) (returned : List Bool) (s : State) : Host.Outcome State Fault Refusal :=
  onEvent s fun s => s.react fun e c => endTransfer e ⟨slots, false, returned⟩ c

/-- BUS_TRANSFER_TIMEOUT: the device acknowledged twice and has held the bus for 20 µs, so that the part ends the transfer
(R124, R220). -/
def execBusTransferTimeout (s : State) : Host.Outcome State Fault Refusal :=
  onEvent s fun s => s.react fun e c => endTransfer e ⟨⟨false, false⟩, true, []⟩ c

end Sys2Proof.Machine
end

