-- ==== Sys2Proof/Machine/CallCommands.lean ====
section
/-! DEFINITION. The requests and events of the Session Manager: VOICE_OPEN, VOICE_CONNECT, VOICE_RELEASE, TEXT_SUBMIT,
SEGMENT_RESULT, TEXT_CANCEL, SESSION_READ, TEXT_RESULT_DEADLINE (R61, R63 to R69). -/

namespace Sys2Proof.Machine

/-! ### Voice -/

/-- VOICE_OPEN (R46, R63). -/
def voiceOpenRequest (emergency : Bool) : Request := ⟨true, .stack fun x s =>
  if s.core.voiceSession.isSome then refuse .busy s
  else if (s.core.csc.get x).coverage ≠ .inService ∧ emergency = false then refuse .noService s
  else if s.env.supply = .low ∧ emergency = false then refuse .supplyLow s
  else if Config.sessionSize ≤ sessionCount s.core then refuse .tableFull s
  else
    match addSession x (.voice ⟨emergency, none, 0⟩) s.core with
    | (c, h) => accept (s.setCore (postCall s.env .app x callSetup emergency.toNat c)) (bytesHandle h)⟩

def execVoiceOpen (port : Port) (seq : Byte) (emergency : Bool) (s : State) : Host.Outcome State Fault Refusal :=
  takeRequest port seq (voiceOpenRequest emergency) s

/-- The session of a handle, for a request on X's port: NO_SUCH and NOT_OWNER come first (R64, R65, R67, R68). -/
def ownSession (x : Sub) (h : Handle) (s : State) (go : Session → Answer) : Answer :=
  match s.core.session h with
  | none => refuse .noSuch s
  | some r => if r.owner = x then go r else refuse .notOwner s

/-- The BAD_PARAM conditions of VOICE_CONNECT (R64). -/
def badConnect (now : Time) (period length : Half) (anchor : Time) (band : Byte) : Bool :=
  decide (period.toNat < 160) || decide (2560 < period.toNat)
    || decide (length.toNat < 8) || decide (period.toNat < length.toNat + 4)
    || decide (7 < band.toNat) || farStart now anchor

/-- The repeating VOICE record of a call (R47). -/
def voiceRecord (r : Session) (v : Voice) (period length : Half) (anchor : Time) (frequency : Half) (band : Byte) :
    Reservation :=
  { newRecord r.owner .voice anchor 0 length.toNat frequency (bandOf band) with
    emergency := v.emergency
    repeats := some ⟨period.toNat, 0⟩
    session := some r.handle }

/-- The call becomes ACTIVE (R47). -/
def connectCall (e : Env) (r : Session) (v : Voice) (period length : Half) (anchor : Time) (h : Handle) (c : Core) :
    Core :=
  postCall e .app r.owner callActive v.emergency.toNat
    (c.setTraffic r.handle ⟨period.toNat, length.toNat, anchor, some h, e.policy.creditMax, e.count⟩)

/-- VOICE_CONNECT of a call in SETUP (R47, R64). -/
def connect (r : Session) (v : Voice) (period length : Half) (anchor : Time) (frequency : Half) (band : Byte)
    (s : State) : Answer :=
  match createRecord s.env (voiceRecord r v period length anchor frequency band) s.core with
  | (c, .created h start) => answerCreation s (connectCall s.env r v period length anchor h c) (.created h start)
  | (c, made) => answerCreation s c made

/-- VOICE_CONNECT (R64). -/
def voiceConnectRequest (session : Handle) (period length : Half) (anchor : Time) (frequency : Half) (band : Byte) :
    Request := ⟨true, .stack fun x s =>
  ownSession x session s fun r =>
    match r.body with
    | .text _ => refuse .noSession s
    | .voice v =>
      if v.traffic.isSome then refuse .noSession s
      else if badConnect s.env.count period length anchor band then refuse .badParam s
      else connect r v period length anchor frequency band s⟩

def execVoiceConnect (port : Port) (seq : Byte) (session : Handle) (period length : Half) (anchor : Time)
    (frequency : Half) (band : Byte) (s : State) : Host.Outcome State Fault Refusal :=
  takeRequest port seq (voiceConnectRequest session period length anchor frequency band) s

/-- VOICE_RELEASE (R65). -/
def voiceReleaseRequest (session : Handle) : Request := ⟨true, .stack fun x s =>
  ownSession x session s fun r =>
    match r.body with
    | .text _ => refuse .noSession s
    | .voice _ => accept (s.react fun e c => closeCall e false closeReleased r c) []⟩

def execVoiceRelease (port : Port) (seq : Byte) (session : Handle) (s : State) : Host.Outcome State Fault Refusal :=
  takeRequest port seq (voiceReleaseRequest session) s

/-! ### Text -/

/-- The BAD_PARAM conditions of TEXT_SUBMIT (R66). -/
def badSubmit (segments : Byte) (length : Half) (band : Byte) : Bool :=
  decide (segments.toNat = 0) || decide (16 < segments.toNat)
    || decide (length.toNat < 16) || decide (3200 < length.toNat) || decide (7 < band.toNat)

/-- A text session as it is submitted (R41, R66). -/
def newText (segments : Byte) (length : Half) (urgent : Bool) (frequency : Half) (band : Byte) : TextBody where
  state := .queued
  total := segments.toNat
  done := 0
  length := length.toNat
  urgent := urgent
  frequency := frequency
  band := bandOf band
  retries := 0
  record := none
  deadline := none
  notBefore := none
  late := false

/-- A text joins the tail of its owner's queue; as head it is SENDING or HELD at once (R54, R66). -/
def submitText (e : Env) (x : Sub) (t : TextBody) (c : Core) : Core × Handle :=
  match addSession x (.text t) c with
  | (c1, h) =>
    let c2 := c1.setQueue x (c1.queue x ++ [h])
    (if (c.queue x).isEmpty then sendOrHold e x c2 else c2, h)

/-- TEXT_SUBMIT (R66). -/
def textSubmitRequest (segments : Byte) (length : Half) (urgent : Bool) (frequency : Half) (band : Byte) : Request :=
  ⟨true, .stack fun x s =>
    if badSubmit segments length band then refuse .badParam s
    else if Config.textLimit ≤ (s.core.queue x).length then refuse .busy s
    else if Config.sessionSize ≤ sessionCount s.core then refuse .tableFull s
    else
      match submitText s.env x (newText segments length urgent frequency band) s.core with
      | (c, h) => accept (s.setCore c).settled (bytesHandle h ++ bytes8 ((s.core.queue x).length + 1))⟩

def execTextSubmit (port : Port) (seq : Byte) (segments : Byte) (length : Half) (urgent : Bool) (frequency : Half)
    (band : Byte) (s : State) : Host.Outcome State Fault Refusal :=
  takeRequest port seq (textSubmitRequest segments length urgent frequency band) s

/-- The result byte of SEGMENT_RESULT: 0 OK, 1 FAIL (R67, R221). -/
def segmentVerdict (b : Byte) : Option Bool :=
  if b = 0 then some true else if b = 1 then some false else none

/-- A verdict taken while a result deadline is present (R59). -/
def takeVerdict (e : Env) (ok : Bool) (r : Session) (t : TextBody) (c : Core) : Core :=
  let c1 := c.editText r.handle fun t' => { t' with deadline := none }
  if ok then segmentSent e r t c1 else failSegment e failReported r t c1

/-- SEGMENT_RESULT (R67). -/
def segmentResultRequest (session : Handle) (result : Byte) : Request := ⟨true, .stack fun x s =>
  ownSession x session s fun r =>
    match segmentVerdict result with
    | none => refuse .badParam s
    | some ok =>
      match r.body with
      | .voice _ => refuse .noSession s
      | .text t =>
        if t.deadline.isSome then
          accept (s.react fun e c => takeVerdict e ok r t c) (bytes8 (t.done + ok.toNat))
        else if t.late then refuse .tooLate s
        else refuse .noSession s⟩

def execSegmentResult (port : Port) (seq : Byte) (session : Handle) (result : Byte) (s : State) :
    Host.Outcome State Fault Refusal :=
  takeRequest port seq (segmentResultRequest session result) s

/-- TEXT_CANCEL (R68). -/
def textCancelRequest (session : Handle) : Request := ⟨true, .stack fun x s =>
  ownSession x session s fun r =>
    match r.body with
    | .voice _ => refuse .noSession s
    | .text _ => accept (s.react fun e c => closeSession e false r c) []⟩

def execTextCancel (port : Port) (seq : Byte) (session : Handle) (s : State) : Host.Outcome State Fault Refusal :=
  takeRequest port seq (textCancelRequest session) s

/-! ### SESSION_READ (R69) -/

/-- The kind and state codes, in the order of R41 (R219; log entry 18). DESIGN CHOICE (log entry 51): R41's one state field
lists the states of a call and then those of a text; each kind's states are numbered from 0 on. -/
def sessionCodes : SessionBody → List Byte
  | .voice v => bytes8 0 ++ bytes8 v.traffic.isSome.toNat
  | .text t => bytes8 1 ++ bytes8 t.state.code

/-- A field that a voice session in SETUP does not hold: a free value (log entry 4). -/
def absentField (reads field : Nat) : BitVec 32 := Config.setupField reads field

/-- The voice fields of SESSION_READ (R69). -/
def voiceBytes (reads : Nat) (v : Voice) : List Byte :=
  match v.traffic with
  | some t =>
    yesNo v.emergency ++ nat16 t.period ++ nat16 t.length ++ bytes32 t.anchor ++ handleOrNone t.record
      ++ bytes8 t.credit ++ bytes32 t.lastRefill ++ nat16 v.skipped
  | none =>
    yesNo v.emergency ++ bytes16 ((absentField reads 0).setWidth 16) ++ bytes16 ((absentField reads 1).setWidth 16)
      ++ bytes32 (absentField reads 2) ++ handleOrNone none ++ [(absentField reads 3).setWidth 8]
      ++ bytes32 (absentField reads 4) ++ nat16 v.skipped

/-- The place of a session in its queue, 1 for the head. -/
def queuePlace (q : List Handle) (h : Handle) : Nat := q.findIdx (fun g => decide (g = h)) + 1

/-- The text fields of SESSION_READ (R69). DESIGN CHOICE (log entry 43): the late marker, given as set or clear, is written
1 when set. -/
def textBytes (place : Nat) (t : TextBody) : List Byte :=
  bytes8 place ++ bytes8 t.total ++ bytes8 t.done ++ nat16 t.length ++ yesNo t.urgent ++ bytes8 t.retries
    ++ handleOrNone t.record ++ timeOrNone t.deadline ++ timeOrNone t.notBefore ++ yesNo t.late

/-- The payload of SESSION_READ (R69, R219). -/
def sessionBytes (s : State) (r : Session) : List Byte :=
  bytes8 (Sub.code r.owner) ++ sessionCodes r.body ++ (match r.body with
    | .voice v => voiceBytes s.env.unstated v
    | .text t => textBytes (queuePlace (s.core.queue r.owner) r.handle) t)

/-- The model's count of reads of absent fields goes on (log entry 4). -/
def State.readAbsent (s : State) (r : Session) : State :=
  match r.body with
  | .voice v => if v.traffic.isSome then s else { s with env := { s.env with unstated := s.env.unstated + 1 } }
  | .text _ => s

/-- SESSION_READ (R69). -/
def sessionReadRequest (session : Handle) : Request := ⟨true, .shared fun port s =>
  match s.core.session session with
  | none => refuse .noSuch s
  | some r => if mayRead port r.owner then accept (s.readAbsent r) (sessionBytes s r) else refuse .notOwner s⟩

def execSessionRead (port : Port) (seq : Byte) (session : Handle) (s : State) : Host.Outcome State Fault Refusal :=
  takeRequest port seq (sessionReadRequest session) s

/-! ### Events -/

/-- X's head text when its result deadline has been reached (R61). -/
def dueResult (e : Env) (c : Core) (x : Sub) : Option (Session × TextBody) :=
  match c.headText x with
  | none => none
  | some (r, t) => if reachedOpt e.count t.deadline then some (r, t) else none

/-- TEXT_RESULT_DEADLINE of a subscription's head text (R61). -/
def takeResultDeadline (x : Sub) (e : Env) (c : Core) : Core :=
  match dueResult e c x with
  | none => c
  | some (r, t) => resultExpired e r t c

def execTextResultDeadline (x : Sub) (s : State) : Host.Outcome State Fault Refusal :=
  onEvent s fun s => s.react (takeResultDeadline x)

end Sys2Proof.Machine
end

