-- ==== Sys2Proof/Machine/PortCommands.lean ====
section
/-! DEFINITION. The Port Interface's requests: FETCH, EVENT_READ, LINK_READ (R206 to R208). -/

namespace Sys2Proof.Machine

/-- FETCH: answered OK with no payload (R207). -/
def fetchRequest : Request := ⟨false, .shared fun _ s => accept s []⟩

def execFetch (port : Port) (seq : Byte) (s : State) : Host.Outcome State Fault Refusal :=
  takeRequest port seq fetchRequest s

/-- A port's queue with its oldest records read and its overflow count zeroed (R206). -/
def EventQueue.read (q : EventQueue) : EventQueue := ⟨q.events.drop Config.eventReadMax, 0⟩

/-- The port's queue after an EVENT_READ; a queue that has become empty is told to its neighbours (R202, R206). -/
def readQueue (port : Port) (c : Core) : Core :=
  let q := c.pif.get port
  let c1 := { c with pif := c.pif.set port q.read }
  if !q.events.isEmpty && q.read.events.isEmpty then queueEmptied port c1 else c1

/-- The payload of an EVENT_READ answer: three 2-byte counts and the records (R206, R219). -/
def eventPayload (q : EventQueue) : List Byte :=
  nat16 (q.events.take Config.eventReadMax).length ++ nat16 q.overflow ++ nat16 q.read.events.length
    ++ ((q.events.take Config.eventReadMax).map Event.bytes).flatten

/-- EVENT_READ (R206). -/
def eventReadRequest : Request := ⟨false, .shared fun port s =>
  accept ((s.setCore (readQueue port s.core)).settled) (eventPayload (s.core.pif.get port))⟩

def execEventRead (port : Port) (seq : Byte) (s : State) : Host.Outcome State Fault Refusal :=
  takeRequest port seq eventReadRequest s

/-- The link counts of one port (R208). -/
def linkCounts (s : State) (port : Port) : List Byte :=
  nat16 (s.links.get port).crcErrors ++ bytes8 (s.core.pif.get port).events.length
    ++ bytes8 (s.core.pif.get port).overflow

/-- LINK_READ: its own port's counts, or all three on the Application Port (R208). -/
def linkReadRequest : Request := ⟨false, .shared fun port s =>
  accept s (match port with
    | .stack x => linkCounts s (.stack x)
    | .app => linkCounts s (.stack .A) ++ linkCounts s (.stack .B) ++ linkCounts s .app)⟩

def execLinkRead (port : Port) (seq : Byte) (s : State) : Host.Outcome State Fault Refusal :=
  takeRequest port seq linkReadRequest s

end Sys2Proof.Machine
end

