-- ==== Sys2Proof/Machine/PowerCommands.lean ====
section
/-! DEFINITION. The Power and Sleep Controller's requests and events, and the silence monitor's expiry: TIME_READ,
CALIBRATE, SLEEP_CONSENT, STAY_AWAKE, RISE_END, FALL_END, DEMAND_TIME, WAKE_TIME, SETTLE_END, TIMELINE_CLOCK_ADVANCE,
BATT_LINE_CHANGE, SUPPLY_STABILITY_TIME, SILENCE_MONITOR_EXPIRY (R151 to R153, R155, R159 to R161, R168 to R176,
R184). -/

namespace Sys2Proof.Machine

/-! ### Requests -/

/-- TIME_READ (R173). -/
def timeReadRequest : Request := ⟨true, .shared fun _ s => accept s (bytes32 s.env.count ++ nat16 s.env.step)⟩

def execTimeRead (port : Port) (seq : Byte) (s : State) : Host.Outcome State Fault Refusal :=
  takeRequest port seq timeReadRequest s

/-- The step in force for a requested one (R152, R174). -/
def takenStep (step : Half) : Nat := clamp Config.stepLow Config.stepHigh step.toNat

/-- CALIBRATE (R174). -/
def calibrateRequest (step : Half) : Request := ⟨false, .app fun _ s =>
  accept { s with env := { s.env with step := takenStep step } } (nat16 (takenStep step))⟩

def execCalibrate (port : Port) (seq : Byte) (step : Half) (s : State) : Host.Outcome State Fault Refusal :=
  takeRequest port seq (calibrateRequest step) s

/-- An on/off field: 0 off, 1 on (R219). -/
def onOff (b : Byte) : Option Bool := if b = 0 then some false else if b = 1 then some true else none

/-- X's consent is set or cleared; a change is a trigger (R163, R165). -/
def setConsent (x : Sub) (on : Bool) (c : Core) : Core :=
  let c1 := { c with psc := { c.psc with consent := c.psc.consent.set x on } }
  if c.psc.consent.get x = on then c1 else c1.trigger

/-- SLEEP_CONSENT (R175). -/
def sleepConsentRequest (consent : Byte) : Request := ⟨true, .stack fun x s =>
  match onOff consent with
  | none => refuse .badParam s
  | some on => accept (s.react fun _ c => setConsent x on c) (yesNo on)⟩

def execSleepConsent (port : Port) (seq : Byte) (consent : Byte) (s : State) : Host.Outcome State Fault Refusal :=
  takeRequest port seq (sleepConsentRequest consent) s

/-- The stay-awake hold is turned on or off; a change is a trigger (R163, R165). -/
def setHold (on : Bool) (c : Core) : Core :=
  let c1 := { c with psc := { c.psc with stayAwake := on } }
  if c.psc.stayAwake = on then c1 else c1.trigger

/-- STAY_AWAKE (R176). -/
def stayAwakeRequest (hold : Byte) : Request := ⟨false, .app fun _ s =>
  match onOff hold with
  | none => refuse .badParam s
  | some on => accept (s.react fun _ c => setHold on c) (yesNo on ++ bytes8 s.env.supply.code)⟩

def execStayAwake (port : Port) (seq : Byte) (hold : Byte) (s : State) : Host.Outcome State Fault Refusal :=
  takeRequest port seq (stayAwakeRequest hold) s

/-! ### Device power (R155, R157, R172) -/

/-- RISE_END: a rise end that has been reached (R155). -/
def takeRiseEnd (d : Device) (e : Env) (c : Core) : Core :=
  match c.power d with
  | .rising t => if reached e.count t then enterOn e d c else c
  | _ => c

def execRiseEnd (device : Device) (s : State) : Host.Outcome State Fault Refusal :=
  onEvent s fun s => s.react (takeRiseEnd device)

/-- FALL_END: a fall end that has been reached (R155). -/
def takeFallEnd (d : Device) (e : Env) (c : Core) : Core :=
  match c.power d with
  | .falling t => if reached e.count t then finishFall e d c else c
  | _ => c

def execFallEnd (device : Device) (s : State) : Host.Outcome State Fault Refusal :=
  onEvent s fun s => s.react (takeFallEnd device)

/-- DEMAND_TIME: a demand time that has been reached brings the part AWAKE, and raises the device when it is OFF
(R156, R172). -/
def takeDemand (d : Device) (e : Env) (c : Core) : Core :=
  if e.has d && reachedOpt e.count (demandTimeOf e c d) then raiseIfWanted e (forceAwake c) d else c

def execDemandTime (device : Device) (s : State) : Host.Outcome State Fault Refusal :=
  onEvent s fun s => s.react (takeDemand device)

/-! ### Sleep (R168 to R170) -/

/-- WAKE_TIME: the wake time held has been reached (R168, R169). -/
def takeWake (e : Env) (c : Core) : Core :=
  if reachedOpt e.count c.psc.sleep.wake then wakeReached e c else c

def execWakeTime (s : State) : Host.Outcome State Fault Refusal :=
  onEvent s fun s => s.react takeWake

/-- SETTLE_END: WAKING ends, and the source changes to MAIN (R153, R170). -/
def takeSettleEnd (e : Env) (c : Core) : Core :=
  match c.psc.sleep with
  | .waking t => if reached e.count t then (c.setSleep .awake).mainClock else c
  | _ => c

def execSettleEnd (s : State) : Host.Outcome State Fault Refusal :=
  onEvent s fun s => s.react takeSettleEnd

/-! ### The clock (R151, R152) -/

/-- The timeline count and the remainder toward the next tu, after periods of the clock that is the source: CLK19
periods in 600s, or SLK periods that each add S to the fraction (R151, R152). -/
def advanceClock (periods : Nat) (s : State) : State :=
  match s.core.psc.sleep.source with
  | .main =>
    let total := s.core.psc.divider + periods
    { s with
      env := { s.env with count := s.env.count + BitVec.ofNat 32 (total / 600) }
      core := { s.core with psc := { s.core.psc with divider := total % 600 } } }
  | .sleep =>
    let total := s.core.psc.fraction + periods * s.env.step
    { s with
      env := { s.env with count := s.env.count + BitVec.ofNat 32 (total / 65536) }
      core := { s.core with psc := { s.core.psc with fraction := total % 65536 } } }

/-- TIMELINE_CLOCK_ADVANCE (R151, R152). -/
def execTimelineClockAdvance (periods : Nat) (s : State) : Host.Outcome State Fault Refusal :=
  onEvent s (advanceClock periods)

/-! ### Supply (R159 to R161) -/

/-- A line that changes to a level: a change time when it differs from the taken level, none otherwise (R159). -/
def SupplyLine.change (now : Time) (level : Bool) (l : SupplyLine) : SupplyLine :=
  if l.level = level then l
  else { l with level := level, changed := if level = l.taken then none else some now }

/-- A change of a line's level while RESET_N is low only sets the level (R210; log entry 6). -/
def SupplyLine.move (held : Bool) (now : Time) (level : Bool) (l : SupplyLine) : SupplyLine :=
  if held then { l with level := level } else l.change now level

/-- BATT_LINE_CHANGE (R159). -/
def changeLine (line : BattLine) (level : Bool) (s : State) : State :=
  match line with
  | .warn => { s with env := { s.env with warn := s.env.warn.move s.held s.env.count level } }
  | .low => { s with env := { s.env with low := s.env.low.move s.held s.env.count level } }

def execBattLineChange (line : BattLine) (level : Bool) (s : State) : Host.Outcome State Fault Refusal :=
  .next (changeLine line level s)

/-- The stability time of a line (R159). -/
def stabilityTime : Nat := 32

/-- A line that has held its level for the stability time is taken (R159). -/
def SupplyLine.settle (now : Time) (l : SupplyLine) : SupplyLine :=
  match l.changed with
  | none => l
  | some t => if passed now t stabilityTime then { l with taken := l.level, changed := none } else l

/-- The reaction of the blocks to a change of the supply state (R55, R160, R165). -/
def supplyChanged (was : Supply) (e : Env) (c : Core) : Core :=
  (lookAgain e .B (lookAgain e .A
    (post e .app (Event.now e .supply .none (value16 e.supply.code) (value16 was.code)) c))).trigger

/-- SUPPLY_STABILITY_TIME: the lines that have been stable are taken, and a changed supply state is reported (R159,
R160, R161). -/
def takeSupply (s : State) : State :=
  let e1 := { s.env with warn := s.env.warn.settle s.env.count, low := s.env.low.settle s.env.count }
  if e1.supply = s.env.supply then { s with env := e1 }
  else
    ({ s with env := { e1 with alert := s.env.alert || decide (e1.supply ≠ .normal) } } : State).react
      (supplyChanged s.env.supply)

def execSupplyStabilityTime (s : State) : Host.Outcome State Fault Refusal :=
  onEvent s takeSupply

/-! ### Silence (R184) -/

/-- SILENCE_MONITOR_EXPIRY: the expiry time of X's running monitor has been reached (R184). -/
def takeSilence (x : Sub) (e : Env) (c : Core) : Core :=
  if reachedOpt e.count (c.ssv.get x).monitor then silenceExpired e x c else c

def execSilenceMonitorExpiry (x : Sub) (s : State) : Host.Outcome State Fault Refusal :=
  onEvent s fun s => s.react (takeSilence x)

end Sys2Proof.Machine
end

