-- ==== Sys2Proof/Machine/HandoverCommands.lean ====
section
/-! DEFINITION. The Handover Evaluator's requests and its event: SERVING_SET, HANDOVER_DONE, HANDOVER_SET, HOLD_EXPIRY
(R100, R104, R107 to R109). -/

namespace Sys2Proof.Machine

/-- The key of an evicted record, or none. -/
def keyOrNone (k : Option CellKey) : List Byte := orNone 4 bytesKey k

/-- A serving change made by the stack ends a search in progress, silently, and the coverage becomes IN_SERVICE (R107,
R119). -/
def servingTaken (e : Env) (x : Sub) (c : Core) : Core :=
  setCoverage e x .inService .servingSet (removeAttempt e x false c)

/-- The payload of SERVING_SET (R107). -/
def servingBytes (ch : ServingChange) : List Byte :=
  bytes8 ch.slot ++ bytes8 ch.inserted.toNat ++ yesNo ch.changed ++ keyOrNone ch.evicted

/-- SERVING_SET (R107). -/
def servingSetRequest (key : CellKey) : Request := ⟨true, .stack fun x s =>
  if badKey key then refuse .badParam s
  else
    match makeServing s.env x key s.core with
    | (c, ch) => accept (s.setCore (servingTaken s.env x c)).settled (servingBytes ch)⟩

def execServingSet (port : Port) (seq : Byte) (key : CellKey) (s : State) : Host.Outcome State Fault Refusal :=
  takeRequest port seq (servingSetRequest key) s

/-- The offset of HANDOVER_DONE is outside −2048 to +2047 (R108). -/
def badShift (offset : Half) : Bool := decide (offset.toInt < -2048) || decide (2047 < offset.toInt)

/-- X holds the voice session and it is ACTIVE (R104). -/
def activeCall (c : Core) (x : Sub) : Bool :=
  match c.voiceSession with
  | none => false
  | some (r, v) => decide (r.owner = x) && v.traffic.isSome

/-- The hold that a HANDOVER_DONE starts; with P = 0 it expires at once (R100). -/
def holdOf (e : Env) (h : Hoe) : Option Time := if h.holdTime = 0 then none else some (e.count + tu h.holdTime)

/-- The steps of a HANDOVER_DONE after the serving change (R104). -/
def completeHandover (e : Env) (x : Sub) (d : Time) (c : Core) : Core :=
  let c1 := clearTrigger x c
  rebaseCall e x d (c1.setHoe x { c1.hoe.get x with holdEnd := holdOf e (c1.hoe.get x) })

/-- HANDOVER_DONE (R104, R108). -/
def handoverDoneRequest (key : CellKey) (offset : Half) : Request := ⟨true, .stack fun x s =>
  if badKey key || badShift offset then refuse .badParam s
  else if (s.core.csc.get x).coverage ≠ .inService then refuse .noService s
  else
    match makeServing s.env x key s.core with
    | (c, ch) =>
      accept (s.setCore (completeHandover s.env x (offset.signExtend 32) c)).settled
        (bytes8 ch.slot ++ keyOrNone ch.evicted ++ bytes32 (s.env.count + tu (s.core.hoe.get x).holdTime)
          ++ yesNo (activeCall s.core x && decide (offset ≠ 0)))⟩

def execHandoverDone (port : Port) (seq : Byte) (key : CellKey) (offset : Half) (s : State) :
    Host.Outcome State Fault Refusal :=
  takeRequest port seq (handoverDoneRequest key offset) s

def WeakState.code : WeakState → Nat
  | .clear => 0
  | .pending _ => 1
  | .reported _ => 2

/-- The parameters a HANDOVER_SET puts in force (R93, R109). -/
def takenParameters (h : Hoe) (hysteresis : Byte) (ttt : BitVec 32) (weak : Half) (hold : BitVec 32) : Hoe :=
  { h with
    hysteresis := clamp 0 30 hysteresis.toNat
    ttt := clamp 0 163840 ttt.toNat
    weakDbm := clampInt (-140) (-40) weak.toInt
    holdTime := clamp 0 320000 hold.toNat }

/-- The payload of HANDOVER_SET (R109). -/
def parameterBytes (h : Hoe) : List Byte :=
  bytes8 h.hysteresis ++ nat32 h.ttt ++ bytes16 (signed16 h.weakDbm) ++ nat32 h.holdTime ++ bytes8 h.weak.code
    ++ timeOrNone h.holdEnd

/-- HANDOVER_SET (R109). -/
def handoverSetRequest (hysteresis : Byte) (ttt : BitVec 32) (weak : Half) (hold : BitVec 32) : Request :=
  ⟨true, .stack fun x s =>
    let h := takenParameters (s.core.hoe.get x) hysteresis ttt weak hold
    accept (s.setCore (s.core.setHoe x h)) (parameterBytes h)⟩

def execHandoverSet (port : Port) (seq : Byte) (hysteresis : Byte) (ttt : BitVec 32) (weak : Half) (hold : BitVec 32)
    (s : State) : Host.Outcome State Fault Refusal :=
  takeRequest port seq (handoverSetRequest hysteresis ttt weak hold) s

/-- HOLD_EXPIRY: a hold end that has been reached is removed (R100). -/
def takeHoldExpiry (x : Sub) (e : Env) (c : Core) : Core :=
  if reachedOpt e.count (c.hoe.get x).holdEnd then c.setHoe x { c.hoe.get x with holdEnd := none } else c

def execHoldExpiry (x : Sub) (s : State) : Host.Outcome State Fault Refusal :=
  onEvent s fun s => s.setCore (takeHoldExpiry x s.env s.core)

end Sys2Proof.Machine
end

