-- ==== Sys2Proof/Machine/SearchCommands.lean ====
section
/-! DEFINITION. The Coverage Search Controller's requests and events: SERVICE_LOST, SEARCH_RESULT, SEARCH_PLAN,
SEARCH_RESTART, SEARCH_RESULT_DEADLINE, SEARCH_DUE_TIME (R116 to R123). -/

namespace Sys2Proof.Machine

/-- The coverage after the request, and the attempt's handle and placed start, or none (R120, R123). -/
def attemptBytes (cov : Coverage) (made : Option (Handle × Time)) : List Byte :=
  bytes8 cov.code ++ orNone 6 (fun m : Handle × Time => bytesHandle m.1 ++ bytes32 m.2) made

/-- SERVICE_LOST: from NO_CELL or IN_SERVICE the ladder starts at attempt 1 of NEAR (R111, R120). -/
def serviceLostRequest : Request := ⟨true, .stack fun x s =>
  if (s.core.csc.get x).coverage.searching then accept s (attemptBytes (s.core.csc.get x).coverage none)
  else
    match firstAttempt s.env x (setCoverage s.env x .near .serviceLost s.core) with
    | (c, made) => accept (s.setCore c).settled (attemptBytes .near made)⟩

def execServiceLost (port : Port) (seq : Byte) (s : State) : Host.Outcome State Fault Refusal :=
  takeRequest port seq serviceLostRequest s

/-- The result byte of SEARCH_RESULT: 0 FOUND, 1 NOT_FOUND (R121, R221). -/
def searchVerdict (b : Byte) : Option Bool :=
  if b = 0 then some true else if b = 1 then some false else none

/-- FOUND ends the ladder: the record IDLE, the key SERVING, the coverage IN_SERVICE (R119). -/
def takeFound (e : Env) (x : Sub) (key : CellKey) (c : Core) : Core × ServingChange :=
  match makeServing e x key (c.setSearch x { c.csc.get x with phase := .idle, late := false }) with
  | (c1, ch) => (setCoverage e x .inService .found c1, ch)

/-- The payload of a FOUND (R121). -/
def foundBytes (ch : ServingChange) : List Byte :=
  bytes8 Coverage.inService.code ++ bytes8 ch.slot ++ bytes8 ch.inserted.toNat ++ keyOrNone ch.evicted

/-- SEARCH_RESULT (R116, R121). -/
def searchResultRequest (result : Byte) (key : CellKey) : Request := ⟨true, .stack fun x s =>
  match searchVerdict result with
  | none => refuse .badParam s
  | some found =>
    if found && badKey key then refuse .badParam s
    else
      match (s.core.csc.get x).phase with
      | .awaiting _ reference =>
        if found then
          match takeFound s.env x key s.core with
          | (c, ch) => accept (s.setCore c).settled (foundBytes ch)
        else
          let s1 := s.react fun e c => countAttempt e x reference c
          accept s1 (bytes8 (s1.core.csc.get x).coverage.code)
      | _ => if (s.core.csc.get x).late then refuse .tooLate s else refuse .noSuch s⟩

def execSearchResult (port : Port) (seq : Byte) (result : Byte) (key : CellKey) (s : State) :
    Host.Outcome State Fault Refusal :=
  takeRequest port seq (searchResultRequest result key) s

/-- The handle of the current SEARCH record, or none (R122). -/
def Phase.record : Phase → Option Handle
  | .placed h => some h
  | .listening h _ _ => some h
  | .idle => none
  | .awaiting _ _ => none
  | .unplaced _ => none

/-- SEARCH_PLAN (R122). -/
def searchPlanRequest (frequency : Half) (band : Byte) : Request := ⟨true, .stack fun x s =>
  if 7 < band.toNat then refuse .badParam s
  else
    let p := s.core.csc.get x
    accept (s.setCore (s.core.setSearch x { p with planFrequency := frequency, planBand := band.setWidth 3 }))
      (bytes16 frequency ++ [band] ++ handleOrNone p.phase.record)⟩

def execSearchPlan (port : Port) (seq : Byte) (frequency : Half) (band : Byte) (s : State) :
    Host.Outcome State Fault Refusal :=
  takeRequest port seq (searchPlanRequest frequency band) s

/-- A ladder is restarted at attempt 1 of NEAR (R123). -/
def restartLadder (e : Env) (x : Sub) (c : Core) : Core × Option (Handle × Time) :=
  firstAttempt e x (setCoverage e x .near .restart (removeAttempt e x true c))

/-- SEARCH_RESTART (R123). -/
def searchRestartRequest (sub : Byte) : Request := ⟨false, .app fun _ s =>
  match Sub.ofByte sub with
  | none => refuse .badParam s
  | some x =>
    if s.core.attached x then
      if (s.core.csc.get x).coverage = .inService then refuse .notPermitted s
      else
        match restartLadder s.env x s.core with
        | (c, made) => accept (s.setCore c).settled (attemptBytes .near made)
    else refuse .notAttached s⟩

def execSearchRestart (port : Port) (seq : Byte) (sub : Byte) (s : State) : Host.Outcome State Fault Refusal :=
  takeRequest port seq (searchRestartRequest sub) s

/-! ### Events -/

/-- SEARCH_RESULT_DEADLINE: the deadline of the AWAITING phase expires (R118). -/
def takeSearchDeadline (x : Sub) (e : Env) (c : Core) : Core :=
  match (c.csc.get x).phase with
  | .awaiting deadline reference =>
    if reached e.count deadline then
      countAttempt e x reference (c.setSearch x { c.csc.get x with late := true })
    else c
  | _ => c

def execSearchResultDeadline (x : Sub) (s : State) : Host.Outcome State Fault Refusal :=
  onEvent s fun s => s.react (takeSearchDeadline x)

/-- SEARCH_DUE_TIME: the due time of an UNPLACED attempt is reached (R117). -/
def takeSearchDue (x : Sub) (e : Env) (c : Core) : Core :=
  match (c.csc.get x).phase with
  | .unplaced due => if reached e.count due then countAttempt e x due (reportNoWindow e x c) else c
  | _ => c

def execSearchDueTime (x : Sub) (s : State) : Host.Outcome State Fault Refusal :=
  onEvent s fun s => s.react (takeSearchDue x)

end Sys2Proof.Machine
end

