-- ==== Sys2Proof/Machine/StartUp.lean ====
section
/-! DEFINITION. Reset and start-up: POWER_ON_RESET, RESET_N_RISE, CONFIG_BYTE_READ, COORDINATOR_RESET, CONFIG_READ (R210 to
R218, R220). -/

namespace Sys2Proof.Machine

/-! ### Power-on reset (R210) -/

/-- A battery line's pin keeps its level through a reset (log entry 6). -/
def SupplyLine.reset (l : SupplyLine) : SupplyLine := ⟨l.level, false, none⟩

/-- Every block at its power-on values, with RESET_N low (R210). The commands still waiting are the senders', not the
part's. -/
def powerOn (s : State) : State :=
  { State.reset with
    env := { Env.initial with warn := s.env.warn.reset, low := s.env.low.reset }
    pending := s.pending }

/-- POWER_ON_RESET (R210). -/
def execPowerOnReset (s : State) : Host.Outcome State Fault Refusal := .next (powerOn s)

/-- A line that is asserted at reset is taken 32 tu later (R159). -/
def SupplyLine.begin (now : Time) (l : SupplyLine) : SupplyLine :=
  { l with changed := if l.level then some now else none }

/-- RESET_N rises: the load begins, and the supply lines pass through their filter (R210 to R212). -/
def releaseReset (s : State) : State :=
  { s with env := { s.env with
      load := { Load.initial with phase := .reading }
      warn := s.env.warn.begin s.env.count
      low := s.env.low.begin s.env.count } }

/-- RESET_N_RISE; a rise while RESET_N is not held low is no rise (log entry 7). -/
def execResetNRise (s : State) : Host.Outcome State Fault Refusal := .next (if s.held then releaseReset s else s)

/-! ### Records of the image (R213, R220) -/

/-- A value within its range, and how many clamps that took (R213). -/
def clampCount (lo hi n : Nat) : Nat × Nat := (clamp lo hi n, if lo ≤ n ∧ n ≤ hi then 0 else 1)

/-- What a record does to the working image: the image and the clamps, or it is ignored (R213). -/
def takePresent (b : Byte) (i : Image) : Image :=
  { i with present := ⟨b.getLsbD 0, b.getLsbD 1, b.getLsbD 2, b.getLsbD 3⟩ }

/-- A delay byte: 0–63 ms, stored × 32 tu (R213). -/
def delayOf (b : Byte) : Nat × Nat :=
  match clampCount 0 63 b.toNat with
  | (ms, n) => (32 * ms, n)

def takeDelays (a b c d : Byte) (i : Image) : Image × Nat :=
  match delayOf a, delayOf b, delayOf c, delayOf d with
  | (da, na), (db, nb), (dc, nc), (dd, nd) => ({ i with delays := ⟨da, db, dc, dd⟩ }, na + nb + nc + nd)

def takeThresholds (light deep : Half) (i : Image) : Image × Nat :=
  match clampCount 0 4095 light.toNat with
  | (l, n) => ({ i with lightThreshold := l, deepThreshold := deep.toNat }, n)

/-- A scope byte: 0 CONTEXT, 1 COMMON (R220). -/
def scopeOfByte (b : Byte) : Option Scope := if b = 0 then some .context else if b = 1 then some .common else none

/-- The limit of a scope: 24 CONTEXT entries, 16 COMMON entries (R126, R213). -/
def Scope.limit : Scope → Nat
  | .context => 24
  | .common => 16

/-- A MAP_ENTRY joins the map, or is ignored (R213). -/
def takeMapEntry (device register scope : Byte) (initial : Option Half) (i : Image) : Option Image :=
  match Device.ofByte device, scopeOfByte scope with
  | some d, some sc =>
    if i.map.any (fun m => decide (m.device = d) && decide (m.register = register)) then none
    else if sc.limit ≤ (i.map.filter fun m => decide (m.scope = sc)).length then none
    else
      let kept := match sc with
        | .context => none
        | .common => initial
      some { i with map := i.map ++ [⟨d, register, sc, kept⟩] }
  | _, _ => none

/-- A single numeric value taken into the image, with its clamp (R213). -/
def takeValue (lo hi n : Nat) (put : Nat → Image) : Option (Image × Nat) :=
  match clampCount lo hi n with
  | (v, k) => some (put v, k)

/-- A record taken by its kind, or ignored (R213, R220): the image and the clamps. -/
def takeRecord (kind : Byte) (data : List Byte) (i : Image) : Option (Image × Nat) :=
  match kind.toNat, data with
  | 0x01, [b] => some (takePresent b i, 0)
  | 0x02, [a, b, c, d] => some (takeDelays a b c d i)
  | 0x03, [b] => takeValue 0 63 b.toNat fun v => { i with offSettle := v }
  | 0x04, [a, b] => takeValue 32 1023 (a ++ b : Half).toNat fun v => { i with clockSettle := v }
  | 0x05, [a, b, c, d] => some (takeThresholds (a ++ b) (c ++ d) i)
  | 0x06, [b] => some ({ i with deepAllowed := decide (b ≠ 0) }, 0)
  | 0x07, [b] => takeValue 0 7 b.toNat fun v => { i with blanking := v }
  | 0x08, [d, r, sc] => (takeMapEntry d r sc none i).map fun i' => (i', 0)
  | 0x08, [d, r, sc, hi, lo] => (takeMapEntry d r sc (some (hi ++ lo)) i).map fun i' => (i', 0)
  | 0x09, [b] => takeValue 0 39 b.toNat fun v => { i with tuning := some v }
  | _, _ => none

/-! ### The load (R212, R214, R215) -/

/-- The tuning register: the entry designated, when it exists and lies on a present device 0 (R126, R214). -/
def settledTuning (i : Image) : Option Nat :=
  match i.tuning with
  | none => none
  | some n =>
    match i.map[n]? with
    | none => none
    | some m => if m.device = .transceiver ∧ i.present.get .transceiver then some n else none

/-- The items that depend on one another, settled (R214). -/
def settleImage (i : Image) : Image × Nat :=
  let least := i.offSettle + Config.guardGap
  ({ i with tuning := settledTuning i, lightThreshold := max least i.lightThreshold },
    if i.lightThreshold < least then 1 else 0)

/-- A map entry as the RF Context Controller receives it (R127, R128, R214). -/
def freshEntry (m : MapEntry) : ShadowEntry :=
  ⟨m, ⟨none, none⟩, (match m.scope with
    | .context => none
    | .common => m.initial), none⟩

/-- The image is handed to the blocks, and the end of the load triggers the sleep entry evaluation (R214). -/
def handOver (i : Image) (l : Load) (s : State) : State :=
  ({ s with
      env := { s.env with load := l, image := i }
      core := { s.core with rcc := { s.core.rcc with shadow := i.map.map freshEntry, tuning := i.tuning } } } :
    State).react fun _ c => c.trigger

/-- The load ends LOADED (R214). -/
def endLoaded (l : Load) (s : State) : State :=
  match settleImage l.working with
  | (i, n) =>
    handOver i { l with phase := .ended, working := i, clamps := saturate 255 (l.clamps + n), loaded := true, cause := .none }
      s

/-- The load ends DEFAULTS (R215). -/
def endDefaults (cause : LoadCause) (l : Load) (s : State) : State :=
  handOver Image.default { l with phase := .ended, working := Image.default, loaded := false, cause := cause } s

def State.setLoad (s : State) (l : Load) : State := { s with env := { s.env with load := l } }

/-- The load ends when records read equals records stated (R212). -/
def continueLoad (l : Load) (s : State) : State := if l.read = l.stated then endLoaded l s else s.setLoad l

/-- A record read whole is taken or ignored (R212, R213). -/
def Load.takeWhole (l : Load) (kind : Byte) (data : List Byte) : Load :=
  match takeRecord kind data l.working with
  | some (i, n) =>
    { l with partialRecord := [], read := l.read + 1, working := i, clamps := saturate 255 (l.clamps + n) }
  | none => { l with partialRecord := [], read := l.read + 1, ignored := saturate 255 (l.ignored + 1) }

/-- A byte of a record (R212). -/
def recordByte (b : Byte) (l : Load) (s : State) : State :=
  match l.partialRecord ++ [b] with
  | kind :: n :: data =>
    if data.length = n.toNat then continueLoad (l.takeWhole kind data) s
    else s.setLoad { l with partialRecord := kind :: n :: data }
  | short => s.setLoad { l with partialRecord := short }

/-- The address after a position (R212). DESIGN CHOICE (log entry 40): the 16-bit position stops at 65535. -/
def nextPosition (p : Half) : Half := BitVec.ofNat 16 (saturate 65535 (p.toNat + 1))

/-- A byte read during the load, by its position (R212). -/
def loadByte (b : Byte) (l : Load) (s : State) : State :=
  let l1 := { l with position := nextPosition l.position }
  if l.position = 0 then (if b = 0x5A then s.setLoad l1 else endDefaults .badSignature l1 s)
  else if l.position = 1 then continueLoad { l1 with stated := b.toNat } s
  else recordByte b l1 s

/-- A read with no answer ends the load (R212). -/
def noAnswer (l : Load) (s : State) : State :=
  endDefaults (if l.position = 0 then .noAnswer else .readFailed) l s

/-- One read of the configuration memory while the load runs (R212). -/
def takeConfigByte (byte : Option Byte) (s : State) : State :=
  match s.env.load.phase, byte with
  | .reading, some b => loadByte b s.env.load s
  | .reading, none => noAnswer s.env.load s
  | _, _ => s

/-- CONFIG_BYTE_READ (R212). -/
def execConfigByteRead (byte : Option Byte) (s : State) : Host.Outcome State Fault Refusal :=
  .next (takeConfigByte byte s)

/-! ### COORDINATOR_RESET (R216, R217) -/

/-- A port's link with its CRC error count at 0 (R197, R216). -/
def Link.clearCount (l : Link) : Link := { l with crcErrors := 0 }

/-- What COORDINATOR_RESET does (R216). -/
def coordinatorReset (s : State) : State :=
  ({ s with
      env := { s.env with alert := false }
      links := ⟨s.links.a.clearCount, s.links.b.clearCount, s.links.p.clearCount⟩ } : State).react resetBlocks

/-- COORDINATOR_RESET (R217). -/
def coordinatorResetRequest : Request := ⟨false, .app fun _ s =>
  accept (coordinatorReset s) (bytes8 (s.core.ssv.get .A).state.code ++ bytes8 (s.core.ssv.get .B).state.code)⟩

def execCoordinatorReset (port : Port) (seq : Byte) (s : State) : Host.Outcome State Fault Refusal :=
  takeRequest port seq coordinatorResetRequest s

/-! ### CONFIG_READ (R218) -/

/-- How many entries of a scope the map holds. -/
def scopeCount (i : Image) (sc : Scope) : Nat := (i.map.filter fun m => decide (m.scope = sc)).length

/-- The payload of CONFIG_READ (R218). The outcome is 0 LOADED, 1 DEFAULTS (R221). DESIGN CHOICE (log entry 56): the cause or
none is one byte, the code of the cause or the code 0 that R221 gives none, with no presence byte of R219 before it. DESIGN CHOICE (log entry 58): a present flag is
read as a yes/no field, 1 for present. -/
def configBytes (l : Load) (i : Image) : List Byte :=
  bytes8 (if l.loaded then 0 else 1) ++ bytes8 l.cause.code
    ++ bytes8 l.stated ++ bytes8 l.read ++ bytes8 l.clamps ++ bytes8 l.ignored
    ++ (Device.all.map fun d => yesNo (i.present.get d)).flatten ++ (Device.all.map fun d => nat16 (i.delays.get d)).flatten
    ++ bytes8 i.offSettle ++ nat16 i.clockSettle ++ nat16 i.lightThreshold ++ nat16 i.deepThreshold
    ++ yesNo i.deepAllowed ++ bytes8 i.blanking
    ++ bytes8 (scopeCount i .context) ++ bytes8 (scopeCount i .common) ++ orNone 1 bytes8 i.tuning

/-- CONFIG_READ (R218). -/
def configReadRequest : Request := ⟨true, .shared fun _ s => accept s (configBytes s.env.load s.env.image)⟩

def execConfigRead (port : Port) (seq : Byte) (s : State) : Host.Outcome State Fault Refusal :=
  takeRequest port seq configReadRequest s

end Sys2Proof.Machine
end

