-- ==== Sys2Proof/Machine/Supervision.lean ====
section
/-! DEFINITION. The Subscription Supervisor's requests: ATTACH, DETACH, STATUS_READ, POLICY_SET (R178, R185 to R192). -/

namespace Sys2Proof.Machine

/-- A stack that attaches from ATTACHED is torn down first (R178, R189). -/
def detachFirst (e : Env) (x : Sub) (c : Core) : Core :=
  if c.attached x then
    postStack e .stackDetached x StackState.attached.code causeReattach (teardown e x .detached c)
  else c

/-- ATTACH (R178, R189). -/
def attachStack (e : Env) (x : Sub) (was : StackState) (c : Core) : Core :=
  postStack e .stackAttached x was.code 0 (clearConsent x ((detachFirst e x c).setStack x ⟨.attached, none⟩))

def attachRequest : Request := ⟨false, .stack fun x s =>
  let was := (s.core.ssv.get x).state
  let s1 := s.react fun e c => attachStack e x was c
  accept s1 (bytes8 was.code ++ bytes8 StackState.attached.code ++ nat32 (s.env.policy.limits.get x)
    ++ bytes8 (s1.core.csc.get x).coverage.code)⟩

def execAttach (port : Port) (seq : Byte) (s : State) : Host.Outcome State Fault Refusal :=
  takeRequest port seq attachRequest s

/-- DETACH by the stack state it is taken in (R178, R190). -/
def detachStack (e : Env) (x : Sub) (c : Core) : Core :=
  match (c.ssv.get x).state with
  | .attached => postStack e .stackDetached x StackState.attached.code causeDetach (teardown e x .detached c)
  | .lost => postStack e .stackDetached x StackState.lost.code causeDetach (c.setStack x ⟨.detached, none⟩)
  | .detached => c

def detachRequest : Request := ⟨false, .stack fun x s =>
  accept (s.react fun e c => detachStack e x c)
    (bytes8 (s.core.ssv.get x).state.code ++ bytes8 StackState.detached.code)⟩

def execDetach (port : Port) (seq : Byte) (s : State) : Host.Outcome State Fault Refusal :=
  takeRequest port seq detachRequest s

/-! ### POLICY_SET (R185 to R187, R191) -/

/-- The preferred subscription of a byte: 0 NONE, 1 A, 2 B (R221). -/
def preferredOf (b : Byte) : Option (Option Sub) :=
  if b = 0 then some none else if b = 1 then some (some .A) else if b = 2 then some (some .B) else none

def preferredCode : Option Sub → Nat
  | none => 0
  | some .A => 1
  | some .B => 2

/-- A silence limit in force: 0 is kept, any other value is clamped to 3200–320000 (R186). -/
def takenLimit (n : Nat) : Nat := if n = 0 then 0 else clamp 3200 320000 n

/-- The policy a POLICY_SET puts in force (R186, R191). -/
def takenPolicy (preferred : Option Sub) (credit : Byte) (refill limitA limitB : BitVec 32) : Policy :=
  ⟨preferred, clamp 0 8 credit.toNat, clamp 3200 320000 refill.toNat,
    ⟨takenLimit limitA.toNat, takenLimit limitB.toNat⟩⟩

/-- A changed silence limit acts on X's monitor (R185). -/
def limitPolicy (now : Time) (x : Sub) (was will : Nat) (c : Core) : Core :=
  if will = 0 then c.setMonitor x none
  else if was = 0 ∧ c.attached x ∧ (c.pif.get (.stack x)).events ≠ [] then c.setMonitor x (some (now + tu will))
  else c

/-- The blocks take a new policy (R51, R185, R187). -/
def applyPolicy (now : Time) (was will : Policy) (c : Core) : Core :=
  limitPolicy now .B was.limits.b will.limits.b
    (limitPolicy now .A was.limits.a will.limits.a (creditPolicy now was will c))

/-- The credit of a voice session in ACTIVE, or none (R191). -/
def creditInForce (c : Core) : Option Nat :=
  match c.voiceSession with
  | none => none
  | some (_, v) => v.traffic.map Traffic.credit

/-- The payload of POLICY_SET (R191). -/
def policyBytes (p : Policy) (credit : Option Nat) : List Byte :=
  bytes8 (preferredCode p.preferred) ++ bytes8 p.creditMax ++ nat32 p.refill ++ nat32 p.limits.a ++ nat32 p.limits.b
    ++ orNone 1 bytes8 credit

def policySetRequest (preferred credit : Byte) (refill limitA limitB : BitVec 32) : Request := ⟨false, .app fun _ s =>
  match preferredOf preferred with
  | none => refuse .badParam s
  | some pref =>
    let p := takenPolicy pref credit refill limitA limitB
    let c := applyPolicy s.env.count s.env.policy p s.core
    accept { s with env := { s.env with policy := p }, core := c } (policyBytes p (creditInForce c))⟩

def execPolicySet (port : Port) (seq : Byte) (preferred credit : Byte) (refill limitA limitB : BitVec 32)
    (s : State) : Host.Outcome State Fault Refusal :=
  takeRequest port seq (policySetRequest preferred credit refill limitA limitB) s

/-! ### STATUS_READ (R192) -/

/-- The voice state of X's voice session: none 0, SETUP 1, ACTIVE 2 (R192; log entry 18). -/
def voiceCode (c : Core) (x : Sub) : Nat :=
  match c.voiceSession with
  | none => 0
  | some (s, v) => if s.owner = x then (if v.traffic.isSome then 2 else 1) else 0

/-- The head text's state, or none (R192). -/
def headState (c : Core) (x : Sub) : Option Nat :=
  match c.headText x with
  | none => none
  | some (_, t) => some t.state.code

/-- One subscription's share of STATUS_READ (R192). -/
def subStatus (e : Env) (c : Core) (x : Sub) : List Byte :=
  bytes8 (c.ssv.get x).state.code ++ timeOrNone (c.ssv.get x).monitor ++ yesNo (c.psc.consent.get x)
    ++ bytes8 (c.csc.get x).coverage.code ++ bytes8 (bars e c x) ++ bytes8 (voiceCode c x)
    ++ bytes8 (c.queue x).length ++ orNone 1 bytes8 (headState c x)
    ++ bytes8 (c.smg.missed.get x).count ++ yesNo (c.smg.missed.get x).starved

/-- The payload of STATUS_READ (R192). -/
def statusBytes (began : SleepKind) (e : Env) (c : Core) : List Byte :=
  subStatus e c .A ++ subStatus e c .B ++ bytes8 e.supply.code ++ yesNo e.alert ++ bytes8 began.code
    ++ yesNo c.psc.stayAwake ++ bytes8 (preferredCode e.policy.preferred)

/-- STATUS_READ clears the supply alert when the supply state is NORMAL (R161, R192). -/
def statusReadRequest : Request := ⟨false, .app fun began s =>
  accept { s with env := { s.env with alert := s.env.alert && decide (s.env.supply ≠ .normal) } }
    (statusBytes began s.env s.core)⟩

def execStatusRead (port : Port) (seq : Byte) (s : State) : Host.Outcome State Fault Refusal :=
  takeRequest port seq statusReadRequest s

end Sys2Proof.Machine
end

