-- ==== Sys2Proof/Machine/LinkCommands.lean ====
section
/-! DEFINITION. The events of the links: LINK_TRANSACTION_BEGIN and LINK_TRANSACTION_END (R193 to R198). -/

namespace Sys2Proof.Machine

/-- LINK_TRANSACTION_BEGIN: chip select goes low; a port whose transaction has begun has no other (R193; log entry
7). -/
def execLinkTransactionBegin (port : Port) (s : State) : Host.Outcome State Fault Refusal :=
  onEvent s fun s => s.ensureBegun port

/-- The handling of each request (R209); an event is no request. -/
def requestOf : Instr → Option Request
  | .fetch _ _ => some fetchRequest
  | .eventRead _ _ => some eventReadRequest
  | .linkRead _ _ => some linkReadRequest
  | .attach _ _ => some attachRequest
  | .detach _ _ => some detachRequest
  | .statusRead _ _ => some statusReadRequest
  | .policySet _ _ preferred credit refill limitA limitB =>
    some (policySetRequest preferred credit refill limitA limitB)
  | .coordinatorReset _ _ => some coordinatorResetRequest
  | .configRead _ _ => some configReadRequest
  | .reserve _ _ cls emergency desired slack length frequency band period count session cells =>
    some (reserveRequest cls emergency desired slack length frequency band period count session cells)
  | .withdraw _ _ handle => some (withdrawRequest handle)
  | .stage _ _ handle device register value => some (stageRequest handle device register value)
  | .reservationRead _ _ handle => some (reservationReadRequest handle)
  | .voiceOpen _ _ emergency => some (voiceOpenRequest emergency)
  | .voiceConnect _ _ session period length anchor frequency band =>
    some (voiceConnectRequest session period length anchor frequency band)
  | .voiceRelease _ _ session => some (voiceReleaseRequest session)
  | .textSubmit _ _ segments length urgent frequency band =>
    some (textSubmitRequest segments length urgent frequency band)
  | .segmentResult _ _ session result => some (segmentResultRequest session result)
  | .textCancel _ _ session => some (textCancelRequest session)
  | .sessionRead _ _ session => some (sessionReadRequest session)
  | .cellSet _ _ key offset barred => some (cellSetRequest key offset barred)
  | .cellRemove _ _ key => some (cellRemoveRequest key)
  | .cellRead _ _ sub slot => some (cellReadRequest sub slot)
  | .filterSet _ _ k stale => some (filterSetRequest k stale)
  | .flagsRead _ _ sub => some (flagsReadRequest sub)
  | .servingSet _ _ key => some (servingSetRequest key)
  | .handoverDone _ _ key offset => some (handoverDoneRequest key offset)
  | .handoverSet _ _ hysteresis ttt weak hold => some (handoverSetRequest hysteresis ttt weak hold)
  | .serviceLost _ _ => some serviceLostRequest
  | .searchResult _ _ result key => some (searchResultRequest result key)
  | .searchPlan _ _ frequency band => some (searchPlanRequest frequency band)
  | .searchRestart _ _ sub => some (searchRestartRequest sub)
  | .rfWrite _ _ device register value => some (rfWriteRequest device register value)
  | .rfRead _ _ device register => some (rfReadRequest device register)
  | .contextRead _ _ sub entry => some (contextReadRequest sub entry)
  | .timeRead _ _ => some timeReadRequest
  | .calibrate _ _ step => some (calibrateRequest step)
  | .sleepConsent _ _ consent => some (sleepConsentRequest consent)
  | .stayAwake _ _ hold => some (stayAwakeRequest hold)
  | .linkTransactionBegin _ => none
  | .linkTransactionEnd _ _ => none
  | .preparationRequest => none
  | .windowStart => none
  | .windowEnd => none
  | .sampleReport _ => none
  | .holdExpiry _ => none
  | .searchResultDeadline _ => none
  | .searchDueTime _ => none
  | .textResultDeadline _ => none
  | .busTransferEnd _ _ => none
  | .busTransferTimeout => none
  | .riseEnd _ => none
  | .fallEnd _ => none
  | .demandTime _ => none
  | .wakeTime => none
  | .settleEnd => none
  | .timelineClockAdvance _ => none
  | .battLineChange _ _ => none
  | .supplyStabilityTime => none
  | .silenceMonitorExpiry _ => none
  | .powerOnReset => none
  | .resetNRise => none
  | .configByteRead _ => none

/-- What a whole frame asks for (R198). -/
def askedBy (port : Port) (f : WholeFrame) : Asked :=
  match readRequest port f.seq f.code f.payload with
  | .unknown => .unknown
  | .badLength => .badLength
  | .request i => match requestOf i with
    | some r => .request r
    | none => .unknown

/-- The transaction ends with nothing judged (R194). -/
def State.dropTransaction (s : State) (port : Port) : State :=
  s.setLink port { s.links.get port with transaction := none }

/-- The end of a transaction in progress: the received frame is discarded when the slot was not fully shifted out, and is
otherwise a frame error or a whole frame (R194, R195, R197). -/
def endTransaction (port : Port) (received : List Byte) (s : State) : State :=
  if received.length < (s.links.get port).slot.responseLength then s.dropTransaction port
  else
    match wholeFrame received with
    | none => frameError port received s
    | some f => takeFrame port f.seq (askedBy port f) s

/-- LINK_TRANSACTION_END: chip select goes high after the bits received, of which the whole bytes are the received frame; a
port with no transaction has none to end (R193; log entry 7). -/
def execLinkTransactionEnd (port : Port) (received : List Bool) (s : State) : Host.Outcome State Fault Refusal :=
  onEvent s fun s =>
    match (s.links.get port).transaction with
    | none => s
    | some _ => endTransaction port (wholeBytes received) s

end Sys2Proof.Machine
end

