-- ==== Sys2Proof/Machine/Dispatch.lean ====
section
/-! DEFINITION. The effect of each command: one arm per constructor of Instr. -/

namespace Sys2Proof.Machine

def exec (i : Instr) (s : State) : Host.Outcome State Fault Refusal :=
  match i with
  | .fetch port seq => Sys2Proof.Machine.execFetch port seq s
  | .eventRead port seq => Sys2Proof.Machine.execEventRead port seq s
  | .linkRead port seq => Sys2Proof.Machine.execLinkRead port seq s
  | .attach port seq => Sys2Proof.Machine.execAttach port seq s
  | .detach port seq => Sys2Proof.Machine.execDetach port seq s
  | .statusRead port seq => Sys2Proof.Machine.execStatusRead port seq s
  | .policySet port seq preferred credit refill limitA limitB => Sys2Proof.Machine.execPolicySet port seq preferred credit refill limitA limitB s
  | .coordinatorReset port seq => Sys2Proof.Machine.execCoordinatorReset port seq s
  | .configRead port seq => Sys2Proof.Machine.execConfigRead port seq s
  | .reserve port seq cls emergency desired slack length frequency band period count session cells => Sys2Proof.Machine.execReserve port seq cls emergency desired slack length frequency band period count session cells s
  | .withdraw port seq handle => Sys2Proof.Machine.execWithdraw port seq handle s
  | .stage port seq handle device register value => Sys2Proof.Machine.execStage port seq handle device register value s
  | .reservationRead port seq handle => Sys2Proof.Machine.execReservationRead port seq handle s
  | .voiceOpen port seq emergency => Sys2Proof.Machine.execVoiceOpen port seq emergency s
  | .voiceConnect port seq session period length anchor frequency band => Sys2Proof.Machine.execVoiceConnect port seq session period length anchor frequency band s
  | .voiceRelease port seq session => Sys2Proof.Machine.execVoiceRelease port seq session s
  | .textSubmit port seq segments length urgent frequency band => Sys2Proof.Machine.execTextSubmit port seq segments length urgent frequency band s
  | .segmentResult port seq session result => Sys2Proof.Machine.execSegmentResult port seq session result s
  | .textCancel port seq session => Sys2Proof.Machine.execTextCancel port seq session s
  | .sessionRead port seq session => Sys2Proof.Machine.execSessionRead port seq session s
  | .cellSet port seq key offset barred => Sys2Proof.Machine.execCellSet port seq key offset barred s
  | .cellRemove port seq key => Sys2Proof.Machine.execCellRemove port seq key s
  | .cellRead port seq sub slot => Sys2Proof.Machine.execCellRead port seq sub slot s
  | .filterSet port seq k stale => Sys2Proof.Machine.execFilterSet port seq k stale s
  | .flagsRead port seq sub => Sys2Proof.Machine.execFlagsRead port seq sub s
  | .servingSet port seq key => Sys2Proof.Machine.execServingSet port seq key s
  | .handoverDone port seq key offset => Sys2Proof.Machine.execHandoverDone port seq key offset s
  | .handoverSet port seq hysteresis ttt weak hold => Sys2Proof.Machine.execHandoverSet port seq hysteresis ttt weak hold s
  | .serviceLost port seq => Sys2Proof.Machine.execServiceLost port seq s
  | .searchResult port seq result key => Sys2Proof.Machine.execSearchResult port seq result key s
  | .searchPlan port seq frequency band => Sys2Proof.Machine.execSearchPlan port seq frequency band s
  | .searchRestart port seq sub => Sys2Proof.Machine.execSearchRestart port seq sub s
  | .rfWrite port seq device register value => Sys2Proof.Machine.execRfWrite port seq device register value s
  | .rfRead port seq device register => Sys2Proof.Machine.execRfRead port seq device register s
  | .contextRead port seq sub entry => Sys2Proof.Machine.execContextRead port seq sub entry s
  | .timeRead port seq => Sys2Proof.Machine.execTimeRead port seq s
  | .calibrate port seq step => Sys2Proof.Machine.execCalibrate port seq step s
  | .sleepConsent port seq consent => Sys2Proof.Machine.execSleepConsent port seq consent s
  | .stayAwake port seq hold => Sys2Proof.Machine.execStayAwake port seq hold s
  | .linkTransactionBegin port => Sys2Proof.Machine.execLinkTransactionBegin port s
  | .linkTransactionEnd port received => Sys2Proof.Machine.execLinkTransactionEnd port received s
  | .preparationRequest => Sys2Proof.Machine.execPreparationRequest s
  | .windowStart => Sys2Proof.Machine.execWindowStart s
  | .windowEnd => Sys2Proof.Machine.execWindowEnd s
  | .sampleReport bits => Sys2Proof.Machine.execSampleReport bits s
  | .holdExpiry sub => Sys2Proof.Machine.execHoldExpiry sub s
  | .searchResultDeadline sub => Sys2Proof.Machine.execSearchResultDeadline sub s
  | .searchDueTime sub => Sys2Proof.Machine.execSearchDueTime sub s
  | .textResultDeadline sub => Sys2Proof.Machine.execTextResultDeadline sub s
  | .busTransferEnd slots returned => Sys2Proof.Machine.execBusTransferEnd slots returned s
  | .busTransferTimeout => Sys2Proof.Machine.execBusTransferTimeout s
  | .riseEnd device => Sys2Proof.Machine.execRiseEnd device s
  | .fallEnd device => Sys2Proof.Machine.execFallEnd device s
  | .demandTime device => Sys2Proof.Machine.execDemandTime device s
  | .wakeTime => Sys2Proof.Machine.execWakeTime s
  | .settleEnd => Sys2Proof.Machine.execSettleEnd s
  | .timelineClockAdvance periods => Sys2Proof.Machine.execTimelineClockAdvance periods s
  | .battLineChange line level => Sys2Proof.Machine.execBattLineChange line level s
  | .supplyStabilityTime => Sys2Proof.Machine.execSupplyStabilityTime s
  | .silenceMonitorExpiry sub => Sys2Proof.Machine.execSilenceMonitorExpiry sub s
  | .powerOnReset => Sys2Proof.Machine.execPowerOnReset s
  | .resetNRise => Sys2Proof.Machine.execResetNRise s
  | .configByteRead byte => Sys2Proof.Machine.execConfigByteRead byte s

end Sys2Proof.Machine
end

