-- ==== Sys2Proof/WellFormed.lean ====
section
/-! DEFINITION. Which commands can come to the part at all. Every field a request refuses or clamps is NOT checked
here: the request takes it and answers. -/

namespace Sys2Proof

/-- A RESERVE frame holds at most nine cells, since its payload is 22 + 4 × cells bytes and at most 60 (R195,
R219); step 7 of a transfer has 16 bits (R220; a write has no step 7, and reads none of them); a clock advance counts at
least one period of its clock and at most the 600 CLK19 periods of one tu (R151). -/
def Instr.wf : Instr → Bool
  | .fetch _ _ => true
  | .eventRead _ _ => true
  | .linkRead _ _ => true
  | .attach _ _ => true
  | .detach _ _ => true
  | .statusRead _ _ => true
  | .policySet _ _ _ _ _ _ _ => true
  | .coordinatorReset _ _ => true
  | .configRead _ _ => true
  | .reserve _ _ _ _ _ _ _ _ _ _ _ _ cells => decide (cells.length ≤ 9)
  | .withdraw _ _ _ => true
  | .stage _ _ _ _ _ _ => true
  | .reservationRead _ _ _ => true
  | .voiceOpen _ _ _ => true
  | .voiceConnect _ _ _ _ _ _ _ _ => true
  | .voiceRelease _ _ _ => true
  | .textSubmit _ _ _ _ _ _ _ => true
  | .segmentResult _ _ _ _ => true
  | .textCancel _ _ _ => true
  | .sessionRead _ _ _ => true
  | .cellSet _ _ _ _ _ => true
  | .cellRemove _ _ _ => true
  | .cellRead _ _ _ _ => true
  | .filterSet _ _ _ _ => true
  | .flagsRead _ _ _ => true
  | .servingSet _ _ _ => true
  | .handoverDone _ _ _ _ => true
  | .handoverSet _ _ _ _ _ _ => true
  | .serviceLost _ _ => true
  | .searchResult _ _ _ _ => true
  | .searchPlan _ _ _ _ => true
  | .searchRestart _ _ _ => true
  | .rfWrite _ _ _ _ _ => true
  | .rfRead _ _ _ _ => true
  | .contextRead _ _ _ _ => true
  | .timeRead _ _ => true
  | .calibrate _ _ _ => true
  | .sleepConsent _ _ _ => true
  | .stayAwake _ _ _ => true
  | .linkTransactionBegin _ => true
  | .linkTransactionEnd _ _ => true
  | .preparationRequest => true
  | .windowStart => true
  | .windowEnd => true
  | .sampleReport _ => true
  | .holdExpiry _ => true
  | .searchResultDeadline _ => true
  | .searchDueTime _ => true
  | .textResultDeadline _ => true
  | .busTransferEnd _ returned => decide (returned.length = 16)
  | .busTransferTimeout => true
  | .riseEnd _ => true
  | .fallEnd _ => true
  | .demandTime _ => true
  | .wakeTime => true
  | .settleEnd => true
  | .timelineClockAdvance periods => decide (1 ≤ periods) && decide (periods ≤ 600)
  | .battLineChange _ _ => true
  | .supplyStabilityTime => true
  | .silenceMonitorExpiry _ => true
  | .powerOnReset => true
  | .resetNRise => true
  | .configByteRead _ => true

end Sys2Proof
end

