-- ==== Sys2Proof/Safety.lean ====
section
/-! DEFINITION. What the claims speak of: when a request is taken, how its answer stands in the slot, and the laws that
every step keeps. -/

namespace Sys2Proof.Machine

/-! ### Requests that are taken -/

/-- The port's transaction is in progress, began neither in DEEP nor in WAKING, and the configuration load has ended: a
whole frame at its end passes checks 1 and 2 (R198). -/
abbrev Ready (s : State) (port : Port) : Prop :=
  s.env.load.phase = .ended ∧ (s.links.get port).transaction.isSome
    ∧ s.beganIn port ≠ .deep ∧ s.beganIn port ≠ .waking

/-- A request of X's own stack port is taken, with X ATTACHED (R198). -/
abbrev Acts (s : State) (x : Sub) : Prop := Ready s (.stack x) ∧ s.core.attached x = true

/-- A shared request of a port is taken: X is ATTACHED on a stack port (R188). -/
abbrev Reads (s : State) (port : Port) : Prop :=
  Ready s port ∧ match port with
    | .stack x => s.core.attached x = true
    | .app => True

/-- The answer OK with a payload stands in the port's slot, and the transaction is over (R199). -/
def State.replied (s : State) (port : Port) (seq : Byte) (payload : List Byte) : State :=
  s.answerSlot port ⟨seq, .ok, payload⟩

/-- The answer of another status stands in the port's slot, with no payload (R199). -/
def State.turnedAway (s : State) (port : Port) (seq : Byte) (status : Status) : State :=
  s.answerSlot port ⟨seq, status, []⟩

/-- The classes of permission (R188, R209). -/
inductive Permission where
  | stack
  | app
  | shared
  deriving DecidableEq, Repr

def Handling.permission : Handling → Permission
  | .stack _ => .stack
  | .app _ => .app
  | .shared _ => .shared

/-- The port is one on which the class is taken (R188). -/
def Permission.allows : Permission → Port → Bool
  | .stack, .stack _ => true
  | .stack, .app => false
  | .app, .stack _ => false
  | .app, .app => true
  | .shared, _ => true

/-! ### The index of requests (R209) -/

/-- The class of permission of each request (R209); an event is no request. -/
def requestClass : Instr → Option Permission
  | .fetch _ _ => some .shared
  | .eventRead _ _ => some .shared
  | .linkRead _ _ => some .shared
  | .attach _ _ => some .stack
  | .detach _ _ => some .stack
  | .statusRead _ _ => some .app
  | .policySet _ _ _ _ _ _ _ => some .app
  | .coordinatorReset _ _ => some .app
  | .configRead _ _ => some .shared
  | .reserve _ _ _ _ _ _ _ _ _ _ _ _ _ => some .stack
  | .withdraw _ _ _ => some .stack
  | .stage _ _ _ _ _ _ => some .stack
  | .reservationRead _ _ _ => some .shared
  | .voiceOpen _ _ _ => some .stack
  | .voiceConnect _ _ _ _ _ _ _ _ => some .stack
  | .voiceRelease _ _ _ => some .stack
  | .textSubmit _ _ _ _ _ _ _ => some .stack
  | .segmentResult _ _ _ _ => some .stack
  | .textCancel _ _ _ => some .stack
  | .sessionRead _ _ _ => some .shared
  | .cellSet _ _ _ _ _ => some .stack
  | .cellRemove _ _ _ => some .stack
  | .cellRead _ _ _ _ => some .shared
  | .filterSet _ _ _ _ => some .stack
  | .flagsRead _ _ _ => some .shared
  | .servingSet _ _ _ => some .stack
  | .handoverDone _ _ _ _ => some .stack
  | .handoverSet _ _ _ _ _ _ => some .stack
  | .serviceLost _ _ => some .stack
  | .searchResult _ _ _ _ => some .stack
  | .searchPlan _ _ _ _ => some .stack
  | .searchRestart _ _ _ => some .app
  | .rfWrite _ _ _ _ _ => some .stack
  | .rfRead _ _ _ _ => some .stack
  | .contextRead _ _ _ _ => some .shared
  | .timeRead _ _ => some .shared
  | .calibrate _ _ _ => some .app
  | .sleepConsent _ _ _ => some .stack
  | .stayAwake _ _ _ => some .app
  | .linkTransactionBegin _ => none
  | .linkTransactionEnd _ _ => none
  | .preparationRequest => none
  | .windowStart => none
  | .windowEnd => none
  | .sampleReport _ => none
  | .holdExpiry _ => none
  | .searchResultDeadline _ => none
  | .searchDueTime _ => none
  | .textResultDeadline _ => none
  | .busTransferEnd _ _ => none
  | .busTransferTimeout => none
  | .riseEnd _ => none
  | .fallEnd _ => none
  | .demandTime _ => none
  | .wakeTime => none
  | .settleEnd => none
  | .timelineClockAdvance _ => none
  | .battLineChange _ _ => none
  | .supplyStabilityTime => none
  | .silenceMonitorExpiry _ => none
  | .powerOnReset => none
  | .resetNRise => none
  | .configByteRead _ => none

/-- The requests taken on a stack port whatever its stack state (R209). -/
def takenUnattached : Instr → Bool
  | .fetch _ _ => true
  | .eventRead _ _ => true
  | .linkRead _ _ => true
  | .attach _ _ => true
  | .detach _ _ => true
  | .statusRead _ _ => false
  | .policySet _ _ _ _ _ _ _ => false
  | .coordinatorReset _ _ => false
  | .configRead _ _ => false
  | .reserve _ _ _ _ _ _ _ _ _ _ _ _ _ => false
  | .withdraw _ _ _ => false
  | .stage _ _ _ _ _ _ => false
  | .reservationRead _ _ _ => false
  | .voiceOpen _ _ _ => false
  | .voiceConnect _ _ _ _ _ _ _ _ => false
  | .voiceRelease _ _ _ => false
  | .textSubmit _ _ _ _ _ _ _ => false
  | .segmentResult _ _ _ _ => false
  | .textCancel _ _ _ => false
  | .sessionRead _ _ _ => false
  | .cellSet _ _ _ _ _ => false
  | .cellRemove _ _ _ => false
  | .cellRead _ _ _ _ => false
  | .filterSet _ _ _ _ => false
  | .flagsRead _ _ _ => false
  | .servingSet _ _ _ => false
  | .handoverDone _ _ _ _ => false
  | .handoverSet _ _ _ _ _ _ => false
  | .serviceLost _ _ => false
  | .searchResult _ _ _ _ => false
  | .searchPlan _ _ _ _ => false
  | .searchRestart _ _ _ => false
  | .rfWrite _ _ _ _ _ => false
  | .rfRead _ _ _ _ => false
  | .contextRead _ _ _ _ => false
  | .timeRead _ _ => false
  | .calibrate _ _ _ => false
  | .sleepConsent _ _ _ => false
  | .stayAwake _ _ _ => false
  | .linkTransactionBegin _ => false
  | .linkTransactionEnd _ _ => false
  | .preparationRequest => false
  | .windowStart => false
  | .windowEnd => false
  | .sampleReport _ => false
  | .holdExpiry _ => false
  | .searchResultDeadline _ => false
  | .searchDueTime _ => false
  | .textResultDeadline _ => false
  | .busTransferEnd _ _ => false
  | .busTransferTimeout => false
  | .riseEnd _ => false
  | .fallEnd _ => false
  | .demandTime _ => false
  | .wakeTime => false
  | .settleEnd => false
  | .timelineClockAdvance _ => false
  | .battLineChange _ _ => false
  | .supplyStabilityTime => false
  | .silenceMonitorExpiry _ => false
  | .powerOnReset => false
  | .resetNRise => false
  | .configByteRead _ => false

/-! ### The law of the environment (R151, R174, R186, R213, R214) -/

/-- No two entries of the map name the same device and register (R126). -/
abbrev distinctEntries (m : List MapEntry) : Prop :=
  m.Pairwise fun a b => ¬(a.device = b.device ∧ a.register = b.register)

/-- Every item of an image lies in its range (R126, R213). -/
abbrev Image.InRange (i : Image) : Prop :=
  (∀ d ∈ Device.all, i.delays.get d ≤ 2016)
    ∧ i.offSettle ≤ 63
    ∧ 32 ≤ i.clockSettle ∧ i.clockSettle ≤ 1023
    ∧ i.lightThreshold ≤ 4095
    ∧ i.deepThreshold ≤ 65535
    ∧ i.blanking ≤ 7
    ∧ (i.map.filter fun m => decide (m.scope = .context)).length ≤ 24
    ∧ (i.map.filter fun m => decide (m.scope = .common)).length ≤ 16
    ∧ distinctEntries i.map

/-- A silence limit is 0 or lies in 3200–320000 tu (R186). -/
abbrev limitInRange (n : Nat) : Prop := n = 0 ∨ (3200 ≤ n ∧ n ≤ 320000)

/-- The calibration step, the policy and the image in force lie in their ranges, and the light threshold is at least
off-settle + 4 (R151, R165, R186, R213, R214). -/
abbrev Env.Inv (e : Env) : Prop :=
  Config.stepLow ≤ e.step ∧ e.step ≤ Config.stepHigh
    ∧ e.policy.creditMax ≤ 8
    ∧ 3200 ≤ e.policy.refill ∧ e.policy.refill ≤ 320000
    ∧ limitInRange e.policy.limits.a ∧ limitInRange e.policy.limits.b
    ∧ e.image.InRange
    ∧ e.image.offSettle + 4 ≤ e.image.lightThreshold
    ∧ e.load.working.InRange

/-! ### The law of the event queues (R110, R202) -/

/-- A port's queue holds at most 16 records, and its overflow count is at most 255 (R202). -/
abbrev EventQueue.Bounded (q : EventQueue) : Prop := q.events.length ≤ 16 ∧ q.overflow ≤ 255

/-- A stack that is not ATTACHED has no queued event and no overflow (R110, R202, R205). -/
abbrev quietStack (c : Core) (x : Sub) : Prop :=
  c.attached x = false → c.pif.get (.stack x) = ⟨[], 0⟩

/-- The law of the event queues. -/
abbrev Core.QueueLaw (c : Core) : Prop :=
  (c.pif.get (.stack .A)).Bounded ∧ (c.pif.get (.stack .B)).Bounded ∧ (c.pif.get .app).Bounded
    ∧ quietStack c .A ∧ quietStack c .B

/-! ### The law of the silence monitors (R182) -/

/-- X's monitor runs exactly while X is ATTACHED, its event queue holds at least one record and its silence limit is not 0
(R182). -/
abbrev monitorLaw (s : State) (x : Sub) : Prop :=
  (s.core.ssv.get x).monitor.isSome = true ↔
    (s.core.attached x = true ∧ (s.core.pif.get (.stack x)).events ≠ [] ∧ s.env.policy.limits.get x ≠ 0)

/-- The law of both silence monitors. -/
abbrev State.MonitorLaw (s : State) : Prop := monitorLaw s .A ∧ monitorLaw s .B

/-! ### The law of the reservation table (R11, R12) -/

/-- X's records of the table. -/
def Core.recordsOwned (c : Core) (x : Sub) : List Reservation := c.tla.table.filter fun r => decide (r.owner = x)

/-- At most 48 records, at most 32 of either subscription, each at an index of its own below 48 (R11, R12). -/
abbrev Core.TableLaw (c : Core) : Prop :=
  c.tla.table.length ≤ 48
    ∧ (c.recordsOwned .A).length ≤ 32 ∧ (c.recordsOwned .B).length ≤ 32
    ∧ (∀ r ∈ c.tla.table, r.handle.index.toNat < 48)
    ∧ (c.tla.table.Pairwise fun r q => r.handle.index ≠ q.handle.index)
    ∧ c.tla.generations.length = 48

/-! ### The order of the reservation table (R12, R17) -/

/-- Records in order of start, no two spans that overlap, and no record without an occurrence (R12, R13, R17). -/
abbrev Core.TableOrder (c : Core) : Prop :=
  (c.tla.table.Pairwise fun r q => atOrAfter q.start r.start = true)
    ∧ (c.tla.table.Pairwise fun r q => r.overlaps q.start q.length = false)
    ∧ ∀ r ∈ c.tla.table, r.state ≠ .seeking

/-- A time within 2^29 (536870912) tu of now, before it or after it. -/
abbrev nearTime (now t : Time) : Prop := -536870912 ≤ (t - now).toInt ∧ (t - now).toInt ≤ 536870912

/-- A time that is absent, or near now. -/
def nearOpt (now : Time) : Option Time → Bool
  | none => true
  | some t => decide (nearTime now t)

/-- A record as R10 has it, with its times near now. -/
abbrev Reservation.NearNow (now : Time) (r : Reservation) : Prop :=
  nearTime now r.start ∧ nearTime now r.desired ∧ r.slack ≤ 16383 ∧ r.length ≤ 65535
    ∧ ∀ p ∈ r.repeats, r.length + r.slack + 4 ≤ p.period ∧ p.period ≤ 4194304

/-- The text fields of a session. -/
def SessionBody.text? : SessionBody → Option TextBody
  | .voice _ => none
  | .text t => some t

/-- The voice fields of a session. -/
def SessionBody.voice? : SessionBody → Option Voice
  | .voice v => some v
  | .text _ => none

/-- A text as R41 has it, with its not-before near now. -/
abbrev TextBody.NearNow (now : Time) (t : TextBody) : Prop := t.length ≤ 3200 ∧ nearOpt now t.notBefore = true

/-- The time from which the next attempt is worked out (R113, R117). -/
def Phase.reference : Phase → Option Time
  | .awaiting _ reference => some reference
  | .unplaced due => some due
  | .idle => none
  | .placed _ => none
  | .listening _ _ _ => none

/-- Every time that a placement of this step can start from lies near now, so that the half range of R1 does not turn
over. -/
abbrev State.TimesNear (s : State) : Prop :=
  (∀ r ∈ s.core.tla.table, r.NearNow s.env.count)
    ∧ (∀ o ∈ s.core.smg.sessions, ∀ n ∈ o, ∀ t ∈ n.body.text?, t.NearNow s.env.count)
    ∧ nearOpt s.env.count (s.core.csc.get .A).phase.reference = true
    ∧ nearOpt s.env.count (s.core.csc.get .B).phase.reference = true

/-- The start or anchor in the payload of a RESERVE or a VOICE_CONNECT (R219). -/
def startIn (code : Byte) (payload : List Byte) : Option Time :=
  if code = 0x10 then some (wordAt payload 2) else if code = 0x19 then some (wordAt payload 6) else none

/-- The start or anchor that a command names, as a request or in the frame at the end of a transaction (R37, R64). -/
def namedStart (c : Instr) : Option Time :=
  match requestPayload c, c with
  | some (code, payload), _ => startIn code payload
  | none, .linkTransactionEnd _ bits =>
    match wholeFrame (wholeBytes bits) with
    | some f => startIn f.code f.payload
    | none => none
  | none, _ => none

/-! ### The law of the sessions (R41 to R43, R49) -/

/-- The handle names a session of the owner's. -/
def Core.ownsSession (c : Core) (x : Sub) (h : Handle) : Bool :=
  match c.session h with
  | none => false
  | some n => decide (n.owner = x)

/-- X's text queue holds each of X's texts once and nothing else, and at most four (R42). -/
abbrev queueLaw (c : Core) (x : Sub) : Prop :=
  (c.queue x).Nodup ∧ (c.queue x).length ≤ 4
    ∧ (∀ h ∈ c.queue x, c.ownsSession x h = true ∧ (c.textSession h).isSome = true)
    ∧ ∀ o ∈ c.smg.sessions, ∀ n ∈ o, n.owner = x → n.body.text?.isSome = true → n.handle ∈ c.queue x

/-- Eight places, each session at its handle's index; at most one voice session; the text queues; every credit within the
maximum; every reservation that names a session names one of its own owner's (R41, R42, R43, R49). -/
abbrev State.SessionLaw (s : State) : Prop :=
  s.core.smg.sessions.length = 8 ∧ s.core.smg.generations.length = 8
    ∧ (∀ i < 8, ∀ n ∈ (s.core.smg.sessions[i]?).join, n.handle.index.toNat = i)
    ∧ ((s.core.smg.sessions.filterMap id).filter fun n => n.body.voice?.isSome).length ≤ 1
    ∧ queueLaw s.core .A ∧ queueLaw s.core .B
    ∧ (∀ o ∈ s.core.smg.sessions, ∀ n ∈ o, ∀ v ∈ n.body.voice?, ∀ tr ∈ v.traffic, tr.credit ≤ s.env.policy.creditMax)
    ∧ ∀ r ∈ s.core.tla.table, ∀ h ∈ r.session, s.core.ownsSession r.owner h = true

/-! ### The law of the cell tables (R70, R71, R81, R83) -/

/-- A cell record within its ranges (R5, R70, R83, R88). -/
abbrev Cell.InRange (r : Cell) : Prop :=
  r.key.identity.toNat ≤ 1023 ∧ -48 ≤ r.offset ∧ r.offset ≤ 48 ∧ r.updates ≤ 255
    ∧ ∀ l ∈ r.level, -8960 ≤ l.value ∧ l.value ≤ -2560

/-- Twelve slots, at most one SERVING record, no key twice, every record within its ranges (R71, R83). -/
abbrev CellTable.Law (t : CellTable) : Prop :=
  t.slots.length = 12
    ∧ ((t.slots.filterMap id).filter fun r => decide (r.role = .serving)).length ≤ 1
    ∧ ((t.slots.filterMap id).Pairwise fun r q => r.key ≠ q.key)
    ∧ ∀ o ∈ t.slots, ∀ r ∈ o, r.InRange

/-- An accumulator of at most four clamped levels (R79, R81). -/
abbrev Accumulator.InRange (a : Accumulator) : Prop :=
  a.n ≤ 4 ∧ -560 * (a.n : Int) ≤ a.sum ∧ a.sum ≤ -160 * (a.n : Int)

/-- The law of both cell tables and of the open window. -/
abbrev Core.CellLaw (c : Core) : Prop :=
  (c.cells .A).Law ∧ (c.cells .B).Law ∧ ∀ v ∈ c.msu.view, ∀ a ∈ v.accs, a.InRange

/-! ### The law of a stack that is not ATTACHED (R110) -/

/-- A stack that is not ATTACHED owns no reservation, session, text, bridge transaction or context value, and its coverage
is NO_CELL with no attempt (R110). -/
abbrev ownsNothing (c : Core) (x : Sub) : Prop :=
  c.attached x = false →
    (∀ r ∈ c.tla.table, r.owner ≠ x)
      ∧ (∀ o ∈ c.smg.sessions, ∀ n ∈ o, n.owner ≠ x)
      ∧ c.queue x = [] ∧ (c.bridge x).queue = []
      ∧ (∀ m ∈ c.rcc.shadow, m.own.get x = none)
      ∧ (c.csc.get x).coverage = .noCell ∧ (c.csc.get x).phase = .idle

/-- The record's window is ACTIVE, and the four window lines are its own: its band, its owner and the direction of its class
(R33). -/
def Reservation.drives (t : Tla) (r : Reservation) : Bool :=
  decide (r.state = .active) && decide (t.band = r.band) && decide (t.subSel = r.owner)
    && decide (t.rxEn = r.cls.receives) && decide (t.txEn = r.cls.transmits)

/-- RX_EN or TX_EN is high only with a window ACTIVE, and then all four window lines are that window's (R31,
R33). -/
abbrev Core.LinesLaw (c : Core) : Prop :=
  (c.tla.rxEn || c.tla.txEn) = true → ∃ r ∈ c.tla.table, r.drives c.tla = true

/-- The work of the RF Context Controller belongs to windows and stacks that are there: a preparation to a PREPARING
occurrence whose preparation has not ended, the view to a PREPARING or ACTIVE one, a transfer to an ATTACHED stack unless its
owner is gone (R131, R132, R147); and so do the window lines (R33). -/
abbrev Core.WorkLaw (c : Core) : Prop :=
  (∀ p ∈ c.rcc.prep, ∃ r ∈ c.tla.table,
      r.handle = p.handle ∧ r.owner = p.owner ∧ r.state = .preparing ∧ r.prepared = none)
    ∧ (∀ v ∈ c.rcc.view, ∃ r ∈ c.tla.table,
      r.handle = v.handle ∧ r.owner = v.owner ∧ (r.state = .preparing ∨ r.state = .active))
    ∧ (∀ r ∈ c.tla.table, r.state = .granted → r.prepared = none)
    ∧ (∀ t ∈ c.rcc.bus, ∀ x ∈ t.owner, c.attached x = true ∨ t.ownerGone = true)
    ∧ c.LinesLaw

/-- The law of stacks that are not ATTACHED, and of the work done for stacks. -/
abbrev Core.UnattachedLaw (c : Core) : Prop := ownsNothing c .A ∧ ownsNothing c .B ∧ c.WorkLaw

/-! ### The law of the live table (R128) -/

/-- A head in its restart series has its device ON, and a queue holds at most four transactions (R139, R144). -/
abbrev seriesLaw (c : Core) (x : Sub) : Prop :=
  (c.bridge x).queue.length ≤ 4
    ∧ ∀ t ∈ (c.bridge x).queue.head?, t.state = .restarting → c.isOn t.device = true

/-- Every staged write goes to a present device (R39). -/
abbrev stagedPresent (e : Env) (ws : List StagedWrite) : Prop := ∀ w ∈ ws, e.has w.device = true

/-- A preparation awaits the devices of its staged writes, and has them all ON once it writes (R132, R133). -/
abbrev Prep.Law (e : Env) (c : Core) (p : Prep) : Prop :=
  stagedPresent e p.staged ∧ (∀ w ∈ p.staged, w.device ∈ p.awaited)
    ∧ (p.step ≠ .awaitingPower → ∀ d ∈ p.awaited, c.isOn d = true)

/-- Every live entry of a device that is not ON is UNKNOWN (R128); and what a transfer can go to is ON: the device of the
transfer in flight, of a replay write, of a restart series and of a preparation's staged writes (R124, R130, R133, R144). Until
the load has ended no stack is ATTACHED (R211). -/
abbrev State.LiveLaw (s : State) : Prop :=
  (∀ m ∈ s.core.rcc.shadow, m.live.isSome = true → s.core.isOn m.entry.device = true)
    ∧ (∀ t ∈ s.core.rcc.bus, t.void = true ∨ t.deviceLeft = true ∨ s.core.isOn t.device = true)
    ∧ (∀ p ∈ s.core.rcc.replay, s.core.isOn p.device = true)
    ∧ seriesLaw s.core .A ∧ seriesLaw s.core .B
    ∧ (∀ p ∈ s.core.rcc.prep, p.Law s.env s.core)
    ∧ (∀ r ∈ s.core.tla.table, stagedPresent s.env r.staged)
    ∧ (s.env.load.phase ≠ .ended → s.core.attached .A = false ∧ s.core.attached .B = false)

/-! ### The law of the device (R136) -/

/-- X's set value of a CONTEXT register of a present device (R126, R127). -/
def ShadowEntry.valueOf (e : Env) (m : ShadowEntry) (x : Sub) : Option Half :=
  match m.entry.scope with
  | .context => if e.has m.entry.device then m.own.get x else none
  | .common => none

/-- X has no set value of the register, or the live table holds it. -/
def ShadowEntry.agrees (e : Env) (x : Sub) (m : ShadowEntry) : Bool :=
  (m.valueOf e x).isNone || decide (m.live = m.valueOf e x)

/-- The occurrence that a handle names is DEGRADED. -/
def Core.degradedAt (c : Core) (h : Handle) : Bool := c.tla.table.any fun r => decide (r.handle = h) && r.degraded

/-- A transfer of the running preparation: a write made for its owner that nothing has cut off. -/
def Transfer.prepares (p : Prep) (t : Transfer) : Bool :=
  decide (t.cause = .preparation) && decide (t.kind ≠ .read) && decide (t.owner = some p.owner)
    && !t.dropped && !t.ownerGone && !t.void && !t.deviceLeft

/-- How many map entries the preparation has considered in its CONTEXT step (R133). -/
def Prep.considered (c : Core) (p : Prep) : Nat :=
  match p.step with
  | .awaitingPower => 0
  | .context => p.position
  | .common => c.rcc.shadow.length
  | .staged => c.rcc.shadow.length

/-- The CONTEXT step of a preparation as far as it has come (R132, R133, R134): every device with a value of the owner's is
ON or awaited; every entry already considered agrees with the live table, but for one being written, unless the occurrence
is DEGRADED; and no other transfer is in flight. -/
def Prep.keepsContext (e : Env) (c : Core) (p : Prep) : Bool := decide
  (c.rcc.view = some ⟨p.owner, p.handle, false⟩
    ∧ (p.step = .awaitingPower ∨ p.step = .context → ∀ m ∈ c.rcc.shadow, m.valueOf e p.owner ≠ none →
      c.isOn m.entry.device = true ∨ (p.step = .awaitingPower ∧ m.entry.device ∈ p.awaited))
    ∧ (0 < p.considered c → ∀ t ∈ c.rcc.bus, (t.void || t.prepares p) = true)
    ∧ ∀ m ∈ c.rcc.shadow.take (p.considered c), m.agrees e p.owner = true ∨ c.degradedAt p.handle = true
      ∨ ∃ t ∈ c.rcc.bus, t.prepares p = true ∧ t.device = m.entry.device ∧ t.register = m.entry.register)

/-- A transfer that cannot part a CONTEXT register from the value of the window's owner without marking the occurrence
DEGRADED: it has no effect, goes to another register, or is the owner's own, and then no read of a register with a set
value (R136, R140). -/
def Transfer.keepsContext (e : Env) (c : Core) (x : Sub) (t : Transfer) : Bool :=
  t.void || decide (c.scopeOf e t.device t.register ≠ some .context)
    || (decide (t.cause ≠ .preparation) && decide (t.owner = some x) && !t.ownerGone
      && (decide (t.kind ≠ .read) || (ownValue e c x t.device t.register).isNone))

/-- The law of the device: while the occurrence in the view is ACTIVE and not DEGRADED, every CONTEXT register for which its
owner has a set value holds that value in the live table (R136). It stands as soon as the preparation has ended, and is kept
with what leads to it: the running preparation, the transfer in flight, the transactions' scopes, replay writes of COMMON
entries only, and no register twice in the map (R126, R130, R131, R139). -/
abbrev State.ContextLaw (s : State) : Prop :=
  (∀ v ∈ s.core.rcc.view, ∀ r ∈ s.core.tla.table, r.handle = v.handle → r.state = .active ∨ r.prepared ≠ none →
      (r.degraded = true ∨ ∀ m ∈ s.core.rcc.shadow, m.agrees s.env v.owner = true)
        ∧ ∀ t ∈ s.core.rcc.bus, t.keepsContext s.env s.core v.owner = true)
    ∧ (∀ p ∈ s.core.rcc.prep, p.keepsContext s.env s.core = true)
    ∧ (∀ t ∈ s.core.rcc.bus, t.deviceLeft = true → t.void = true)
    ∧ (∀ t ∈ (s.core.bridge .A).queue ++ (s.core.bridge .B).queue, t.scope = s.core.scopeOf s.env t.device t.register)
    ∧ (∀ p ∈ s.core.rcc.replay, ∀ m ∈ s.core.rcc.shadow[p.entry]?, m.entry.device = p.device ∧ m.entry.scope = .common)
    ∧ distinctEntries (s.core.rcc.shadow.map ShadowEntry.entry)
    ∧ (s.env.load.phase ≠ .ended → s.core.rcc.shadow = [])

/-! ### The law of sleep (R162, R164) -/

/-- No occurrence is PREPARING or ACTIVE. -/
abbrev Core.noWindow (c : Core) : Prop := ∀ r ∈ c.tla.table, r.state ≠ .preparing ∧ r.state ≠ .active

/-- A power state on the way to OFF, or there. -/
def Power.isFalling : Power → Bool
  | .falling _ => true
  | _ => false

/-- While the part settles down, a queue is empty or its head asks for a device that is still FALLING (R144, R156). -/
abbrev settlingQueue (e : Env) (c : Core) (x : Sub) : Prop :=
  ∀ t ∈ (c.bridge x).queue.head?,
    t.state = .waitingPower ∧ t.request = true ∧ e.has t.device = true ∧ (c.power t.device).isFalling = true

/-- What a sleep state is bound for: the part is on its way to LIGHT or DEEP, or there (R162). -/
def Sleep.target : Sleep → Option Target
  | .settlingDown t _ => some t
  | .light _ => some .light
  | .deep _ => some .deep
  | .awake => none
  | .waking _ => none

/-- In LIGHT and DEEP every present device is OFF, no occurrence is PREPARING or ACTIVE, both bridge queues are empty, and
the wake time held is the one of R164; SETTLING_DOWN leads there; and until the load has ended the part is AWAKE with no stack
ATTACHED (R162, R164, R166, R211). -/
abbrev State.SleepLaw (s : State) : Prop :=
  (∀ t ∈ s.core.psc.sleep.target, s.core.noWindow ∧ s.core.psc.sleep.wake = wakeFor s.env s.core t)
    ∧ (s.core.psc.sleep.kind = .light ∨ s.core.psc.sleep.kind = .deep →
      allOff s.env s.core = true ∧ (s.core.bridge .A).queue = [] ∧ (s.core.bridge .B).queue = [])
    ∧ (s.core.psc.sleep.kind = .settlingDown →
      (∀ d ∈ Device.all, s.env.has d = true → s.core.power d = .off ∨ (s.core.power d).isFalling = true)
        ∧ settlingQueue s.env s.core .A ∧ settlingQueue s.env s.core .B)
    ∧ (s.env.load.phase ≠ .ended →
      s.core.psc.sleep = .awake ∧ s.core.attached .A = false ∧ s.core.attached .B = false)

/-! ### Safe runs -/

/-- A step goes on to a next state. -/
def goesOn (s : State) : Prop := ∃ t, step s = .next t

end Sys2Proof.Machine
end

