-- ==== Sys2Proof/Certificates/Slice0/Obligations.lean ====
section
/-! DEFINITION. The statements for the provers, in the order of OBLIGATIONS.json.

Throughout, `restartMonitor port s` is the state in which a whole frame of the port is judged: on a stack port with a
running silence monitor the monitor has restarted (R183). An equation `exec c s = .next t` gives the command's whole effect,
so that whatever t does not name is unchanged. -/

open Sys2Proof Sys2Proof.Machine

/-! ### The machine -/

/-- A step carries out the command at the front of the queue with the queue's rest. On an empty queue the block idles:
that clause is the model's choice (log entry 1). -/
def Obligations.StepRunsTheFront : Prop :=
  (∀ (c : Instr) (rest : List Instr) (s : State),
    step { s with pending := c :: rest } = exec c { s with pending := rest })
  ∧ ∀ s : State, s.pending = [] → step s = .next s

/-- Every command is answered or taken: none stops the part, and none reads or writes the queue of commands (R8, R198,
log entries 1 and 7). -/
def Obligations.CommandsGoOn : Prop :=
  ∀ (c : Instr) (s : State), ∃ t, exec c s = .next t ∧ t.pending = s.pending

/-- What power-on reset leaves, record by record, with RESET_N held low (R210 and the rules it names; BAND and SUB_SEL by R33,
the open measurement window by R75, the search plan by R112, the RF side by R124, R128, R130, R131, R135 and R139, the clock by
R151); and that every law the steps keep holds there. The values of the model's own: an IDLE search record's attempt number 0 and
every device's answer check clear (log entry 2), the pins' levels behind the NORMAL supply state (log entry 6), no notice left to
act on (log entry 11) and no transaction in progress (log entry 50). -/
def Obligations.ResetValues : Prop :=
  State.reset.core.tla.table = []
  ∧ State.reset.core.tla.generations = List.replicate 48 0
  ∧ State.reset.core.tla.band = 0 ∧ State.reset.core.tla.subSel = .A
  ∧ State.reset.core.tla.rxEn = false ∧ State.reset.core.tla.txEn = false
  ∧ State.reset.core.smg.sessions = List.replicate 8 none
  ∧ State.reset.core.smg.queues = ⟨[], []⟩
  ∧ State.reset.core.smg.missed = ⟨⟨0, false⟩, ⟨0, false⟩⟩
  ∧ (∀ x, State.reset.core.cells x = ⟨List.replicate 12 none, 2, 81920, ⟨false, false, false, false⟩⟩)
  ∧ State.reset.core.msu.stray = 0 ∧ State.reset.core.msu.view = none
  ∧ (∀ x, State.reset.core.hoe.get x = ⟨6, 10240, -110, 32000, .clear, none⟩)
  ∧ (∀ x, State.reset.core.csc.get x = ⟨.noCell, .idle, 0, 0, 0, false⟩)
  ∧ State.reset.core.rcc.view = none ∧ State.reset.core.rcc.bridges = ⟨⟨[], 0⟩, ⟨[], 0⟩⟩
  ∧ State.reset.core.rcc.shadow = [] ∧ State.reset.core.rcc.tuning = none ∧ State.reset.core.rcc.lastServed = .B
  ∧ State.reset.core.rcc.prep = none ∧ State.reset.core.rcc.replay = [] ∧ State.reset.core.rcc.bus = none
  ∧ State.reset.core.rcc.poweredSince = false ∧ (∀ d, State.reset.core.rcc.answering.get d = .answering)
  ∧ (∀ d, State.reset.core.power d = .off)
  ∧ State.reset.core.psc.divider = 0 ∧ State.reset.core.psc.fraction = 0
  ∧ State.reset.core.psc.sleep = .awake ∧ State.reset.core.psc.sleep.clockRequest = true
  ∧ State.reset.core.psc.sleep.source = .main
  ∧ State.reset.core.psc.consent = ⟨false, false⟩ ∧ State.reset.core.psc.stayAwake = false
  ∧ State.reset.core.ssv = ⟨⟨.detached, none⟩, ⟨.detached, none⟩⟩
  ∧ (∀ port, State.reset.core.pif.get port = ⟨[], 0⟩)
  ∧ (∀ port, State.reset.links.get port = ⟨⟨0, .notReady, []⟩, 0, none⟩)
  ∧ State.reset.env.count = 0 ∧ State.reset.env.step = 64000
  ∧ State.reset.env.policy = ⟨none, 2, 32000, ⟨64000, 64000⟩⟩
  ∧ State.reset.env.supply = .normal ∧ State.reset.env.alert = false
  ∧ State.reset.env.load.phase = .notBegun
  ∧ State.reset.env.image = ⟨⟨true, true, true, true⟩, ⟨96, 32, 0, 32⟩, 16, 64, 96, 640, true, 2, [], none⟩
  ∧ State.reset.core.notices = [] ∧ State.reset.pending = []
  ∧ State.reset.env.Inv ∧ State.reset.core.QueueLaw ∧ State.reset.MonitorLaw
  ∧ State.reset.core.TableLaw ∧ State.reset.core.TableOrder ∧ State.reset.SessionLaw ∧ State.reset.core.CellLaw
  ∧ State.reset.core.UnattachedLaw ∧ State.reset.LiveLaw ∧ State.reset.ContextLaw ∧ State.reset.SleepLaw

/-- Every step keeps the calibration step, the policy and the configuration in their ranges (R151, R186, R213, R214). -/
def Obligations.StepKeepsRanges : Prop :=
  ∀ s t : State, s.env.Inv → step s = .next t → t.env.Inv

/-- Every step keeps each event queue at 16 records at most and its overflow count at 255 at most, the queue of a stack that
is not ATTACHED empty, and each silence monitor running exactly while its stack is ATTACHED with events queued and a limit
that is not 0 (R110, R182, R202). -/
def Obligations.StepKeepsQueueLaw : Prop :=
  ∀ s t : State, s.core.QueueLaw → s.MonitorLaw → step s = .next t → t.core.QueueLaw ∧ t.MonitorLaw

/-- Every step keeps the reservation table at 48 records at most, 32 of either subscription, each at an index of its own
(R11, R12, R35). -/
def Obligations.StepKeepsTableLaw : Prop :=
  ∀ s t : State, s.core.TableLaw → step s = .next t → t.core.TableLaw

/-- Every step keeps the reservation table in order of start, its spans apart, and every record with an occurrence (R12, R13,
R17, R25), where every time a placement of the step can start from lies within 2^29 tu of now: beyond half of the clock's
range R1's order of times turns over. A record without an occurrence would be SEEKING, a state of the model's own (log entry 23):
no step leaves one so. -/
def Obligations.StepKeepsTableOrder : Prop :=
  ∀ s t : State, s.core.TableLaw → s.core.TableOrder → s.TimesNear
    → (∀ c ∈ s.pending.head?, nearOpt s.env.count (namedStart c) = true)
    → step s = .next t → t.core.TableOrder

/-- Every step keeps the session table, its text queues and its credits lawful, with at most one voice session, and every
reservation that names a session names one of its own owner's (R41, R42, R43, R49). -/
def Obligations.StepKeepsSessionLaw : Prop :=
  ∀ s t : State, s.SessionLaw → step s = .next t → t.SessionLaw

/-- Every step keeps both cell tables at twelve slots with at most one SERVING record and no key twice, every level within
−8960..−2560, and every accumulator at four clamped samples at most (R71, R79, R81, R83). -/
def Obligations.StepKeepsCellLaw : Prop :=
  ∀ s t : State, s.core.CellLaw → step s = .next t → t.core.CellLaw

/-- Every step keeps a stack that is not ATTACHED without reservation, session, text, bridge transaction or context value and
with its coverage NO_CELL (R110). The law's support is kept with it: preparations, views and transfers belong to windows and stacks
that are there (R131, R132, R147), and RX_EN or TX_EN is high only with a window ACTIVE whose band, owner and class the four lines
show (R31, R33); handles that differ are StepKeepsTableLaw's. -/
def Obligations.StepKeepsUnattachedLaw : Prop :=
  ∀ s t : State, s.core.TableLaw → s.core.UnattachedLaw → step s = .next t → t.core.UnattachedLaw

/-- Every step keeps every live entry of a device that is not ON UNKNOWN (R128), together with the power of every device that
a transfer can go to (R124, R130, R133, R144). -/
def Obligations.StepKeepsLiveLaw : Prop :=
  ∀ s t : State, s.core.TableLaw → s.core.UnattachedLaw → s.LiveLaw → step s = .next t → t.LiveLaw

/-- Every step keeps the law of the device: while the occurrence in the window view is ACTIVE and not DEGRADED, every CONTEXT
register of a present device for which its owner has a set value holds that value in the live table (R136). Kept with it is what
leads there: the CONTEXT step of a running preparation as far as it has come (R133, R134), what a transfer in flight can do to the
live table (R127, R128), the scopes of queued transactions (R139), replay writes of COMMON entries only (R130), and no register
twice in the map (R126). That a window driven out of the view does not start is read from the manual by inference (log entry
25). -/
def Obligations.StepKeepsContextLaw : Prop :=
  ∀ s t : State, s.env.Inv → s.core.TableLaw → s.core.UnattachedLaw → s.LiveLaw → s.ContextLaw → step s = .next t →
    t.ContextLaw

/-- Every step keeps the law of sleep: in LIGHT and DEEP every present device is OFF, no occurrence is PREPARING or ACTIVE and
both bridge queues are empty (R162), and the wake time held is worked out from the GRANTED occurrences as they stand
(R164). -/
def Obligations.StepKeepsSleepLaw : Prop :=
  ∀ s t : State, s.core.TableLaw → s.core.UnattachedLaw → s.SleepLaw → step s = .next t → t.SleepLaw

/-! ### Links -/

/-- A request's frame, received at the end of a transaction that shifted the slot out, with any filler behind it and any bits
left over after the last whole byte, does what the request does: no bit of a frame is dropped (R193, R194, R195, R219). That a
request command stands for that end of a transaction is the model's choice (log entry 8). -/
def Obligations.FrameCarriesRequest : Prop :=
  ∀ (c : Instr) (port : Port) (seq : Byte) (filler : List Byte) (leftover : List Bool) (s : State),
    c.wf = true → requestHead c = some (port, seq) → (s.links.get port).transaction.isSome = true
    → leftover.length < 8
    → 5 + (s.links.get port).slot.payload.length ≤ (requestFrame seq c ++ filler).length
    → exec (.linkTransactionEnd port (bitsOfBytes (requestFrame seq c ++ filler) ++ leftover)) s = exec c s

/-- The CRC: its register starts at 0xFF, takes a byte in eight shifts with 0x2F, and one byte alone closes a run of bytes to
0 (R196); and the four conditions of a whole frame, its fields, and the filler that is ignored (R195). -/
def Obligations.WholeFrameConditions : Prop :=
  crc [] = 0xFF
  ∧ (∀ (bytes : List Byte) (b : Byte),
    crc (bytes ++ [b]) = (fun r : Byte => if r.getLsbD 7 then (r <<< 1) ^^^ 0x2F else r <<< 1)^[8] (crc bytes ^^^ b))
  ∧ (∀ (bytes : List Byte) (b : Byte), crc (bytes ++ [b]) = 0 ↔ b = crc bytes)
  ∧ (∀ received : List Byte, (wholeFrame received).isSome = true ↔
    4 ≤ received.length ∧ (byteAt received 2).toNat ≤ 60 ∧ 4 + (byteAt received 2).toNat ≤ received.length
      ∧ crc (received.take (4 + (byteAt received 2).toNat)) = 0)
  ∧ ∀ (received : List Byte) (f : WholeFrame), wholeFrame received = some f →
    f = ⟨byteAt received 0, byteAt received 1, (received.drop 3).take (byteAt received 2).toNat⟩
      ∧ ∀ filler, wholeFrame (received ++ filler) = some f

/-- The beginning of a transaction forms the response from the state before it, and acts on the sleep state by the table
of R171 (R193, R199, R200); the response leaves the part bit by bit, most significant bit of each byte first, with filler bytes
of 0x00 behind it (R193); and the bits of both summary bytes (R200, R201, R219). On a port with a transaction in progress the chip
select is low already, and such a beginning has no effect: the model's choice (log entry 7). -/
def Obligations.TransactionBegins : Prop :=
  (∀ (port : Port) (s : State), s.env.load.phase ≠ .notBegun → (s.links.get port).transaction = none →
    exec (.linkTransactionBegin port) s = .next
      { s with
        links := s.links.set port { s.links.get port with
          transaction := some ⟨s.core.psc.sleep.kind,
            responseBytes (summary s.env s.core port) (s.links.get port).slot⟩ }
        core := { s.core with psc := { s.core.psc with
          sleep := match s.core.psc.sleep with
            | .awake => .awake
            | .settlingDown _ _ => .awake
            | .light _ => .awake
            | .deep _ => .waking (s.env.count + tu s.env.image.clockSettle)
            | .waking t => .waking t } } })
  ∧ (∀ (port : Port) (s : State) (t : Transaction), s.env.load.phase ≠ .notBegun → (s.links.get port).transaction = some t →
    exec (.linkTransactionBegin port) s = .next s)
  ∧ (∀ (b : Byte) (slot : Slot), responseBytes b slot =
    [b, slot.seq, BitVec.ofNat 8 slot.status.code, BitVec.ofNat 8 slot.payload.length] ++ slot.payload
      ++ [crc ([b, slot.seq, BitVec.ofNat 8 slot.status.code, BitVec.ofNat 8 slot.payload.length] ++ slot.payload)])
  ∧ (∀ (t : Transaction) (n : Nat), t.shiftedOut n = (bitsOfBytes (t.response ++ List.replicate n 0)).take n)
  ∧ (∀ b : Byte, bitsOfByte b = [b.getLsbD 7, b.getLsbD 6, b.getLsbD 5, b.getLsbD 4, b.getLsbD 3, b.getLsbD 2,
    b.getLsbD 1, b.getLsbD 0])
  ∧ (∀ (e : Env) (c : Core) (x : Sys2Proof.Sub),
    (summary e c (.stack x)).getLsbD 7 = !(c.pif.get (.stack x)).events.isEmpty
    ∧ (summary e c (.stack x)).getLsbD 6 = decide (0 < (c.pif.get (.stack x)).overflow)
    ∧ ((summary e c (.stack x)).extractLsb' 4 2).toNat = (c.ssv.get x).state.code
    ∧ (summary e c (.stack x)).getLsbD 3 = decide ((c.csc.get x).coverage = .inService)
    ∧ ((summary e c (.stack x)).extractLsb' 0 3).toNat = c.psc.sleep.kind.code)
  ∧ ∀ (e : Env) (c : Core),
    (summary e c .app).getLsbD 7 = !(c.pif.get .app).events.isEmpty
    ∧ (summary e c .app).getLsbD 6 = decide (0 < (c.pif.get .app).overflow)
    ∧ (summary e c .app).getLsbD 5 = decide ((c.ssv.get .A).state = .lost)
    ∧ (summary e c .app).getLsbD 4 = decide ((c.ssv.get .B).state = .lost)
    ∧ (summary e c .app).getLsbD 3 = e.alert
    ∧ (summary e c .app).getLsbD 2 = c.voiceActive
    ∧ ((summary e c .app).extractLsb' 0 2).toNat = 0

/-- The end of a transaction. The bits received make whole bytes, most significant bit first, and bits left over are
discarded (R193). A slot not fully shifted out keeps its response and the frame is discarded (R194); a frame error is answered
FRAME_ERROR and counted, whatever the state of the part (R197); a whole frame meets the first four checks in order, over the
command codes of the index (R198, R219). -/
def Obligations.FrameChecks : Prop :=
  (∀ (bytes : List Byte) (leftover : List Bool), leftover.length < 8 → wholeBytes (bitsOfBytes bytes ++ leftover) = bytes)
  ∧ (∀ bits : List Bool, ∃ leftover, leftover.length < 8 ∧ bits = bitsOfBytes (wholeBytes bits) ++ leftover)
  ∧ (∀ (port : Port) (bits : List Bool) (s : State),
    s.env.load.phase ≠ .notBegun → (s.links.get port).transaction.isSome = true →
    ((wholeBytes bits).length < 5 + (s.links.get port).slot.payload.length →
      exec (.linkTransactionEnd port bits) s = .next
        { s with links := s.links.set port { s.links.get port with transaction := none } })
    ∧ (5 + (s.links.get port).slot.payload.length ≤ (wholeBytes bits).length → wholeFrame (wholeBytes bits) = none →
      exec (.linkTransactionEnd port bits) s = .next
        { s with links := s.links.set port { s.links.get port with
          slot := ⟨byteAt (wholeBytes bits) 1, .frameError, []⟩
          crcErrors := min 65535 ((s.links.get port).crcErrors + 1)
          transaction := none } }))
  ∧ (∀ (port : Port) (bits : List Bool) (f : WholeFrame) (s : State),
    (s.links.get port).transaction.isSome = true
    → 5 + (s.links.get port).slot.payload.length ≤ (wholeBytes bits).length → wholeFrame (wholeBytes bits) = some f →
    (s.env.load.phase = .reading →
      exec (.linkTransactionEnd port bits) s =
        .next ((restartMonitor port s).turnedAway port f.seq .notReady))
    ∧ (s.env.load.phase = .ended → s.beganIn port = .deep ∨ s.beganIn port = .waking →
      exec (.linkTransactionEnd port bits) s =
        .next ((restartMonitor port s).turnedAway port f.seq .waking))
    ∧ (Ready s port → readRequest port f.seq f.code f.payload = .unknown →
      exec (.linkTransactionEnd port bits) s =
        .next ((restartMonitor port s).turnedAway port f.seq .unknownRequest))
    ∧ (Ready s port → readRequest port f.seq f.code f.payload = .badLength →
      exec (.linkTransactionEnd port bits) s =
        .next ((restartMonitor port s).turnedAway port f.seq .badLength)))
  ∧ ∀ (port : Port) (seq code : Byte) (p : List Byte), readRequest port seq code p = .unknown ↔
    code.toNat ∉ [0x00, 0x01, 0x02, 0x03, 0x04, 0x08, 0x09, 0x0A, 0x0B, 0x10, 0x11, 0x12, 0x13, 0x18, 0x19, 0x1A, 0x1B,
      0x1C, 0x1D, 0x1E, 0x20, 0x21, 0x22, 0x23, 0x24, 0x28, 0x29, 0x2A, 0x30, 0x31, 0x32, 0x33, 0x38, 0x39, 0x3A, 0x40,
      0x41, 0x42, 0x43]

/-- The permission checks over the whole index: a request outside its class is refused NOT_PERMITTED, and one that needs
an ATTACHED stack is refused NOT_ATTACHED without one; both change nothing (R188, R198, R209). -/
def Obligations.PermissionChecks : Prop :=
  ∀ (c : Instr) (port : Port) (seq : Byte) (p : Permission) (s : State),
    requestHead c = some (port, seq) → requestClass c = some p → Ready s port →
    (p.allows port = false →
      exec c s = .next ((restartMonitor port s).turnedAway port seq .notPermitted))
    ∧ (∀ x, port = .stack x → p.allows port = true → takenUnattached c = false → s.core.attached x = false →
      exec c s = .next ((restartMonitor port s).turnedAway port seq .notAttached))

/-- The Port Interface's own requests, taken in every stack state (R206, R207, R208), and what an EVENT_READ takes: the six
oldest records, with the overflow count zeroed, the neighbours told when the queue has become empty (R182, R202); an EVENT_READ
of a queue that is empty is no trigger of the sleep entry evaluation (log entry 31). The answer's bytes: three counts, and each
record's 15 bytes with the codes of its kind and subject (R203, R206, R219, R221). And what posting an event does: it joins a
queue of fewer than 16, is dropped and counted otherwise, is discarded for a stack that is not ATTACHED, and starts the silence
monitor of an ATTACHED stack whose queue was empty (R182, R202). -/
def Obligations.PortRequests : Prop :=
  (∀ (port : Port) (seq : Byte) (s : State), Ready s port →
    exec (.fetch port seq) s = .next ((restartMonitor port s).replied port seq [])
    ∧ exec (.eventRead port seq) s = .next
      (((restartMonitor port s).setCore (readQueue port (restartMonitor port s).core)).settled.replied port seq
        (eventPayload (s.core.pif.get port)))
    ∧ exec (.linkRead port seq) s = .next ((restartMonitor port s).replied port seq
      (match port with
        | .stack x => linkCounts s (.stack x)
        | .app => linkCounts s (.stack .A) ++ linkCounts s (.stack .B) ++ linkCounts s .app)))
  ∧ (∀ (port : Port) (s : State), linkCounts s port =
      bytes16 (BitVec.ofNat 16 (s.links.get port).crcErrors)
        ++ [BitVec.ofNat 8 (s.core.pif.get port).events.length, BitVec.ofNat 8 (s.core.pif.get port).overflow])
  ∧ (∀ (port : Port) (c : Core),
    (readQueue port c).pif = c.pif.set port ⟨(c.pif.get port).events.drop 6, 0⟩
    ∧ ((c.pif.get port).events.length = 0 ∨ 6 < (c.pif.get port).events.length →
      (readQueue port c).ssv = c.ssv ∧ (readQueue port c).evaluate = c.evaluate)
    ∧ (1 ≤ (c.pif.get port).events.length → (c.pif.get port).events.length ≤ 6 →
      (readQueue port c).evaluate = true
      ∧ ∀ x, (readQueue port c).ssv.get x =
        if port = .stack x then { c.ssv.get x with monitor := none } else c.ssv.get x))
  ∧ (∀ q : EventQueue, (eventPayload q).length = 6 + 15 * min 6 q.events.length
    ∧ eventPayload q = bytes16 (BitVec.ofNat 16 (min 6 q.events.length)) ++ bytes16 (BitVec.ofNat 16 q.overflow)
      ++ bytes16 (BitVec.ofNat 16 (q.events.length - 6)) ++ ((q.events.take 6).map Event.bytes).flatten)
  ∧ (∀ ev : Event, ev.bytes =
    [BitVec.ofNat 8 ev.kind.code]
      ++ (match ev.subject with
        | .none => [0, 0xFF, 0xFF, 0xFF, 0xFF, 0xFF]
        | .reservation x h => [1, if x = .A then 0 else 1, h.index, h.generation, 0, 0]
        | .session x h => [2, if x = .A then 0 else 1, h.index, h.generation, 0, 0]
        | .ticket x n => [3, if x = .A then 0 else 1, n, 0, 0, 0]
        | .cell x k => [4, if x = .A then 0 else 1] ++ bytes16 k.frequency ++ bytes16 k.identity
        | .subscription x => [5, if x = .A then 0 else 1, 0, 0, 0, 0])
      ++ bytes32 ev.time ++ bytes16 ev.value1 ++ bytes16 ev.value2)
  ∧ (∀ (n : Nat) (k : EventKind), [EventKind.reservationEnded, .occurrenceLost, .windowLate, .callState, .tuneAway,
    .pageStarved, .textWindow, .textDone, .textFailed, .hoCandidate, .servingWeak, .servingRecovered, .coverage,
    .searchWindow, .searchReport, .contextFault, .stagedKilled, .bridgeDone, .supply, .stackAttached, .stackDetached,
    .stackLost][n]? = some k → k.code = n + 1)
  ∧ ∀ (e : Env) (port : Port) (ev : Event) (c : Core),
    (∀ x, port = .stack x → c.attached x = false → post e port ev c = c)
    ∧ ((∀ x, port = .stack x → c.attached x = true) →
      (post e port ev c).pif = c.pif.set port
        (if (c.pif.get port).events.length < 16 then
          ⟨(c.pif.get port).events ++ [ev], (c.pif.get port).overflow⟩
        else ⟨(c.pif.get port).events, min 255 ((c.pif.get port).overflow + 1)⟩)
      ∧ ∀ x, (post e port ev c).ssv.get x =
        if port = .stack x ∧ (c.pif.get port).events = [] ∧ e.policy.limits.get x ≠ 0 then
          { c.ssv.get x with monitor := some (e.count + tu (e.policy.limits.get x)) }
        else c.ssv.get x)
    ∧ { post e port ev c with pif := c.pif, ssv := c.ssv } = c

/-! ### Subscriptions and supervision -/

/-- ATTACH, DETACH and the silence monitor's expiry, by the transitions of R178 with the events of R181 (R184, R189,
R190); an ATTACH clears the stack's sleep consent, which is a trigger of the sleep entry evaluation when it was set (R163, R165). -/
def Obligations.StackTransitions : Prop :=
  (∀ (x : Sys2Proof.Sub) (seq : Byte) (s : State), Ready s (.stack x) →
    (∀ t, t = (restartMonitor (.stack x) s).react (fun e c => attachStack e x (s.core.ssv.get x).state c) →
      exec (.attach (.stack x) seq) s = .next (t.replied (.stack x) seq
        ([BitVec.ofNat 8 (s.core.ssv.get x).state.code, 1] ++ bytes32 (BitVec.ofNat 32 (s.env.policy.limits.get x))
          ++ [BitVec.ofNat 8 (t.core.csc.get x).coverage.code])))
    ∧ exec (.detach (.stack x) seq) s = .next
      (((restartMonitor (.stack x) s).react (fun e c => detachStack e x c)).replied (.stack x) seq
        [BitVec.ofNat 8 (s.core.ssv.get x).state.code, 0]))
  ∧ (∀ (e : Env) (x : Sys2Proof.Sub) (was : StackState) (c : Core),
    (c.attached x = false → attachStack e x was c =
      post e .app ⟨.stackAttached, .subscription x, e.count, value16 was.code, 0⟩
        (clearConsent x (c.setStack x ⟨.attached, none⟩)))
    ∧ (c.attached x = true → attachStack e x was c =
      post e .app ⟨.stackAttached, .subscription x, e.count, value16 was.code, 0⟩
        (clearConsent x ((post e .app ⟨.stackDetached, .subscription x, e.count, 1, 1⟩ (teardown e x .detached c)).setStack
          x ⟨.attached, none⟩))))
  ∧ (∀ (e : Env) (x : Sys2Proof.Sub) (c : Core),
    ((c.ssv.get x).state = .detached → detachStack e x c = c)
    ∧ ((c.ssv.get x).state = .lost → detachStack e x c =
      post e .app ⟨.stackDetached, .subscription x, e.count, 2, 0⟩ (c.setStack x ⟨.detached, none⟩))
    ∧ ((c.ssv.get x).state = .attached → detachStack e x c =
      post e .app ⟨.stackDetached, .subscription x, e.count, 1, 0⟩ (teardown e x .detached c)))
  ∧ (∀ (x : Sys2Proof.Sub) (c : Core), clearConsent x c = { c with
    psc := { c.psc with consent := c.psc.consent.set x false }
    evaluate := c.evaluate || c.psc.consent.get x })
  ∧ ∀ (x : Sys2Proof.Sub) (t : Time) (s : State), s.env.load.phase ≠ .notBegun
    → (s.core.ssv.get x).monitor = some t → atOrAfter s.env.count t = true →
    exec (.silenceMonitorExpiry x) s = .next (s.react fun e c =>
      post e .app ⟨.stackLost, .subscription x, e.count, value16 (c.pif.get (.stack x)).events.length,
        value16 (c.pif.get (.stack x)).overflow⟩ (teardown e x .lost c))

/-- After the teardown of X, X holds nothing: no record, session, text, cell, context value, bridge transaction or event;
its parameters are the defaults, its coverage NO_CELL, its consent clear and its monitor stopped (R35, R62, R75, R110, R119,
R147, R163, R180, R205). What is the other subscription's stands, with the COMMON values, BAND and SUB_SEL (R33, R35, R62, R106,
R127, R180), where handles differ (StepKeepsTableLaw) and the open measurement window is X's own when X has an ACTIVE occurrence
(R29). The Application Port is told CALL_STATE(CLOSED) with the reason when X held the voice session, and then COVERAGE(NO_CELL,
TEARDOWN) when X's coverage was another (R62, R119, R180). -/
def Obligations.TeardownClears : Prop :=
  (∀ (e : Env) (x : Sys2Proof.Sub) (left : StackState) (c t : Core), left ≠ .attached → teardown e x left c = t →
    t.ssv.get x = ⟨left, none⟩
    ∧ (∀ r ∈ t.tla.table, r.owner ≠ x)
    ∧ (∀ r, some r ∈ t.smg.sessions → r.owner ≠ x)
    ∧ t.queue x = [] ∧ t.smg.missed.get x = ⟨0, false⟩
    ∧ t.cells x = CellTable.initial
    ∧ t.hoe.get x = Hoe.initial
    ∧ t.csc.get x = Search.initial
    ∧ (t.bridge x).queue = []
    ∧ (∀ m ∈ t.rcc.shadow, m.own.get x = none)
    ∧ t.psc.consent.get x = false
    ∧ t.pif.get (.stack x) = ⟨[], 0⟩
    ∧ t.tla.generations = c.tla.generations ∧ t.smg.generations = c.smg.generations)
  ∧ (∀ (e : Env) (x y : Sys2Proof.Sub) (left : StackState) (c t : Core), y = x.other → c.TableLaw
    → (∀ v ∈ c.msu.view, v.owner = x ∨ ∀ r ∈ c.tla.table, r.owner = x → r.state ≠ .active)
    → left ≠ .attached → teardown e x left c = t →
    t.tla.table = c.tla.table.filter (fun r => decide (r.owner = y))
    ∧ t.smg.sessions = c.smg.sessions.map (fun o => o.filter fun n => decide (n.owner = y))
    ∧ t.queue y = c.queue y ∧ t.smg.missed.get y = c.smg.missed.get y
    ∧ t.cells y = c.cells y ∧ t.hoe.get y = c.hoe.get y ∧ t.csc.get y = c.csc.get y
    ∧ t.rcc.shadow.map (fun m => (m.entry, m.own.get y, m.common))
      = c.rcc.shadow.map (fun m => (m.entry, m.own.get y, m.common))
    ∧ t.psc.consent.get y = c.psc.consent.get y ∧ t.psc.stayAwake = c.psc.stayAwake
    ∧ (t.ssv.get y).state = (c.ssv.get y).state
    ∧ t.tla.band = c.tla.band ∧ t.tla.subSel = c.tla.subSel)
  ∧ ∀ (e : Env) (x : Sys2Proof.Sub) (left : StackState) (c told : Core) (held : Bool), left ≠ .attached
    → (held = true ↔ ∃ n v, c.voiceSession = some (n, v) ∧ n.owner = x)
    → told = (if held = true then
        post e .app ⟨.callState, .subscription x, e.count, value16 2, value16 (if left = .lost then 2 else 3)⟩ c
      else c) →
    (teardown e x left c).pif.get .app =
      ((if (c.csc.get x).coverage ≠ .noCell then
          post e .app ⟨.coverage, .subscription x, e.count, value16 0, value16 5⟩ told
        else told).pif.get .app)

/-- POLICY_SET replaces every item, each number clamped to its range, a silence limit of 0 kept as 0; a preferred
subscription that names none is refused (R186, R187, R191). The answer holds the policy in force, and the credit of the voice
session once it is ACTIVE, or none (R191, R219). The blocks take it in turn: the credit, A's limit, B's. -/
def Obligations.PolicyTaken : Prop :=
  (∀ (seq pref credit : Byte) (refill a b : BitVec 32) (who : Option Sys2Proof.Sub) (p : Policy) (s : State), Ready s .app
    → (pref, who) ∈ [((0 : Byte), none), (1, some Sys2Proof.Sub.A), (2, some Sys2Proof.Sub.B)]
    → p = ⟨who, min 8 credit.toNat, max 3200 (min 320000 refill.toNat),
        ⟨if a.toNat = 0 then 0 else max 3200 (min 320000 a.toNat),
         if b.toNat = 0 then 0 else max 3200 (min 320000 b.toNat)⟩⟩ →
    exec (.policySet .app seq pref credit refill a b) s = .next
      (({ s with env := { s.env with policy := p }
                 core := applyPolicy s.env.count s.env.policy p s.core } : State).replied .app seq
        ([pref, BitVec.ofNat 8 p.creditMax] ++ bytes32 (BitVec.ofNat 32 p.refill)
          ++ bytes32 (BitVec.ofNat 32 p.limits.a) ++ bytes32 (BitVec.ofNat 32 p.limits.b)
          ++ (match creditInForce (applyPolicy s.env.count s.env.policy p s.core) with
            | none => [0, 0]
            | some n => [1, BitVec.ofNat 8 n]))))
  ∧ (∀ c : Core, (c.voiceSession = none → creditInForce c = none)
    ∧ ∀ n v, c.voiceSession = some (n, v) →
      (v.traffic = none → creditInForce c = none) ∧ ∀ tr, v.traffic = some tr → creditInForce c = some tr.credit)
  ∧ (∀ (seq pref credit : Byte) (refill a b : BitVec 32) (s : State), Ready s .app → 2 < pref.toNat →
    exec (.policySet .app seq pref credit refill a b) s = .next (s.turnedAway .app seq .badParam))
  ∧ ∀ (now : Time) (was will : Policy) (c : Core), applyPolicy now was will c =
    limitPolicy now .B was.limits.b will.limits.b
      (limitPolicy now .A was.limits.a will.limits.a (creditPolicy now was will c))

/-- How a changed silence limit acts on the monitor at once, by the table of R185, and that a restart or a start uses the
limit in force. That a running monitor has a limit that is not 0 is a law every step keeps (StepKeepsQueueLaw). -/
def Obligations.PolicyActs : Prop :=
  (∀ (now : Time) (x : Sys2Proof.Sub) (was will : Nat) (c : Core),
    ((c.ssv.get x).monitor.isSome = true → was ≠ 0) →
    (will = 0 → limitPolicy now x was will c = c.setMonitor x none)
    ∧ (will ≠ 0 → (c.ssv.get x).monitor.isSome = true → limitPolicy now x was will c = c)
    ∧ (will ≠ 0 → was = 0 → c.attached x = true → (c.pif.get (.stack x)).events ≠ [] →
      limitPolicy now x was will c = c.setMonitor x (some (now + tu will)))
    ∧ (will ≠ 0 → (was ≠ 0 ∨ c.attached x = false ∨ (c.pif.get (.stack x)).events = []) →
      limitPolicy now x was will c = c))
  ∧ (∀ (x : Sys2Proof.Sub) (t : Time) (s : State), (s.core.ssv.get x).monitor = some t →
    (restartMonitor (.stack x) s).core.ssv.get x =
      { s.core.ssv.get x with monitor := some (s.env.count + tu (s.env.policy.limits.get x)) })
  ∧ ∀ (e : Env) (x : Sys2Proof.Sub) (c : Core), c.attached x = true →
    ((startMonitor e x c).ssv.get x).monitor =
      if e.policy.limits.get x = 0 then (c.ssv.get x).monitor else some (e.count + tu (e.policy.limits.get x))

/-! ### Requests that read -/

/-- The reads of the part's own state: STATUS_READ, which clears the supply alert in NORMAL and changes nothing else, TIME_READ
and CONFIG_READ (R161, R173, R192, R218), with the bytes that STATUS_READ and CONFIG_READ answer (R192, R218, R219). The codes
of states that no rule numbers are log entry 18, a text's among them log entry 51; a field that is absent is a presence byte and
zeros (log entry 19), but the cause of a load is one code byte, 0 for none, with no presence byte (log entry 56), and the present
flag of a device is 1 for present and 0 for absent (log entry 58). -/
def Obligations.PartReads : Prop :=
  (∀ (seq : Byte) (s : State), Ready s .app →
    exec (.statusRead .app seq) s = .next
      (({ s with env := { s.env with alert := s.env.alert && decide (s.env.supply ≠ .normal) } } : State).replied .app seq
        (statusBytes (s.beganIn .app) s.env s.core)))
  ∧ (∀ (port : Port) (seq : Byte) (s : State), Reads s port →
    exec (.timeRead port seq) s = .next ((restartMonitor port s).replied port seq
      (bytes32 s.env.count ++ bytes16 (BitVec.ofNat 16 s.env.step)))
    ∧ exec (.configRead port seq) s = .next ((restartMonitor port s).replied port seq
      (configBytes s.env.load s.env.image)))
  ∧ (∀ (began : SleepKind) (e : Env) (c : Core), statusBytes began e c =
    subStatus e c .A ++ subStatus e c .B
      ++ [BitVec.ofNat 8 e.supply.code, if e.alert then 1 else 0, BitVec.ofNat 8 began.code,
        if c.psc.stayAwake then 1 else 0,
        match e.policy.preferred with
          | none => 0
          | some .A => 1
          | some .B => 2])
  ∧ (∀ (e : Env) (c : Core) (x : Sys2Proof.Sub), subStatus e c x =
    [BitVec.ofNat 8 (c.ssv.get x).state.code]
      ++ (match (c.ssv.get x).monitor with
        | none => [0, 0, 0, 0, 0]
        | some t => [1, t.extractLsb' 24 8, t.extractLsb' 16 8, t.extractLsb' 8 8, t.extractLsb' 0 8])
      ++ [if c.psc.consent.get x then 1 else 0, BitVec.ofNat 8 (c.csc.get x).coverage.code, BitVec.ofNat 8 (bars e c x),
        BitVec.ofNat 8 (voiceCode c x), BitVec.ofNat 8 (c.queue x).length]
      ++ (match c.headText x with
        | none => [0, 0]
        | some (_, t) => [1, BitVec.ofNat 8 t.state.code])
      ++ [BitVec.ofNat 8 (c.smg.missed.get x).count, if (c.smg.missed.get x).starved then 1 else 0])
  ∧ (∀ (c : Core) (x : Sys2Proof.Sub),
    (c.voiceSession = none → voiceCode c x = 0)
    ∧ ∀ n v, c.voiceSession = some (n, v) →
      (n.owner ≠ x → voiceCode c x = 0)
      ∧ (n.owner = x → v.traffic = none → voiceCode c x = 1)
      ∧ (n.owner = x → v.traffic.isSome = true → voiceCode c x = 2))
  ∧ ∀ (l : Load) (i : Image), configBytes l i =
    [if l.loaded then 0 else 1, BitVec.ofNat 8 l.cause.code, BitVec.ofNat 8 l.stated, BitVec.ofNat 8 l.read,
      BitVec.ofNat 8 l.clamps, BitVec.ofNat 8 l.ignored,
      if i.present.d0 then 1 else 0, if i.present.d1 then 1 else 0, if i.present.d2 then 1 else 0,
      if i.present.d3 then 1 else 0]
      ++ bytes16 (BitVec.ofNat 16 i.delays.d0) ++ bytes16 (BitVec.ofNat 16 i.delays.d1)
      ++ bytes16 (BitVec.ofNat 16 i.delays.d2) ++ bytes16 (BitVec.ofNat 16 i.delays.d3)
      ++ [BitVec.ofNat 8 i.offSettle] ++ bytes16 (BitVec.ofNat 16 i.clockSettle)
      ++ bytes16 (BitVec.ofNat 16 i.lightThreshold) ++ bytes16 (BitVec.ofNat 16 i.deepThreshold)
      ++ [if i.deepAllowed then 1 else 0, BitVec.ofNat 8 i.blanking,
        BitVec.ofNat 8 (i.map.countP fun m => decide (m.scope = .context)),
        BitVec.ofNat 8 (i.map.countP fun m => decide (m.scope = .common))]
      ++ (match i.tuning with
        | none => [0, 0]
        | some n => [1, BitVec.ofNat 8 n])

/-- The reads of one record: a stack port reads its own subscription's, the Application Port any. They change nothing, but
that a stack's own FLAGS_READ clears its flags (R40, R69, R85, R90, R92, R150), and that the model counts its reads of a
call in SETUP. The bytes of every record, field by field, most significant byte first (R219). The model's choices: the fields a
call in SETUP does not hold are free values (log entry 4), the codes of states that no rule numbers (log entry 18), a text's
states numbered from 0 (log entry 51), a value that is UNSET, UNKNOWN or absent as a presence byte and zeros (log entry 19), and 1
for a mark or flag that is set (log entry 43). And each read's refusals: a handle that names nothing, another subscription's
record, and a slot, map entry or subscription that is none (R40, R69, R90, R92, R150). -/
def Obligations.RecordReads : Prop :=
  (∀ (port : Port) (seq : Byte) (s : State), Reads s port →
    (∀ h r, s.core.reservation h = some r → mayRead port r.owner = true →
      exec (.reservationRead port seq h) s = .next ((restartMonitor port s).replied port seq (reservationBytes r)))
    ∧ (∀ h r, s.core.session h = some r → mayRead port r.owner = true →
      exec (.sessionRead port seq h) s = .next
        (((restartMonitor port s).readAbsent r).replied port seq (sessionBytes s r)))
    ∧ (∀ (sub slot : Byte) x, slot.toNat ≤ 11 → actsFor port sub = some x →
      exec (.cellRead port seq sub slot) s = .next ((restartMonitor port s).replied port seq
        (cellReadBytes s.env.count (s.core.cells x) slot.toNat)))
    ∧ (∀ (sub entry : Byte) x m, s.core.rcc.shadow[entry.toNat]? = some m → actsFor port sub = some x →
      exec (.contextRead port seq sub entry) s = .next ((restartMonitor port s).replied port seq
        (contextBytes s.env s.core x entry.toNat m)))
    ∧ (∀ h, (s.core.reservation h = none →
        exec (.reservationRead port seq h) s = .next ((restartMonitor port s).turnedAway port seq .noSuch))
      ∧ (s.core.session h = none →
        exec (.sessionRead port seq h) s = .next ((restartMonitor port s).turnedAway port seq .noSuch))
      ∧ (∀ r, s.core.reservation h = some r → mayRead port r.owner = false →
        exec (.reservationRead port seq h) s = .next ((restartMonitor port s).turnedAway port seq .notOwner))
      ∧ ∀ n, s.core.session h = some n → mayRead port n.owner = false →
        exec (.sessionRead port seq h) s = .next ((restartMonitor port s).turnedAway port seq .notOwner))
    ∧ (∀ sub at_ : Byte,
      ((11 < at_.toNat ∨ actsFor port sub = none) →
        exec (.cellRead port seq sub at_) s = .next ((restartMonitor port s).turnedAway port seq .badParam))
      ∧ ((s.core.rcc.shadow.length ≤ at_.toNat ∨ actsFor port sub = none) →
        exec (.contextRead port seq sub at_) s = .next ((restartMonitor port s).turnedAway port seq .badParam))
      ∧ (actsFor port sub = none →
        exec (.flagsRead port seq sub) s = .next ((restartMonitor port s).turnedAway port seq .badParam)))
    ∧ (∀ (sub : Byte) x, actsFor port sub = some x →
      exec (.flagsRead port seq sub) s = .next
        ((match port with
          | .stack _ => (restartMonitor port s).setCore
              ((restartMonitor port s).core.setFlags x fun _ => ⟨false, false, false, false⟩)
          | .app => s).replied port seq
            (flagBytes (s.core.cells x).flags s.core.msu.stray))))
  ∧ (∀ (x y : Sys2Proof.Sub) (sub : Byte), mayRead .app x = true ∧ (mayRead (.stack y) x = true ↔ y = x)
    ∧ actsFor (.stack x) sub = some x
    ∧ (actsFor .app sub = none ↔ 1 < sub.toNat) ∧ (actsFor .app sub = some x ↔ sub = if x = .A then 0 else 1))
  ∧ ((∀ h : Half, bytes16 h = [h.extractLsb' 8 8, h.extractLsb' 0 8])
    ∧ (∀ w : BitVec 32, bytes32 w = [w.extractLsb' 24 8, w.extractLsb' 16 8, w.extractLsb' 8 8, w.extractLsb' 0 8])
    ∧ (∀ b : Bool, yesNo b = [if b then 1 else 0])
    ∧ handleOrNone none = [0, 0, 0] ∧ (∀ h : Handle, handleOrNone (some h) = [1, h.index, h.generation])
    ∧ timeOrNone none = [0, 0, 0, 0, 0] ∧ (∀ t : Time, timeOrNone (some t) = [1] ++ bytes32 t)
    ∧ halfOrNone none = [0, 0, 0] ∧ ∀ v : Half, halfOrNone (some v) = [1] ++ bytes16 v)
  ∧ (∀ r : Reservation, reservationBytes r =
    [if r.owner = .A then 0 else 1, BitVec.ofNat 8 r.cls.code] ++ yesNo r.urgent ++ yesNo r.emergency
      ++ [BitVec.ofNat 8 r.state.code] ++ yesNo r.late ++ yesNo r.degraded
      ++ bytes32 r.start ++ bytes32 r.desired ++ bytes16 (BitVec.ofNat 16 r.slack) ++ bytes16 (BitVec.ofNat 16 r.length)
      ++ bytes16 r.frequency ++ [BitVec.ofNat 8 r.band.toNat]
      ++ (match r.repeats with
        | none => [0, 0, 0, 0, 0, 0]
        | some p => bytes32 (BitVec.ofNat 32 p.period) ++ [1, BitVec.ofNat 8 p.remaining])
      ++ bytes16 r.occIndex ++ [BitVec.ofNat 8 r.lost] ++ handleOrNone r.session
      ++ [BitVec.ofNat 8 r.staged.length, BitVec.ofNat 8 r.cells.length]
      ++ (r.cells.map fun k => bytes16 k.frequency ++ bytes16 k.identity).flatten)
  ∧ (∀ (s : State) (n : Session) (who : Byte), who = (if n.owner = .A then 0 else 1) →
    (∀ v t, n.body = .voice v → v.traffic = some t →
      sessionBytes s n = [who, 0, 1] ++ yesNo v.emergency ++ bytes16 (BitVec.ofNat 16 t.period)
        ++ bytes16 (BitVec.ofNat 16 t.length) ++ bytes32 t.anchor ++ handleOrNone t.record ++ [BitVec.ofNat 8 t.credit]
        ++ bytes32 t.lastRefill ++ bytes16 (BitVec.ofNat 16 v.skipped))
    ∧ (∀ v, n.body = .voice v → v.traffic = none →
      ∃ (period length : Half) (anchor refill : Time) (credit : Byte),
        sessionBytes s n = [who, 0, 0] ++ yesNo v.emergency ++ bytes16 period ++ bytes16 length ++ bytes32 anchor
          ++ handleOrNone none ++ [credit] ++ bytes32 refill ++ bytes16 (BitVec.ofNat 16 v.skipped))
    ∧ ∀ t i, n.body = .text t → (s.core.queue n.owner)[i]? = some n.handle
      → (∀ j, j < i → (s.core.queue n.owner)[j]? ≠ some n.handle) →
      sessionBytes s n = [who, 1, BitVec.ofNat 8 t.state.code, BitVec.ofNat 8 (i + 1), BitVec.ofNat 8 t.total,
          BitVec.ofNat 8 t.done]
        ++ bytes16 (BitVec.ofNat 16 t.length) ++ yesNo t.urgent ++ [BitVec.ofNat 8 t.retries] ++ handleOrNone t.record
        ++ timeOrNone t.deadline ++ timeOrNone t.notBefore ++ yesNo t.late)
  ∧ (∀ (now : Time) (t : CellTable) (slot : Nat),
    (cellAt t.slots slot = none → cellReadBytes now t slot = [BitVec.ofNat 8 (cellCount t.slots), 0])
    ∧ ∀ r, cellAt t.slots slot = some r →
      cellReadBytes now t slot = [BitVec.ofNat 8 (cellCount t.slots), 1] ++ bytes16 r.key.frequency
        ++ bytes16 r.key.identity ++ [if r.role = .serving then 0 else 1, BitVec.ofInt 8 r.offset] ++ yesNo r.barred
        ++ (match r.level with
          | none => [0, 0, 0, 0, 0, 0, 0, BitVec.ofNat 8 r.updates, 0]
          | some l => [1] ++ bytes16 (BitVec.ofInt 16 l.value) ++ bytes32 l.updated ++ [BitVec.ofNat 8 r.updates]
              ++ yesNo (l.staleAt t.stale now))
        ++ timeOrNone r.entry ++ yesNo r.reported)
  ∧ (∀ (e : Env) (c : Core) (x : Sys2Proof.Sub) (i : Nat) (m : ShadowEntry), contextBytes e c x i m =
    [BitVec.ofNat 8 c.rcc.shadow.length, BitVec.ofNat 8 m.entry.device.number, m.entry.register,
        if m.entry.scope = .context then 0 else 1]
      ++ yesNo (decide (c.rcc.tuning = some i))
      ++ (if m.entry.scope = .context then halfOrNone (m.own.get x)
        else halfOrNone m.common ++ halfOrNone m.entry.initial)
      ++ halfOrNone m.live
      ++ (if e.has m.entry.device then
          (match c.power m.entry.device with
            | .off => [0]
            | .rising _ => [1]
            | .on => [2]
            | .falling _ => [3]) ++ yesNo (decide (c.rcc.answering.get m.entry.device = .notAnswering))
        else [0, 0]))
  ∧ ∀ (f : Flags) (stray : Nat), flagBytes f stray =
    yesNo f.satHigh ++ yesNo f.satLow ++ yesNo f.stray ++ yesNo f.overrun ++ bytes16 (BitVec.ofNat 16 stray)

/-! ### Reset and start-up -/

/-- Power-on reset and the rise of RESET_N: every block at its power-on values, then the load begins and the battery lines
pass through their filter (R159, R210, R212); and while RESET_N is held low the part holds its values: only the reset itself,
the rise of RESET_N and the battery pins act (R210; log entry 9). The model's choices: the pins keep their levels through a
reset (log entry 6), a rise of a line that is high has no effect (log entry 7), the counts, outcome and cause of a load that has
not ended (log entry 5), the command queue, kept through a reset (log entry 10), and no transaction in progress after the reset on
any port (log entry 50); with these the reset state holds the values of log entries 2 and 11 that ResetValues names. -/
def Obligations.ResetAndRise : Prop :=
  (∀ s : State, exec .powerOnReset s = .next
    { State.reset with
      env := { State.reset.env with
        warn := ⟨s.env.warn.level, false, none⟩, low := ⟨s.env.low.level, false, none⟩ }
      pending := s.pending })
  ∧ (∀ s : State, s.env.load.phase = .notBegun → exec .resetNRise s = .next
    { s with env := { s.env with
      load := { Load.initial with phase := .reading }
      warn := { s.env.warn with changed := if s.env.warn.level then some s.env.count else none }
      low := { s.env.low with changed := if s.env.low.level then some s.env.count else none } } })
  ∧ (∀ s : State, s.env.load.phase ≠ .notBegun → exec .resetNRise s = .next s)
  ∧ ∀ (c : Instr) (s : State), s.env.load.phase = .notBegun → c ≠ .powerOnReset → c ≠ .resetNRise
    → (∀ line level, c ≠ .battLineChange line level) → exec c s = .next s

/-- The reads of the configuration memory: the signature, the count, the records byte by byte, the end of the load when the
records read reach those stated, and the end DEFAULTS (R212); and what each end hands to the blocks: the image in force, the
shadow map with its COMMON values, and a trigger of the sleep entry evaluation (R127, R128, R214, R215). The model's choices: a
byte read outside a running load changes nothing (log entry 7), and the position stops at 65535 (log entry 40). -/
def Obligations.LoadReads : Prop :=
  (∀ (byte : Option Byte) (s : State), s.env.load.phase ≠ .reading → exec (.configByteRead byte) s = .next s)
  ∧ (∀ (b : Byte) (s : State) (next : Half), s.env.load.phase = .reading
    → next = BitVec.ofNat 16 (min 65535 (s.env.load.position.toNat + 1)) →
    (exec (.configByteRead none) s = .next
      (endDefaults (if s.env.load.position = 0 then .noAnswer else .readFailed) s.env.load s))
    ∧ (s.env.load.position = 0 → b = 0x5A →
      exec (.configByteRead (some b)) s = .next
        { s with env := { s.env with load := { s.env.load with position := 1 } } })
    ∧ (s.env.load.position = 0 → b ≠ 0x5A →
      exec (.configByteRead (some b)) s = .next
        (endDefaults .badSignature { s.env.load with position := 1 } s))
    ∧ (s.env.load.position = 1 → s.env.load.read = 0 → b ≠ 0 →
      exec (.configByteRead (some b)) s = .next
        { s with env := { s.env with load := { s.env.load with position := 2, stated := b.toNat } } })
    ∧ (s.env.load.position = 1 → s.env.load.read = 0 → b = 0 →
      exec (.configByteRead (some b)) s = .next
        (endLoaded { s.env.load with position := 2, stated := 0 } s))
    ∧ (2 ≤ s.env.load.position.toNat → s.env.load.partialRecord.length = 0 →
      exec (.configByteRead (some b)) s = .next
        { s with env := { s.env with load := { s.env.load with position := next, partialRecord := [b] } } })
    ∧ (∀ kind n data, 2 ≤ s.env.load.position.toNat → s.env.load.partialRecord ++ [b] = kind :: n :: data →
      (data.length ≠ n.toNat →
        exec (.configByteRead (some b)) s = .next
          { s with env := { s.env with load := { s.env.load with
            position := next, partialRecord := kind :: n :: data } } })
      ∧ ∀ l, l = ({ s.env.load with position := next } : Load).takeWhole kind data →
        data.length = n.toNat →
        (l.read = l.stated → exec (.configByteRead (some b)) s = .next (endLoaded l s))
        ∧ (l.read ≠ l.stated →
          exec (.configByteRead (some b)) s = .next { s with env := { s.env with load := l } })))
  ∧ (∀ (l : Load) (kind : Byte) (data : List Byte),
    (∀ i n, takeRecord kind data l.working = some (i, n) → l.takeWhole kind data =
      { l with partialRecord := [], read := l.read + 1, working := i, clamps := min 255 (l.clamps + n) })
    ∧ (takeRecord kind data l.working = none → l.takeWhole kind data =
      { l with partialRecord := [], read := l.read + 1, ignored := min 255 (l.ignored + 1) }))
  ∧ (∀ (l : Load) (s : State) (i : Image) (n : Nat), settleImage l.working = (i, n) →
    endLoaded l s = handOver i
      { l with phase := .ended, working := i, clamps := min 255 (l.clamps + n), loaded := true, cause := .none } s)
  ∧ (∀ (cause : LoadCause) (l : Load) (s : State), endDefaults cause l s = handOver Image.default
    { l with phase := .ended, working := Image.default, loaded := false, cause := cause } s)
  ∧ (∀ (i : Image) (l : Load) (s : State), handOver i l s = State.react
    { s with
      env := { s.env with load := l, image := i }
      core := { s.core with rcc := { s.core.rcc with
        shadow := i.map.map fun m => ⟨m, ⟨none, none⟩, if m.scope = .common then m.initial else none, none⟩
        tuning := i.tuning } } }
    fun _ c => { c with evaluate := true })
  ∧ Image.default = ⟨⟨true, true, true, true⟩, ⟨96, 32, 0, 32⟩, 16, 64, 96, 640, true, 2, [], none⟩

/-- What each record does to the working image, and which are ignored: an unknown kind, a known kind of wrong length, and a map
entry that is invalid, already there or beyond 24 CONTEXT or 16 COMMON entries; an initial value given with a CONTEXT entry is
discarded (R126, R213, R220); and how the items that depend on one another are settled at the end (R214). -/
def Obligations.ImageRecords : Prop :=
  (∀ (i : Image) (b : Byte),
    takeRecord 0x01 [b] i = some ({ i with present := ⟨b.getLsbD 0, b.getLsbD 1, b.getLsbD 2, b.getLsbD 3⟩ }, 0)
    ∧ takeRecord 0x03 [b] i = some ({ i with offSettle := min 63 b.toNat }, if b.toNat ≤ 63 then 0 else 1)
    ∧ takeRecord 0x06 [b] i = some ({ i with deepAllowed := decide (b ≠ 0) }, 0)
    ∧ takeRecord 0x07 [b] i = some ({ i with blanking := min 7 b.toNat }, if b.toNat ≤ 7 then 0 else 1)
    ∧ takeRecord 0x09 [b] i = some ({ i with tuning := some (min 39 b.toNat) }, if b.toNat ≤ 39 then 0 else 1))
  ∧ (∀ (i : Image) (a b : Byte) (n : Nat), n = 256 * a.toNat + b.toNat →
    takeRecord 0x04 [a, b] i =
      some ({ i with clockSettle := max 32 (min 1023 n) }, if 32 ≤ n ∧ n ≤ 1023 then 0 else 1))
  ∧ (∀ (i : Image) (a b c d : Byte),
    takeRecord 0x05 [a, b, c, d] i =
      some ({ i with lightThreshold := min 4095 (256 * a.toNat + b.toNat), deepThreshold := 256 * c.toNat + d.toNat },
        if 256 * a.toNat + b.toNat ≤ 4095 then 0 else 1)
    ∧ takeRecord 0x02 [a, b, c, d] i =
      some ({ i with delays :=
          ⟨32 * min 63 a.toNat, 32 * min 63 b.toNat, 32 * min 63 c.toNat, 32 * min 63 d.toNat⟩ },
        [a, b, c, d].countP fun ms => decide (63 < ms.toNat)))
  ∧ (∀ (i : Image) (d : Device) (dev reg : Byte) (hi lo : Byte), dev.toNat = d.number →
    (∀ m ∈ i.map, ¬(m.device = d ∧ m.register = reg)) →
    (((i.map.filter fun m => decide (m.scope = .context)).length < 24 →
      takeRecord 0x08 [dev, reg, 0] i = some ({ i with map := i.map ++ [⟨d, reg, .context, none⟩] }, 0)
      ∧ takeRecord 0x08 [dev, reg, 0, hi, lo] i =
        some ({ i with map := i.map ++ [⟨d, reg, .context, none⟩] }, 0)))
    ∧ ((i.map.filter fun m => decide (m.scope = .common)).length < 16 →
      takeRecord 0x08 [dev, reg, 1] i = some ({ i with map := i.map ++ [⟨d, reg, .common, none⟩] }, 0)
      ∧ takeRecord 0x08 [dev, reg, 1, hi, lo] i =
        some ({ i with map := i.map ++ [⟨d, reg, .common, some (hi ++ lo)⟩] }, 0)))
  ∧ (∀ (i : Image) (dev reg : Byte) (data : List Byte),
    (24 ≤ (i.map.filter fun m => decide (m.scope = .context)).length → takeRecord 0x08 (dev :: reg :: 0 :: data) i = none)
    ∧ (16 ≤ (i.map.filter fun m => decide (m.scope = .common)).length →
      takeRecord 0x08 (dev :: reg :: 1 :: data) i = none))
  ∧ (∀ (i : Image) (kind : Byte) (data : List Byte),
    (kind.toNat ∈ [0x01, 0x03, 0x06, 0x07, 0x09] → data.length ≠ 1 → takeRecord kind data i = none)
    ∧ (kind.toNat = 0x04 → data.length ≠ 2 → takeRecord kind data i = none)
    ∧ (kind.toNat = 0x02 ∨ kind.toNat = 0x05 → data.length ≠ 4 → takeRecord kind data i = none)
    ∧ (kind.toNat = 0x08 → data.length ≠ 3 → data.length ≠ 5 → takeRecord kind data i = none))
  ∧ (∀ (i : Image) (dev reg scope : Byte) (data : List Byte), (3 < dev.toNat ∨ 1 < scope.toNat
      ∨ i.map.any (fun m => decide (m.device.number = dev.toNat) && decide (m.register = reg)) = true) →
    takeRecord 0x08 (dev :: reg :: scope :: data) i = none)
  ∧ (∀ (i : Image) (kind : Byte) (data : List Byte), kind.toNat = 0 ∨ 9 < kind.toNat → takeRecord kind data i = none)
  ∧ ∀ i : Image,
    (settleImage i).1.lightThreshold = max (i.offSettle + 4) i.lightThreshold
    ∧ (settleImage i).2 = (if i.lightThreshold < i.offSettle + 4 then 1 else 0)
    ∧ ∀ n, (settleImage i).1.tuning = some n ↔
      i.tuning = some n ∧ ∃ m, i.map[n]? = some m ∧ m.device = .transceiver ∧ i.present.d0 = true

/-- COORDINATOR_RESET answers with both stack states before it (R217). It tears each ATTACHED stack down, A and then B, leaves both
DETACHED, and then returns the RF side, the sleep state, the flags, the counts and the queues to their starting values; what the
teardowns leave stands otherwise. Of a stack that was ATTACHED nothing is left: no reservation, session, text, cell, context value,
bridge transaction or measurement window, the handover and search records and the parameters at their first values; and by the law
of stacks that are not ATTACHED, no reservation, session, queue, view or preparation is left at all. A transfer in flight goes on
and has no effect. Every present device that was RISING or ON goes FALLING, one that was OFF or FALLING is left as it was, and
RX_EN and TX_EN are low; the handle generations, the band and SUB_SEL are kept (R11, R33, R85, R86, R147, R155, R163, R205, R216).
That no teardown of the reset raises a device is read from the manual by inference (log entry 54). That the lines are high only
with a window ACTIVE (R33), that a stack that is not ATTACHED owns nothing and that handles differ are laws every step keeps
(StepKeepsUnattachedLaw, StepKeepsTableLaw). -/
def Obligations.CoordinatorReset : Prop :=
  (∀ (seq : Byte) (s : State), Ready s .app →
    exec (.coordinatorReset .app seq) s = .next
      ((State.react { s with
          env := { s.env with alert := false }
          links := ⟨{ s.links.a with crcErrors := 0 }, { s.links.b with crcErrors := 0 },
            { s.links.p with crcErrors := 0 }⟩ } resetBlocks).replied .app seq
        [BitVec.ofNat 8 (s.core.ssv.get .A).state.code, BitVec.ofNat 8 (s.core.ssv.get .B).state.code]))
  ∧ (∀ (e : Env) (c t awake a b : Core), awake = { c with psc := { c.psc with sleep := .awake } }
    → a = (if c.attached .A = true then teardown e .A .detached awake else
        { awake with ssv := awake.ssv.set .A ⟨.detached, none⟩ })
    → b = (if c.attached .B = true then teardown e .B .detached a else { a with ssv := a.ssv.set .B ⟨.detached, none⟩ })
    → resetBlocks e c = t →
    t.tla = b.tla ∧ t.smg = b.smg ∧ t.hoe = b.hoe ∧ t.csc = b.csc ∧ t.msu.view = b.msu.view
    ∧ (∀ x, t.cells x = { b.cells x with flags := ⟨false, false, false, false⟩ })
    ∧ t.rcc.view = b.rcc.view ∧ t.rcc.prep = b.rcc.prep ∧ t.rcc.bridges = b.rcc.bridges ∧ t.rcc.tuning = c.rcc.tuning
    ∧ t.rcc.shadow = b.rcc.shadow.map fun m =>
      { m with live := none, common := if m.entry.scope = .common then m.entry.initial else m.common })
  ∧ (∀ (e : Env) (c t : Core) (x : Sys2Proof.Sub), resetBlocks e c = t → c.attached x = true →
    (∀ r ∈ t.tla.table, r.owner ≠ x) ∧ (∀ r, some r ∈ t.smg.sessions → r.owner ≠ x)
    ∧ t.queue x = [] ∧ t.smg.missed.get x = ⟨0, false⟩
    ∧ t.cells x = ⟨List.replicate 12 none, 2, 81920, ⟨false, false, false, false⟩⟩
    ∧ t.hoe.get x = ⟨6, 10240, -110, 32000, .clear, none⟩ ∧ t.csc.get x = ⟨.noCell, .idle, 0, 0, 0, false⟩
    ∧ (∀ v ∈ t.msu.view, v.owner ≠ x) ∧ (t.bridge x).queue = [] ∧ ∀ m ∈ t.rcc.shadow, m.own.get x = none)
  ∧ (∀ (e : Env) (c t : Core), c.TableLaw → c.UnattachedLaw → resetBlocks e c = t →
    t.tla.table = [] ∧ (∀ o ∈ t.smg.sessions, o = none) ∧ t.smg.queues = ⟨[], []⟩
    ∧ (∀ x, (t.bridge x).queue = []) ∧ (∀ m ∈ t.rcc.shadow, m.own = ⟨none, none⟩)
    ∧ t.rcc.view = none ∧ t.rcc.prep = none ∧ t.tla.rxEn = false ∧ t.tla.txEn = false)
  ∧ ∀ (e : Env) (c t : Core), resetBlocks e c = t →
    (∀ x, t.ssv.get x = ⟨.detached, none⟩)
    ∧ (∀ port, t.pif.get port = ⟨[], 0⟩) ∧ t.notices = []
    ∧ (t.rcc.bus = none ↔ c.rcc.bus = none) ∧ (∀ q ∈ t.rcc.bus, q.void = true)
    ∧ (∀ m ∈ t.rcc.shadow, m.live = none ∧ (m.entry.scope = .common → m.common = m.entry.initial))
    ∧ t.rcc.replay = [] ∧ (∀ d, t.rcc.answering.get d = .answering) ∧ t.rcc.poweredSince = false
    ∧ t.rcc.lastServed = .B
    ∧ t.psc.sleep = .awake ∧ t.psc.consent = ⟨false, false⟩ ∧ t.psc.stayAwake = false
    ∧ (∀ d, e.has d = true →
      (t.power d = .off ∨ ∃ u, t.power d = .falling u)
      ∧ ((c.power d = .on ∨ ∃ u, c.power d = .rising u) → t.power d = .falling (e.count + tu e.image.offSettle))
      ∧ ((c.power d = .off ∨ ∃ u, c.power d = .falling u) → t.power d = c.power d))
    ∧ (c.TableLaw → (c.tla.rxEn = false ∧ c.tla.txEn = false
        ∨ ∃ r ∈ c.tla.table, r.state = .active ∧ c.attached r.owner = true) →
      t.tla.rxEn = false ∧ t.tla.txEn = false)
    ∧ (∀ x, (t.cells x).flags = ⟨false, false, false, false⟩) ∧ t.msu.stray = 0
    ∧ t.tla.generations = c.tla.generations ∧ t.smg.generations = c.smg.generations
    ∧ t.tla.band = c.tla.band ∧ t.tla.subSel = c.tla.subSel

/-! ### The radio timeline -/

/-- A RESERVE that passes its checks creates its record by the placement, and answers with the handle and the placed start;
a placement that fails creates none and is answered TABLE_FULL, TOO_LATE or CONFLICT, a PAGE refused after a refused
tune-away being told to the Session Manager (R12, R22, R37). What a RESERVE is refused for before any placement, and in which
order: BAD_PARAM by the conditions of R37, then NO_SESSION, then SUPPLY_LOW. -/
def Obligations.ReserveCreates : Prop :=
  (∀ (x : Sys2Proof.Sub) (seq cls : Byte) (emergency : Bool) (desired : Time) (slack length frequency : Half) (band : Byte)
    (period : BitVec 32) (count : Half) (session : Option Handle) (cells : List CellKey) (s s1 : State), Acts s x
    → s1 = restartMonitor (.stack x) s →
    (reservable (Class.ofCode cls) = none →
      exec (.reserve (.stack x) seq cls emergency desired slack length frequency band period count session cells) s =
        .next (s1.turnedAway (.stack x) seq .badParam))
    ∧ ∀ k bad, reservable (Class.ofCode cls) = some k
      → bad = badReserve s.env.count k emergency desired (min 16383 slack.toNat) length.toNat band period.toNat session
        cells →
      (bad = true →
        exec (.reserve (.stack x) seq cls emergency desired slack length frequency band period count session cells) s =
          .next (s1.turnedAway (.stack x) seq .badParam))
      ∧ (bad = false → badSession s.core x session = true →
        exec (.reserve (.stack x) seq cls emergency desired slack length frequency band period count session cells) s =
          .next (s1.turnedAway (.stack x) seq .noSession))
      ∧ (bad = false → badSession s.core x session = false → k = .access → emergency = false → s.env.supply = .low →
        exec (.reserve (.stack x) seq cls emergency desired slack length frequency band period count session cells) s =
          .next (s1.turnedAway (.stack x) seq .supplyLow)))
  ∧ (∀ cls : Byte, (reservable (Class.ofCode cls) = some .access ↔ cls = 0)
    ∧ (reservable (Class.ofCode cls) = some .page ↔ cls = 2) ∧ (reservable (Class.ofCode cls) = some .measure ↔ cls = 4)
    ∧ (reservable (Class.ofCode cls) = none ↔ cls ≠ 0 ∧ cls ≠ 2 ∧ cls ≠ 4))
  ∧ (∀ (now : Time) (k : Sys2Proof.Machine.Class) (emergency : Bool) (desired : Time) (slack length : Nat) (band : Byte)
      (period : Nat) (session : Option Handle) (cells : List CellKey),
    badReserve now k emergency desired slack length band period session cells = true ↔
      (emergency = true ∧ k ≠ .access) ∨ length < 8 ∨ 7 < band.toNat
      ∨ (atOrAfter desired (now + 16777216) = true ∧ before desired now = false)
      ∨ (period ≠ 0 ∧ (period < length + slack + 4 ∨ 4194304 < period))
      ∨ (k = .measure ∧ (cells = [] ∨ 4 < cells.length)) ∨ (k ≠ .measure ∧ cells ≠ [])
      ∨ (∃ key ∈ cells, 1023 < key.identity.toNat) ∨ (session ≠ none ∧ k ≠ .access))
  ∧ (∀ (c : Core) (x : Sys2Proof.Sub) (session : Option Handle), badSession c x session = true ↔
      ∃ h, session = some h ∧ ∀ n v, c.session h = some n → n.body = .voice v → n.owner ≠ x)
  ∧ ∀ (x : Sys2Proof.Sub) (seq cls : Byte) (emergency : Bool) (desired : Time) (slack length frequency : Half) (band : Byte)
    (period : BitVec 32) (count : Half) (session : Option Handle) (cells : List CellKey) (s : State)
    (k : Sys2Proof.Machine.Class) (r : Reservation) (c : Core),
    Acts s x → reservable (Class.ofCode cls) = some k
    → badReserve s.env.count k emergency desired (min 16383 slack.toNat) length.toNat band period.toNat session cells = false
    → badSession s.core x session = false
    → (k = .access → emergency = false → s.env.supply ≠ .low)
    → r = { newRecord x k desired (min 16383 slack.toNat) length.toNat frequency (band.setWidth 3) with
        emergency := emergency
        repeats := if period.toNat = 0 then none else some ⟨period.toNat, min 255 count.toNat⟩
        session := session
        cells := cells } →
    (∀ h t, createRecord s.env r (restartMonitor (.stack x) s).core = (c, .created h t) →
      exec (.reserve (.stack x) seq cls emergency desired slack length frequency band period count session cells) s =
        .next (((restartMonitor (.stack x) s).setCore c).settled.replied (.stack x) seq
          ([h.index, h.generation] ++ bytes32 t)))
    ∧ (createRecord s.env r (restartMonitor (.stack x) s).core = (c, .tableFull) →
      exec (.reserve (.stack x) seq cls emergency desired slack length frequency band period count session cells) s =
        .next ((restartMonitor (.stack x) s).turnedAway (.stack x) seq .tableFull))
    ∧ (createRecord s.env r (restartMonitor (.stack x) s).core = (c, .tooLate) →
      exec (.reserve (.stack x) seq cls emergency desired slack length frequency band period count session cells) s =
        .next (((restartMonitor (.stack x) s).setCore c).settled.turnedAway (.stack x) seq .tooLate))
    ∧ ∀ refused, createRecord s.env r (restartMonitor (.stack x) s).core = (c, .conflict refused) →
      exec (.reserve (.stack x) seq cls emergency desired slack length frequency band period count session cells) s =
        .next (((restartMonitor (.stack x) s).setCore
          (if k = .page ∧ refused = true then c.tell (.pageLost x) else c)).settled.turnedAway (.stack x) seq .conflict)

/-- The first pass takes the earliest candidate whose span overlaps no GRANTED, PREPARING or ACTIVE occurrence; the new
occurrence is placed there as GRANTED, with every occurrence of the table left in it; with no such candidate the second pass
runs (R18). An occurrence placed at now + 4 is PREPARING from that moment, by R28. A record
that is SEEKING, which is the state the model gives a repeating record between two of its occurrences within a placement run (log
entry 23), has no occurrence that could be overlapped. -/
def Obligations.FirstPassEarliest : Prop :=
  ∀ (e : Env) (r : Reservation) (c : Core) (first : Time) (n : Nat),
    candidates e.count r.desired r.slack = some (first, n) →
    (∀ k, k < n → (∀ q ∈ c.tla.table, q.state = .seeking ∨ q.overlaps (first + tu k) r.length = false)
      → (∀ j, j < k → ∃ q ∈ c.tla.table, q.state ≠ .seeking ∧ q.overlaps (first + tu j) r.length = true) →
      choose e r c = (c, .start (first + tu k))
      ∧ ∀ h d made, roomFor c r.owner = true → newHandle c.tla = h → createRecord e r c = (d, made) →
        (∃ q, d.reservation h = some q ∧ q.start = first + tu k
          ∧ (first + tu k ≠ e.count + 4 → q.state = .granted) ∧ (first + tu k = e.count + 4 → q.state = .preparing))
        ∧ ∀ q ∈ c.tla.table, q ∈ d.tla.table)
    ∧ ((∀ j, j < n → ∃ q ∈ c.tla.table, q.state ≠ .seeking ∧ q.overlaps (first + tu j) r.length = true) →
      choose e r c = secondPass e r first n c)

/-- The second pass of a record of any class takes the earliest candidate that needs no consultation before any that asks for
one, and fails as conflict when there is neither; what a candidate's verdict is (R17, R19); and the table of effective
priorities (R16). A SEEKING record, the model's own state of a repeating record between two occurrences (log entry 23), overlaps
nothing. -/
def Obligations.SecondPassEarliest : Prop :=
  (∀ (e : Env) (r : Reservation) (c : Core) (first : Time) (n : Nat),
    candidates e.count r.desired r.slack = some (first, n)
    → (∀ j, j < n → overlapped c.tla.table (first + tu j) r.length ≠ []) →
    (∀ k, k < n → verdict e c.tla.table r false (first + tu k) = .yes
      → (∀ j, j < k → verdict e c.tla.table r false (first + tu j) = .no) → choose e r c = (c, .start (first + tu k)))
    ∧ ((∀ k, k < n → verdict e c.tla.table r false (first + tu k) = .no) → choose e r c = (c, .conflict false)))
  ∧ (∀ (e : Env) (table : List Reservation) (r : Reservation) (refused : Bool) (t : Time),
    (verdict e table r refused t = .yes ↔ ∀ v ∈ overlapped table t r.length,
      v.state = .granted ∧ tuneAwayCase r v = false ∧ priority e v < priority e r)
    ∧ (verdict e table r refused t = .ask ↔ refused = false
      ∧ (∃ v ∈ overlapped table t r.length, tuneAwayCase r v = true)
      ∧ ∀ v ∈ overlapped table t r.length,
        v.state = .granted ∧ (tuneAwayCase r v = false → priority e v < priority e r)))
  ∧ (∀ r v : Reservation, tuneAwayCase r v = true ↔
    r.cls = .page ∧ v.cls = .voice ∧ v.owner ≠ r.owner ∧ v.emergency = false)
  ∧ (∀ (table : List Reservation) (t : Time) (length : Nat) (v : Reservation), v ∈ overlapped table t length ↔
    v ∈ table ∧ v.state ≠ .seeking
      ∧ before t (v.start + tu (v.length + 4)) = true ∧ before v.start (t + tu (length + 4)) = true)
  ∧ ∀ (e : Env) (r : Reservation) (plus : Nat), plus = (if e.policy.preferred = some r.owner then 1 else 0) →
    ((r.cls = .access ∨ r.cls = .voice) → r.emergency = true → priority e r = 14 + plus)
    ∧ (r.cls = .access → r.emergency = false → priority e r = 12 + plus)
    ∧ (r.cls = .voice → r.emergency = false → priority e r = 10 + plus)
    ∧ (r.cls = .page → priority e r = 8 + plus)
    ∧ (r.cls = .text → r.urgent = true → priority e r = 6 + plus)
    ∧ (r.cls = .text → r.urgent = false → priority e r = 4 + plus)
    ∧ (r.cls = .measure → priority e r = 2 + plus)
    ∧ (r.cls = .search → priority e r = plus)

/-- The tune-away rule: the stored credit is brought up to date, and then a unit is spent and the owner of the call is told
with the values of R45, or the rule refuses (R50); a change of policy brings the credit up to date by the old values and takes
the new (R51); and a placement asks the rule once, at the first candidate at which the call alone is left to decide, and after a
refusal takes the next candidate that needs no consultation (R19). The model's choices: a last refill after now gives negative
steps and leaves the credit at 0 or above (log entry 26), and a call whose VOICE record is being placed refuses (log entry
42). -/
def Obligations.TuneAwayConsulted : Prop :=
  (∀ (e : Env) (t : Time) (length : Nat) (c : Core),
    (c.voiceSession = none ∨ (∃ n v, c.voiceSession = some (n, v) ∧ v.traffic = none) →
      consultTuneAway e t length c = (c, false))
    ∧ ∀ (n : Session) (v : Voice) (tr : Traffic) (q : Int) (k : Nat) (last : Time),
      c.voiceSession = some (n, v) → v.traffic = some tr
      → q = Int.fdiv (e.count - tr.lastRefill).toInt e.policy.refill
      → k = (min (e.policy.creditMax : Int) (tr.credit + q)).toNat
      → last = (if k = e.policy.creditMax then e.count else tr.lastRefill + BitVec.ofInt 32 (q * e.policy.refill)) →
      (1 ≤ k → consultTuneAway e t length c =
        (post e (.stack n.owner)
          ⟨.tuneAway, .session n.owner n.handle, t, value16 (k - 1), value16 length⟩
          (c.setTraffic n.handle { tr with credit := k - 1, lastRefill := last }), true))
      ∧ (k = 0 → consultTuneAway e t length c =
        (c.setTraffic n.handle { tr with credit := 0, lastRefill := last }, false)))
  ∧ (∀ (now : Time) (was will : Policy) (c : Core),
    (was.creditMax = will.creditMax → was.refill = will.refill → creditPolicy now was will c = c)
    ∧ (c.voiceSession = none → creditPolicy now was will c = c)
    ∧ ∀ (n : Session) (v : Voice), c.voiceSession = some (n, v) →
      (v.traffic = none → creditPolicy now was will c = c)
      ∧ ∀ (tr : Traffic) (q : Int) (k : Nat), v.traffic = some tr
        → was.creditMax ≠ will.creditMax ∨ was.refill ≠ will.refill
        → q = Int.fdiv (now - tr.lastRefill).toInt was.refill
        → k = (min (was.creditMax : Int) (tr.credit + q)).toNat →
        creditPolicy now was will c = c.setTraffic n.handle { tr with
          credit := min k will.creditMax
          lastRefill := if will.creditMax ≤ k ∨ k = was.creditMax then now
            else tr.lastRefill + BitVec.ofInt 32 (q * was.refill) })
  ∧ ∀ (e : Env) (r : Reservation) (c c' : Core) (first : Time) (n k : Nat),
    candidates e.count r.desired r.slack = some (first, n)
    → (∀ j, j < n → overlapped c.tla.table (first + tu j) r.length ≠ [])
    → k < n → verdict e c.tla.table r false (first + tu k) = .ask
    → (∀ j, j < k → verdict e c.tla.table r false (first + tu j) = .no) →
    (consultTuneAway e (first + tu k) r.length c = (c', true) → choose e r c = (c', .start (first + tu k)))
    ∧ (consultTuneAway e (first + tu k) r.length c = (c', false) →
      (∀ m, k < m → m < n → verdict e c'.tla.table r true (first + tu m) = .yes
        → (∀ j, k < j → j < m → verdict e c'.tla.table r true (first + tu j) ≠ .yes) →
        choose e r c = (c', .start (first + tu m)))
      ∧ ((∀ j, k < j → j < n → verdict e c'.tla.table r true (first + tu j) ≠ .yes) →
        choose e r c = (c', .conflict true)))

/-- A creation: without room none; with room its start is the placement's, the victims are removed, the record takes the lowest
free index with that index's generation raised by one, and the victims' next occurrences are sought (R11, R12, R18 to R22). A
placed occurrence is GRANTED in the table's order, without marks, and a repeats-remaining field that is not 0 is reduced by one,
which at 0 leaves the record one-shot (R12, R13, R24). The candidates are the starts from the later of the desired start and
now + 4 through desired start + slack, and none, too late, when desired start + slack is before now + 4 (R17), whatever the desired
start. That the index is chosen after the one-shot victims have been freed is read from the manual by inference (log entry
22); the bound of 1024 searches on a run, which ends by itself, is the model's own (log entry 24), and between its occurrences a
repeating record is SEEKING, a state of the model's own (log entry 23). -/
def Obligations.PlacementGrants : Prop :=
  (∀ (e : Env) (r : Reservation) (c : Core),
    (roomFor c r.owner = false → createRecord e r c = (c, .tableFull))
    ∧ (roomFor c r.owner = true →
      (∀ d, choose e r c = (d, .tooLate) → createRecord e r c = (d, .tooLate))
      ∧ (∀ d refused, choose e r c = (d, .conflict refused) → createRecord e r c = (d, .conflict refused))
      ∧ ∀ d t victims removed, choose e r c = (d, .start t) → victims = overlapped d.tla.table t r.length
        → removed = victims.foldl (removeVictim e) d →
        createRecord e r c =
          (seekAll e 1024 ((victims.filter fun q => q.repeats.isSome).map fun q => ⟨q.handle, true⟩)
            (placeAt e { r with handle := newHandle removed.tla } t (removed.takeHandle (newHandle removed.tla))),
            .created (newHandle removed.tla) t))
    ∧ ∀ first n, roomFor c r.owner = true → candidates e.count r.desired r.slack = some (first, n)
      → overlapped c.tla.table first r.length = [] →
      createRecord e r c =
        (placeAt e { r with handle := newHandle c.tla } first (c.takeHandle (newHandle c.tla)),
          .created (newHandle c.tla) first))
  ∧ (∀ (e : Env) (r : Reservation) (t : Time) (c : Core),
    placeAt e r t c =
      (if t = e.count + 4 then askPreparation e r.handle (tableNotice e (c.putRecord (r.grant t)))
        else tableNotice e (c.putRecord (r.grant t)))
    ∧ (t ≠ e.count + 4 →
      (placeAt e r t c).tla.table =
        insertByStart (r.grant t) (c.tla.table.filter fun q => decide (q.handle ≠ r.handle))
      ∧ (placeAt e r t c).smg = c.smg ∧ (placeAt e r t c).pif = c.pif))
  ∧ (∀ (r : Reservation) (t : Time),
    (r.grant t).start = t ∧ (r.grant t).state = .granted ∧ (r.grant t).late = false ∧ (r.grant t).degraded = false
    ∧ (r.grant t).handle = r.handle ∧ (r.grant t).staged = r.staged ∧ (r.grant t).lost = r.lost
    ∧ (r.repeats = none → (r.grant t).repeats = none)
    ∧ ∀ p, r.repeats = some p →
      (p.remaining = 0 → (r.grant t).repeats = some p)
      ∧ (p.remaining = 1 → (r.grant t).repeats = none)
      ∧ (2 ≤ p.remaining → (r.grant t).repeats = some ⟨p.period, p.remaining - 1⟩))
  ∧ (∀ (c : Core) (x : Sys2Proof.Sub) (h : Handle), roomFor c x = true → newHandle c.tla = h →
    h.index.toNat < 48
    ∧ (∀ r ∈ c.tla.table, r.handle.index.toNat ≠ h.index.toNat)
    ∧ (∀ j, j < h.index.toNat → ∃ r ∈ c.tla.table, r.handle.index.toNat = j)
    ∧ h.generation = (c.tla.generations[h.index.toNat]?).getD 0 + 1)
  ∧ ∀ (now desired first : Time) (slack : Nat), slack ≤ 16383
    → first = (if atOrAfter desired (now + 4) then desired else now + 4) →
    (∀ (e : Env) (r : Reservation) (c : Core), candidates e.count r.desired r.slack = none → choose e r c = (c, .tooLate))
    ∧ (before (desired + tu slack) (now + 4) = true → candidates now desired slack = none)
    ∧ (before (desired + tu slack) (now + 4) = false →
      ∃ n, candidates now desired slack = some (first, n) ∧ 1 ≤ n ∧ n ≤ slack + 1
        ∧ ∀ t, (∃ k, k < n ∧ t = first + tu k) ↔
          (atOrAfter t first = true ∧ atOrAfter (desired + tu slack) t = true))

/-- What a placement run does to the records it meets: a victim loses its occurrence or ends PREEMPTED (R20); each record's next
occurrence is sought before the next record's, its own victims' before both (R21); a record at 8 losses in a row ends STARVED
(R24), a MEASURE occurrence of odd index is thinned outside NORMAL supply (R26), an occurrence with no place is skipped (R25);
and a call's cadence is shifted (R27). How a record ends, and who is told (R14, R15, R20, R23, R25, R36, R138).
A repeating record whose occurrence has been removed is SEEKING until the run has placed its next one, a state of the model's own
(log entry 23), and the bound of 1024 searches on a run is the model's too (log entry 24). That a preempted or STARVED end, and the
staged writes killed with it, are reported also where a request on the owner's own port has caused them is the model's choice (log
entry 60). -/
def Obligations.NextOccurrences : Prop :=
  (∀ (e : Env) (c : Core) (r : Reservation),
    (r.repeats = none → removeVictim e c r = tellLost r (endRecord e .preempted true r c))
    ∧ ∀ r1, r.repeats.isSome = true → r1 = { r with state := .seeking, lost := min 8 (r.lost + 1) } →
      removeVictim e c r = tableNotice e (tellLost r
        (post e (.stack r.owner)
          ⟨.occurrenceLost, .reservation r.owner r.handle, r.desired, value16 0, value16 r1.lost⟩ (c.putRecord r1))))
  ∧ (∀ (e : Env) (c : Core) (r : Reservation),
    (r.repeats = none → skipOccurrence e r c = tellSkipped r (endRecord e .starved true r c))
    ∧ ∀ r1, r.repeats.isSome = true → r1 = { r with state := .seeking, lost := min 8 (r.lost + 1) } →
      skipOccurrence e r c = tellSkipped r
        (post e (.stack r.owner)
          ⟨.occurrenceLost, .reservation r.owner r.handle, r.desired, value16 1, value16 r1.lost⟩ (c.putRecord r1)))
  ∧ (∀ (r : Reservation) (c : Core),
    (r.cls = .page → tellLost r c = { c with notices := c.notices ++ [.pageLost r.owner] })
    ∧ (r.cls = .search → tellLost r c =
      { c with notices := c.notices ++ [.searchLost r.owner r.handle (r.start + tu r.length)] })
    ∧ (r.cls ≠ .page → r.cls ≠ .search → tellLost r c = c)
    ∧ (∀ h, r.cls = .voice → r.session = some h →
      tellSkipped r c = { c with notices := c.notices ++ [.voiceSkipped h] })
    ∧ ((r.cls ≠ .voice ∨ r.session = none) → tellSkipped r c = tellLost r c))
  ∧ (∀ (e : Env) (reason : EndReason) (reported : Bool) (r : Reservation) (c c1 c2 c3 : Core),
    c1 = { c with tla := { c.tla with table := c.tla.table.filter fun q => decide (q.handle ≠ r.handle) } }
    → c2 = (if reported = true then
        post e (.stack r.owner)
          ⟨.reservationEnded, .reservation r.owner r.handle, e.count, value16 reason.code, value16 r.cls.code⟩ c1
      else c1)
    → c3 = (if reported = true ∧ r.staged ≠ [] ∧ (r.state = .granted ∨ reason = .starved) then
        post e (.stack r.owner)
          ⟨.stagedKilled, .reservation r.owner r.handle, e.count, value16 r.staged.length, value16 r.cls.code⟩ c2
      else c2) →
    endRecord e reason reported r c = { tableNotice e { c3 with notices := c3.notices ++
      [.recordEnded r.handle r.owner r.cls (some reason) r.session (r.start + tu r.length)] } with evaluate := true })
  ∧ (∀ (e : Env) (h : Handle) (onward : Bool) (c : Core),
    (c.reservation h = none → seekOne e ⟨h, onward⟩ c = (c, []))
    ∧ ∀ r r1, c.reservation h = some r
      → r1 = (match onward, r.repeats with
        | false, _ => { r with slack := 0 }
        | true, none => r
        | true, some p => { r with occIndex := r.occIndex + 1, desired := r.desired + tu p.period }) →
      (8 ≤ r.lost → seekOne e ⟨h, onward⟩ c = (endRecord e .starved true r c, []))
      ∧ (r.lost < 8 → r.cls = .measure ∧ r1.occIndex.toNat % 2 = 1 ∧ e.supply ≠ .normal →
        seekOne e ⟨h, onward⟩ c = (c.putRecord r1, [⟨h, true⟩]))
      ∧ (r.lost < 8 → ¬(r.cls = .measure ∧ r1.occIndex.toNat % 2 = 1 ∧ e.supply ≠ .normal) →
        (∀ d t victims, choose e r1 c = (d, .start t) → victims = overlapped d.tla.table t r.length →
          seekOne e ⟨h, onward⟩ c =
            (placeAt e r1 t (victims.foldl (removeVictim e) d),
              (victims.filter fun q => q.repeats.isSome).map fun q => ⟨q.handle, true⟩))
        ∧ ∀ d how, choose e r1 c = (d, how) → (∀ t, how ≠ .start t) →
          seekOne e ⟨h, onward⟩ c = (skipOccurrence e r1 d, if r.repeats.isSome = true then [⟨h, true⟩] else [])))
  ∧ (∀ (e : Env) (n : Nat) (td : Todo) (rest first : List Todo) (c d : Core),
    seekAll e n [] c = c ∧ (seekOne e td c = (d, first) → seekAll e (n + 1) (td :: rest) c = seekAll e n (first ++ rest) d))
  ∧ ∀ (e : Env) (h : Handle) (by_ : Time) (c : Core),
    (c.reservation h = none → shiftCadence e h by_ c = c)
    ∧ ∀ r, c.reservation h = some r →
      (r.state = .granted → shiftCadence e h by_ c =
        seekAll e 1024 [⟨h, false⟩] (tableNotice e
          ((c.editReservation h fun q => { q with desired := q.desired + by_ }).editReservation h fun q =>
            { q with state := .seeking })))
      ∧ (r.state ≠ .granted → shiftCadence e h by_ c =
        c.editReservation h fun q => { q with desired := q.desired + by_ })

/-- WITHDRAW ends one of the owner's own records silently (R34, R38), and STAGE appends a write to the list of one whose
occurrence is GRANTED (R36, R39). Both refuse a handle that names nothing and another subscription's record; WITHDRAW refuses the
records of calls, texts and searches; STAGE refuses a device that is not present, then an occurrence that is not GRANTED, then a
fifth write (R38, R39). What drops a preparation: its record is closed, its transfer in flight is marked to report and
mark nothing (TransferEnds), and the view of its window closes (R131, R137); and which heads are examined when a view closes, the
other stack's first (R131, R140, R142): the order, and that the owner's is examined too, are read from the manual by inference
(log entry 15). That a view which shows another window stands when this one ends is read from the manual by inference, against the
letter of R131's table (log entry 25). -/
def Obligations.WithdrawAndStage : Prop :=
  (∀ (x : Sys2Proof.Sub) (seq : Byte) (h : Handle) (c : Instr) (s s1 : State), Acts s x → s1 = restartMonitor (.stack x) s
    → (c = .withdraw (.stack x) seq h ∨ ∃ device register value, c = .stage (.stack x) seq h device register value) →
    (s.core.reservation h = none → exec c s = .next (s1.turnedAway (.stack x) seq .noSuch))
    ∧ ∀ r, s.core.reservation h = some r → r.owner ≠ x → exec c s = .next (s1.turnedAway (.stack x) seq .notOwner))
  ∧ (∀ (x : Sys2Proof.Sub) (seq : Byte) (h : Handle) (r : Reservation) (s s1 : State), Acts s x
    → s1 = restartMonitor (.stack x) s → s.core.reservation h = some r → r.owner = x →
    (r.cls = .voice ∨ r.cls = .text ∨ r.cls = .search →
      exec (.withdraw (.stack x) seq h) s = .next (s1.turnedAway (.stack x) seq .notPermitted))
    ∧ ∀ (device register : Byte) (value : Half),
      ((∀ d, Device.ofByte device = some d → s.env.has d = false) →
        exec (.stage (.stack x) seq h device register value) s = .next (s1.turnedAway (.stack x) seq .badParam))
      ∧ ∀ d, Device.ofByte device = some d → s.env.has d = true → r.state = .granted → 4 ≤ r.staged.length →
        exec (.stage (.stack x) seq h device register value) s = .next (s1.turnedAway (.stack x) seq .tableFull))
  ∧ (∀ (b : Byte) (d : Device), Device.ofByte b = some d ↔ b.toNat = d.number)
  ∧ (∀ (x : Sys2Proof.Sub) (seq : Byte) (h : Handle) (r : Reservation) (s : State), Acts s x
    → s.core.reservation h = some r → r.owner = x →
    (r.cls = .access ∨ r.cls = .page ∨ r.cls = .measure →
      exec (.withdraw (.stack x) seq h) s = .next
        (((restartMonitor (.stack x) s).react fun e c => withdrawRecord e .withdrawn false r c).replied (.stack x) seq []))
    ∧ ∀ (device register : Byte) (value : Half) (d : Device), Device.ofByte device = some d → s.env.has d = true →
      (r.state = .granted → r.staged.length < 4 →
        exec (.stage (.stack x) seq h device register value) s = .next
          (((restartMonitor (.stack x) s).setCore
            { (restartMonitor (.stack x) s).core with tla := { s.core.tla with
              table := s.core.tla.table.map fun q =>
                if q.handle = h then { q with staged := q.staged ++ [⟨d, register, value⟩] } else q } }).replied (.stack x)
            seq [BitVec.ofNat 8 (r.staged.length + 1)]))
      ∧ (r.state ≠ .granted →
        exec (.stage (.stack x) seq h device register value) s = .next
          ((restartMonitor (.stack x) s).turnedAway (.stack x) seq .tooLate)))
  ∧ (∀ (e : Env) (reason : EndReason) (reported : Bool) (r : Reservation) (c : Core),
    (withdrawRecord e reason reported r c).reservation r.handle = none
    ∧ (r.state = .granted → (withdrawRecord e reason false r c).pif = c.pif
      ∧ (withdrawRecord e reason false r c).rcc = c.rcc
      ∧ (withdrawRecord e reason false r c).tla =
        { c.tla with table := c.tla.table.filter fun q => decide (q.handle ≠ r.handle) }))
  ∧ (∀ (e : Env) (h : Handle) (c : Core),
    ((∀ p ∈ c.rcc.prep, p.handle ≠ h) → dropPreparation e h c = { viewNone e h c with evaluate := true })
    ∧ ∀ p, c.rcc.prep = some p → p.handle = h → dropPreparation e h c =
      { viewNone e h { c with rcc := { c.rcc with
          prep := none
          bus := c.rcc.bus.map fun t => if t.cause = .preparation then { t with dropped := true } else t } } with
        evaluate := true })
  ∧ (∀ (e : Env) (h : Handle) (c : Core),
    ((∀ v ∈ c.rcc.view, v.handle ≠ h) → viewNone e h c = c)
    ∧ ∀ v closed other, c.rcc.view = some v → v.handle = h → closed = { c with rcc := { c.rcc with view := none } }
      → other = (if closed.headExaminable v.owner.other then examine e v.owner.other closed else closed) →
      viewNone e h c = if other.headExaminable v.owner then examine e v.owner other else other)
  ∧ ∀ (c : Core) (x : Sys2Proof.Sub), c.headExaminable x = true ↔
    ∃ t, (c.bridge x).queue.head? = some t ∧ t.state ≠ .inFlight ∧ t.state ≠ .restarting

/-- At start − 4 tu a GRANTED occurrence becomes PREPARING, the first of the table whose start − 4 tu has come; the part is brought
AWAKE, and the preparation begins with its awaited devices and a power request for each that is OFF or FALLING (R28, R131, R132,
R156, R172). A preparation still running is replaced, its transfer in flight marked as dropped: the manual's windows never overlap
so, and that reading is by inference (log entry 25); a request with no such occurrence has no effect (log entry 7).
The view then shows the window:
the other stack's head is examined, and the owner's when it is still DEFERRED (R140, R142), the latter read from the manual by
inference (log entry 15). -/
def Obligations.PreparationAsked : Prop :=
  (∀ s : State, s.env.load.phase ≠ .notBegun →
    (∀ r, duePreparation s.env s.core = some r →
      exec .preparationRequest s = .next (s.react fun e c => askPreparation e r.handle c))
    ∧ (duePreparation s.env s.core = none → exec .preparationRequest s = .next (s.react fun _ c => c)))
  ∧ (∀ (e : Env) (c : Core) (due : Reservation → Prop),
    (∀ q, due q ↔ q.state = .granted ∧ atOrAfter e.count (q.start - 4) = true) →
    (∀ earlier r later, c.tla.table = earlier ++ r :: later → due r → (∀ q ∈ earlier, ¬due q) →
      duePreparation e c = some r)
    ∧ ((∀ q ∈ c.tla.table, ¬due q) → duePreparation e c = none))
  ∧ (∀ (e : Env) (h : Handle) (r : Reservation) (c t : Core), c.reservation h = some r → askPreparation e h c = t →
    t.reservation h = some { r with state := .preparing }
    ∧ t.psc.sleep = .awake
    ∧ t.rcc.view = some ⟨r.owner, h, false⟩
    ∧ ∃ p, t.rcc.prep = some p ∧ p.owner = r.owner ∧ p.handle = h ∧ p.cls = r.cls ∧ p.staged = r.staged
      ∧ p.step = .awaitingPower ∧ p.position = 0 ∧ p.tuningAtStart = c.rcc.tuningLive ∧ p.tuningChanged = false
      ∧ (∀ d, d ∈ p.awaited ↔ e.has d = true
        ∧ (r.cls.requires d = true ∨ c.rcc.holdsContext r.owner d = true ∨ ∃ w ∈ r.staged, w.device = d))
      ∧ (∀ d, d ∈ p.requests ↔ d ∈ p.awaited ∧ (c.power d).isOffOrFalling = true)
      ∧ t = viewPreparing e r.owner h { (forceAwake c).editReservation h (fun q => { q with state := .preparing }) with
        rcc := { c.rcc with
          prep := some p
          bus := c.rcc.bus.map fun q => if q.cause = .preparation then { q with dropped := true } else q } })
  ∧ ∀ (e : Env) (x : Sys2Proof.Sub) (h : Handle) (c shown other : Core),
    shown = { c with rcc := { c.rcc with view := some ⟨x, h, false⟩ } }
    → other = (if shown.headExaminable x.other then examine e x.other shown else shown) →
    ((∃ t, (other.bridge x).queue.head? = some t ∧ t.state = .deferred) →
      viewPreparing e x h c = examine e x other)
    ∧ ((∀ t ∈ (other.bridge x).queue.head?, t.state ≠ .deferred) → viewPreparing e x h c = other)

/-- The window that starts is the first PREPARING one of the table whose start has come, and its end has not, and which does not
wait already (R29, R30); that the window view must show it, so that one driven out of the view does not start, is read from the
manual by inference (log entry 25). An occurrence whose preparation has ended goes ACTIVE at its start: the window
lines, the lost count, the views of the
neighbours and the powered-since flag are set together, a SEARCH window makes its attempt LISTENING with no sample yet, and a
PAGE window is told to the Session Manager (R29, R33, R52, R77, R114, R131, R135). One still being prepared waits, and the end
of its preparation, with the retune indication, makes the window ACTIVE and LATE once its start has passed (R30, R36, R135); a
start command taken after its time makes it LATE as well (the model's choice, log entry 17), and one with no such window has no
effect (log entry 7). -/
def Obligations.WindowStarts : Prop :=
  (∀ (e : Env) (c : Core) (due : Reservation → Prop),
    (∀ q, due q ↔ q.state = .preparing ∧ q.waiting = false ∧ atOrAfter e.count q.start = true
      ∧ before e.count (q.start + tu q.length) = true ∧ ∃ v, c.rcc.view = some v ∧ v.handle = q.handle) →
    (∀ earlier r later, c.tla.table = earlier ++ r :: later → due r → (∀ q ∈ earlier, ¬due q) → dueStart e c = some r)
    ∧ ((∀ q ∈ c.tla.table, ¬due q) → dueStart e c = none))
  ∧ (∀ s : State, s.env.load.phase ≠ .notBegun → dueStart s.env s.core = none →
    exec .windowStart s = .next (s.react fun _ c => c))
  ∧ (∀ (r : Reservation) (s : State), s.env.load.phase ≠ .notBegun → dueStart s.env s.core = some r →
    (r.prepared = none → exec .windowStart s = .next
      (s.react fun _ c => c.editReservation r.handle fun q => { q with waiting := true }))
    ∧ (∀ retune, r.prepared = some retune → s.env.count = r.start →
      exec .windowStart s = .next (s.react fun _ c => activate retune r c))
    ∧ (∀ retune, r.prepared = some retune → s.env.count ≠ r.start →
      exec .windowStart s = .next (s.react fun e c => activateLate e retune r c)))
  ∧ (∀ (retune : Bool) (r : Reservation) (c t : Core), c.reservation r.handle = some r → activate retune r c = t →
    t.tla.band = r.band ∧ t.tla.subSel = r.owner
    ∧ (t.tla.rxEn = true ↔ r.cls = .page ∨ r.cls = .measure ∨ r.cls = .search ∨ r.cls = .voice)
    ∧ (t.tla.txEn = true ↔ r.cls = .access ∨ r.cls = .text ∨ r.cls = .voice)
    ∧ t.reservation r.handle = some { r with state := .active, lost := 0, waiting := false }
    ∧ t.msu.view = some ⟨r.owner, r.cls, retune, r.cells, []⟩
    ∧ t.rcc.view = some ⟨r.owner, r.handle, true⟩ ∧ t.rcc.poweredSince = false
    ∧ (r.cls = .page → t.notices = c.notices ++ [.pageActive r.owner]) ∧ (r.cls ≠ .page → t.notices = c.notices)
    ∧ (r.cls = .search → (c.csc.get r.owner).phase = .placed r.handle →
      t.csc = c.csc.set r.owner { c.csc.get r.owner with phase := .listening r.handle none 0 })
    ∧ ((r.cls ≠ .search ∨ (c.csc.get r.owner).phase ≠ .placed r.handle) → t.csc = c.csc))
  ∧ (∀ (e : Env) (retune : Bool) (r : Reservation) (c t : Core), c.reservation r.handle = some r
    → activateLate e retune r c = t →
    t.reservation r.handle = some { r with state := .active, lost := 0, waiting := false, late := true }
    ∧ t.pif = (post e (.stack r.owner) ⟨.windowLate, .reservation r.owner r.handle, e.count,
        value16 (e.count - r.start).toNat, value16 r.cls.code⟩ c).pif)
  ∧ ∀ (e : Env) (p : Prep) (c ended : Core) (retune : Bool),
    (retune = true ↔ c.rcc.tuning = none ∨ p.tuningAtStart = none ∨ p.tuningChanged = true ∨ c.rcc.poweredSince = true)
    → ended = { ({ c with rcc := { c.rcc with prep := none } } : Core).editReservation p.handle fun q =>
        { q with prepared := some retune, staged := [] } with evaluate := true } →
    (c.reservation p.handle = none → endPreparation e p c = ended)
    ∧ ∀ r, c.reservation p.handle = some r →
      (r.waiting = true → before e.count (r.start + tu r.length) = true →
        endPreparation e p c = activateLate e retune { r with prepared := some retune, staged := [] } ended)
      ∧ ((r.waiting = false ∨ before e.count (r.start + tu r.length) = false) → endPreparation e p c = ended)

/-- A window's end, of the first PREPARING or ACTIVE occurrence of the table whose start + length has come (R30, R31): RX_EN and
TX_EN go low while BAND and SUB_SEL hold, the views are closed, the search is told, and then a
one-shot record ends COMPLETED, its handle naming nothing from then on, or the next occurrence is sought (R11, R24, R31, R33,
R115, R131); an occurrence still PREPARING at its end time is skipped, with its preparation and its staged writes (R30, R36,
R137); a window withdrawn while ACTIVE is truncated at now (R32). Read from the manual by inference: the RF Context Controller's
view closes before the Measurement Unit's (log entry 28), and a skip at the end time gives no window-end notice and no power-down
check (log entry 29). An end with no such occurrence has no effect (log entry 7). A repeating record is SEEKING
while its next occurrence is sought, a state of the model's own (log entry 23), in a run of at most 1024 searches (log entry 24). -/
def Obligations.WindowEnds : Prop :=
  (∀ (e : Env) (c : Core) (due : Reservation → Prop),
    (∀ q, due q ↔ (q.state = .preparing ∨ q.state = .active) ∧ atOrAfter e.count (q.start + tu q.length) = true) →
    (∀ earlier r later, c.tla.table = earlier ++ r :: later → due r → (∀ q ∈ earlier, ¬due q) → dueEnd e c = some r)
    ∧ ((∀ q ∈ c.tla.table, ¬due q) → dueEnd e c = none))
  ∧ (∀ s : State, s.env.load.phase ≠ .notBegun → dueEnd s.env s.core = none →
    exec .windowEnd s = .next (s.react fun _ c => c))
  ∧ (∀ (r : Reservation) (s : State), s.env.load.phase ≠ .notBegun → dueEnd s.env s.core = some r →
    (r.state = .active → exec .windowEnd s = .next (s.react fun e c => finishWindow e r c))
    ∧ (r.state ≠ .active → exec .windowEnd s = .next (s.react fun e c => skipAtEnd e r c)))
  ∧ (∀ (e : Env) (t : Time) (r : Reservation) (c : Core),
    closeWindow e t r c =
      closeView e t (viewNone e r.handle { c with tla := { c.tla with rxEn := false, txEn := false } })
    ∧ (closeWindow e t r c).tla = { c.tla with rxEn := false, txEn := false } ∧ (closeWindow e t r c).msu.view = none)
  ∧ (∀ (e : Env) (r : Reservation) (c closed : Core),
    closed = searchEnded e r (closeWindow e (r.start + tu r.length) r c) →
    (r.repeats = none → finishWindow e r c = windowEndNotice e (endRecord e .completed true r closed))
    ∧ (r.repeats.isSome = true → finishWindow e r c = windowEndNotice e
      (seekAll e 1024 [⟨r.handle, true⟩] (closed.editReservation r.handle fun q => { q with state := .seeking }))))
  ∧ (∀ (e : Env) (r : Reservation) (c : Core), r.repeats = none → (finishWindow e r c).reservation r.handle = none)
  ∧ (∀ (e : Env) (r : Reservation) (c dropped : Core),
    dropped = (dropPreparation e r.handle c).editReservation r.handle (fun q => { q with staged := [] }) →
    (r.repeats = none → skipAtEnd e r c = skipOccurrence e { r with staged := [] } dropped)
    ∧ (r.repeats.isSome = true → skipAtEnd e r c =
      seekAll e 1024 [⟨r.handle, true⟩] (skipOccurrence e { r with staged := [] } dropped)))
  ∧ ∀ (e : Env) (reason : EndReason) (reported : Bool) (r : Reservation) (c : Core),
    (r.state = .active → withdrawRecord e reason reported r c =
      endRecord e reason reported r (windowEndNotice e (closeWindow e e.count r c)))
    ∧ (r.state = .preparing → withdrawRecord e reason reported r c =
      endRecord e reason reported r (dropPreparation e r.handle c))
    ∧ (r.state ≠ .active → r.state ≠ .preparing → withdrawRecord e reason reported r c = endRecord e reason reported r c)

/-! ### Calls and texts -/

/-- VOICE_OPEN, VOICE_CONNECT and VOICE_RELEASE (R46, R47, R48, R63, R64, R65), with the refusals of each in their order: a second
call, no coverage, a low supply and a full session table; a handle that names nothing or another subscription's session, a session
that is no call in SETUP, a parameter outside its range, and a placement that fails. -/
def Obligations.VoiceCommands : Prop :=
  (∀ (x : Sys2Proof.Sub) (seq : Byte) (s s1 : State), Acts s x → s1 = restartMonitor (.stack x) s →
    (s.core.voiceSession.isSome = true → ∀ emergency,
      exec (.voiceOpen (.stack x) seq emergency) s = .next (s1.turnedAway (.stack x) seq .busy))
    ∧ (s.core.voiceSession = none →
      ((s.core.csc.get x).coverage ≠ .inService →
        exec (.voiceOpen (.stack x) seq false) s = .next (s1.turnedAway (.stack x) seq .noService))
      ∧ ((s.core.csc.get x).coverage = .inService → s.env.supply = .low →
        exec (.voiceOpen (.stack x) seq false) s = .next (s1.turnedAway (.stack x) seq .supplyLow))
      ∧ ∀ emergency, (s.core.csc.get x).coverage = .inService ∨ emergency = true →
        s.env.supply ≠ .low ∨ emergency = true → 8 ≤ sessionCount s.core →
        exec (.voiceOpen (.stack x) seq emergency) s = .next (s1.turnedAway (.stack x) seq .tableFull)))
  ∧ (∀ (x : Sys2Proof.Sub) (seq : Byte) (h : Handle) (c : Instr) (s s1 : State), Acts s x → s1 = restartMonitor (.stack x) s
    → (c = .voiceRelease (.stack x) seq h
      ∨ ∃ period length anchor frequency band, c = .voiceConnect (.stack x) seq h period length anchor frequency band) →
    (s.core.session h = none → exec c s = .next (s1.turnedAway (.stack x) seq .noSuch))
    ∧ ∀ n, s.core.session h = some n →
      (n.owner ≠ x → exec c s = .next (s1.turnedAway (.stack x) seq .notOwner))
      ∧ ∀ t, n.owner = x → n.body = .text t → exec c s = .next (s1.turnedAway (.stack x) seq .noSession))
  ∧ (∀ (x : Sys2Proof.Sub) (seq : Byte) (h : Handle) (n : Session) (v : Voice) (period length frequency : Half)
      (anchor : Time) (band : Byte) (s s1 : State), Acts s x → s1 = restartMonitor (.stack x) s
    → s.core.session h = some n → n.owner = x → n.body = .voice v →
    (v.traffic.isSome = true → exec (.voiceConnect (.stack x) seq h period length anchor frequency band) s =
      .next (s1.turnedAway (.stack x) seq .noSession))
    ∧ (v.traffic = none →
      (badConnect s.env.count period length anchor band = true →
        exec (.voiceConnect (.stack x) seq h period length anchor frequency band) s =
          .next (s1.turnedAway (.stack x) seq .badParam))
      ∧ ∀ c made, badConnect s.env.count period length anchor band = false
        → createRecord s.env
          { newRecord x .voice anchor 0 length.toNat frequency (band.setWidth 3) with
            emergency := v.emergency, repeats := some ⟨period.toNat, 0⟩, session := some n.handle } s1.core = (c, made) →
        (made = .tableFull → exec (.voiceConnect (.stack x) seq h period length anchor frequency band) s =
          .next (s1.turnedAway (.stack x) seq .tableFull))
        ∧ (made = .tooLate → exec (.voiceConnect (.stack x) seq h period length anchor frequency band) s =
          .next ((s1.setCore c).settled.turnedAway (.stack x) seq .tooLate))
        ∧ ∀ refused, made = .conflict refused →
          exec (.voiceConnect (.stack x) seq h period length anchor frequency band) s =
            .next ((s1.setCore c).settled.turnedAway (.stack x) seq .conflict)))
  ∧ (∀ (now : Time) (period length : Half) (anchor : Time) (band : Byte),
    badConnect now period length anchor band = true ↔
      period.toNat < 160 ∨ 2560 < period.toNat ∨ length.toNat < 8 ∨ period.toNat < length.toNat + 4 ∨ 7 < band.toNat
      ∨ (atOrAfter anchor (now + 16777216) = true ∧ before anchor now = false))
  ∧ ∀ (x : Sys2Proof.Sub) (seq : Byte) (s : State), Acts s x →
    (∀ (emergency : Bool) (c : Core) (h : Handle), s.core.voiceSession = none
      → ((s.core.csc.get x).coverage = .inService ∨ emergency = true) → (s.env.supply ≠ .low ∨ emergency = true)
      → sessionCount s.core < 8
      → addSession x (.voice ⟨emergency, none, 0⟩) (restartMonitor (.stack x) s).core = (c, h) →
      exec (.voiceOpen (.stack x) seq emergency) s = .next
        (((restartMonitor (.stack x) s).setCore
          (post s.env .app ⟨.callState, .subscription x, s.env.count, value16 0, value16 emergency.toNat⟩ c)).replied
            (.stack x) seq [h.index, h.generation]))
    ∧ (∀ (h g : Handle) (n : Session) (v : Voice) (period length frequency : Half) (anchor start : Time) (band : Byte)
        (c : Core), s.core.session h = some n → n.owner = x → n.body = .voice v → v.traffic = none
      → badConnect s.env.count period length anchor band = false
      → createRecord s.env
          { newRecord x .voice anchor 0 length.toNat frequency (band.setWidth 3) with
            emergency := v.emergency, repeats := some ⟨period.toNat, 0⟩, session := some n.handle }
          (restartMonitor (.stack x) s).core = (c, .created g start) →
      exec (.voiceConnect (.stack x) seq h period length anchor frequency band) s = .next
        (((restartMonitor (.stack x) s).setCore
          (post s.env .app ⟨.callState, .subscription x, s.env.count, value16 1, value16 v.emergency.toNat⟩
            (c.setTraffic n.handle
              ⟨period.toNat, length.toNat, anchor, some g, s.env.policy.creditMax, s.env.count⟩))).settled.replied
          (.stack x) seq ([g.index, g.generation] ++ bytes32 start)))
    ∧ (∀ (h : Handle) (n : Session) (v : Voice), s.core.session h = some n → n.owner = x → n.body = .voice v →
      exec (.voiceRelease (.stack x) seq h) s = .next
        (((restartMonitor (.stack x) s).react fun e c =>
          post e .app ⟨.callState, .subscription x, e.count, value16 2, value16 0⟩
            (post e (.stack x) ⟨.callState, .subscription x, e.count, value16 2, value16 0⟩
              (closeSession e false n c))).replied (.stack x) seq []))

/-- TEXT_SUBMIT, SEGMENT_RESULT, TEXT_CANCEL and the expiry of a result deadline (R59, R61, R66, R67, R68); how a session enters
the table and its owner's queue (R41, R42, R54), what a segment that the network took leads to (R59), and how a session closes:
its reservations are withdrawn in table order, it leaves the table and its queue, and the next head is placed or held (R43,
R54). That the next head is placed before TEXT_DONE is posted is read from the manual by inference (log entry 21). The refusals, in
their order: a parameter outside its range, a fifth text, a full session table; a handle that names nothing or another
subscription's session, a result that is neither OK nor FAIL, and a session that is no text (R66, R67, R68). -/
def Obligations.TextCommands : Prop :=
  (∀ (x : Sys2Proof.Sub) (seq segments : Byte) (length frequency : Half) (urgent : Bool) (band : Byte) (bad : Prop)
      (s s1 : State), Acts s x → s1 = restartMonitor (.stack x) s
    → (bad ↔ segments.toNat < 1 ∨ 16 < segments.toNat ∨ length.toNat < 16 ∨ 3200 < length.toNat ∨ 7 < band.toNat) →
    (bad → exec (.textSubmit (.stack x) seq segments length urgent frequency band) s =
      .next (s1.turnedAway (.stack x) seq .badParam))
    ∧ (¬bad → 4 ≤ (s.core.queue x).length →
      exec (.textSubmit (.stack x) seq segments length urgent frequency band) s =
        .next (s1.turnedAway (.stack x) seq .busy))
    ∧ (¬bad → (s.core.queue x).length < 4 → 8 ≤ sessionCount s.core →
      exec (.textSubmit (.stack x) seq segments length urgent frequency band) s =
        .next (s1.turnedAway (.stack x) seq .tableFull)))
  ∧ (∀ (x : Sys2Proof.Sub) (seq : Byte) (h : Handle) (c : Instr) (s s1 : State), Acts s x → s1 = restartMonitor (.stack x) s
    → (c = .textCancel (.stack x) seq h ∨ ∃ result, c = .segmentResult (.stack x) seq h result) →
    (s.core.session h = none → exec c s = .next (s1.turnedAway (.stack x) seq .noSuch))
    ∧ ∀ n, s.core.session h = some n →
      (n.owner ≠ x → exec c s = .next (s1.turnedAway (.stack x) seq .notOwner))
      ∧ (n.owner = x → ∀ result, 1 < result.toNat → c = .segmentResult (.stack x) seq h result →
        exec c s = .next (s1.turnedAway (.stack x) seq .badParam))
      ∧ ∀ v, n.owner = x → n.body = .voice v →
        (∀ result, c = .segmentResult (.stack x) seq h result → result.toNat ≤ 1) →
        exec c s = .next (s1.turnedAway (.stack x) seq .noSession))
  ∧ (∀ (x : Sys2Proof.Sub) (seq : Byte) (s : State), Acts s x →
    (∀ (segments : Byte) (length frequency : Half) (urgent : Bool) (band : Byte) (c : Core) (h : Handle),
      1 ≤ segments.toNat → segments.toNat ≤ 16 → 16 ≤ length.toNat → length.toNat ≤ 3200 → band.toNat ≤ 7
      → (s.core.queue x).length < 4 → sessionCount s.core < 8
      → submitText s.env x
          ⟨.queued, segments.toNat, 0, length.toNat, urgent, frequency, band.setWidth 3, 0, none, none, none, false⟩
          (restartMonitor (.stack x) s).core = (c, h) →
      exec (.textSubmit (.stack x) seq segments length urgent frequency band) s = .next
        (((restartMonitor (.stack x) s).setCore c).settled.replied (.stack x) seq
          [h.index, h.generation, BitVec.ofNat 8 ((s.core.queue x).length + 1)]))
    ∧ ∀ (h : Handle) (n : Session) (t : TextBody), s.core.session h = some n → n.owner = x → n.body = .text t →
      (t.deadline.isSome = true →
        exec (.segmentResult (.stack x) seq h 0) s = .next
          (((restartMonitor (.stack x) s).react fun e c =>
            segmentSent e n t (c.editText n.handle fun t' => { t' with deadline := none })).replied (.stack x) seq
              [BitVec.ofNat 8 (t.done + 1)])
        ∧ exec (.segmentResult (.stack x) seq h 1) s = .next
          (((restartMonitor (.stack x) s).react fun e c =>
            failSegment e 0 n t (c.editText n.handle fun t' => { t' with deadline := none })).replied (.stack x) seq
              [BitVec.ofNat 8 t.done]))
      ∧ (t.deadline = none → ∀ result : Byte, result.toNat ≤ 1 →
        exec (.segmentResult (.stack x) seq h result) s = .next
          ((restartMonitor (.stack x) s).turnedAway (.stack x) seq (if t.late then .tooLate else .noSession)))
      ∧ exec (.textCancel (.stack x) seq h) s = .next
        (((restartMonitor (.stack x) s).react fun e c => closeSession e false n c).replied (.stack x) seq []))
  ∧ (∀ (x : Sys2Proof.Sub) (n : Session) (t : TextBody) (d : Time) (s : State), s.env.load.phase ≠ .notBegun
    → s.core.headText x = some (n, t) → t.deadline = some d → atOrAfter s.env.count d = true →
    exec (.textResultDeadline x) s = .next (s.react fun e c =>
      failSegment e 1 n t (c.editText n.handle fun t' => { t' with deadline := none, late := true })))
  ∧ (∀ (owner : Sys2Proof.Sub) (body : SessionBody) (c : Core) (i : Nat) (h : Handle), i < 256
    → c.smg.sessions[i]? = some none → (∀ j, j < i → ∃ n, c.smg.sessions[j]? = some (some n))
    → h = ⟨BitVec.ofNat 8 i, (c.smg.generations[i]?).getD 0 + 1⟩ →
    addSession owner body c =
      ({ c with smg := { c.smg with
          sessions := c.smg.sessions.set i (some ⟨h, owner, body⟩)
          generations := c.smg.generations.set i h.generation } }, h))
  ∧ (∀ (e : Env) (x : Sys2Proof.Sub) (t : TextBody) (c d : Core) (h : Handle), addSession x (.text t) c = (d, h) →
    (c.queue x ≠ [] → submitText e x t c = (d.setQueue x (c.queue x ++ [h]), h))
    ∧ (c.queue x = [] → submitText e x t c = (sendOrHold e x (d.setQueue x [h]), h)))
  ∧ (∀ (e : Env) (n : Session) (t : TextBody) (c : Core),
    (t.done + 1 = t.total → segmentSent e n t c =
      post e (.stack n.owner) ⟨.textDone, .session n.owner n.handle, e.count, value16 t.total, 0⟩
        (closeSession e false n c))
    ∧ (t.done + 1 ≠ t.total → segmentSent e n t c =
      sendSegment e n (c.editText n.handle fun t' => { t' with done := t.done + 1, retries := 0, notBefore := none })))
  ∧ ∀ (e : Env) (reported : Bool) (n : Session) (c closed freed : Core),
    closed = (c.tla.table.filter fun r => decide (r.session = some n.handle)).foldl
      (fun c' r => withdrawRecord e .sessionClosed reported r c') c
    → freed = { closed with smg := { closed.smg with
        sessions := closed.smg.sessions.set n.handle.index.toNat none
        queues := closed.smg.queues.set n.owner
          ((closed.smg.queues.get n.owner).filter fun h => decide (h ≠ n.handle)) } } →
    ((closed.queue n.owner).head? = some n.handle → closeSession e reported n c = sendOrHold e n.owner freed)
    ∧ ((closed.queue n.owner).head? ≠ some n.handle → closeSession e reported n c = freed)

/-- When a head text is eligible (R54), where its segment is asked for (R56), how it is placed and told, held, or left waiting for
room (R54 to R57), what a head that loses or gains eligibility does (R55), and the pause that doubles after a failure until the
third (R60). Read from the manual by inference: a page exactly 64000 tu ahead counts (log entry 27), the close, with its next
head, comes before TEXT_FAILED (log entry 21), and a segment withdrawn at a loss of eligibility is always reported (log entry
20). -/
def Obligations.SegmentRules : Prop :=
  (∀ (e : Env) (c : Core) (x : Sys2Proof.Sub) (urgent : Bool), eligible e c x urgent = true ↔
    (c.csc.get x).coverage = .inService ∧ (e.supply ≠ .low ∨ urgent = true))
  ∧ (∀ (e : Env) (c : Core) (x : Sys2Proof.Sub) (t : TextBody),
    (∀ u, t.notBefore = some u → atOrAfter u (e.count + 4) = true → segmentDesired e c x t = u)
    ∧ ((t.notBefore = none ∨ ∃ u, t.notBefore = some u ∧ before u (e.count + 4) = true) →
      (t.urgent = true → segmentDesired e c x t = e.count + 4)
      ∧ (t.urgent = false → (∀ r ∈ c.tla.table, pageAhead e x r = false) → segmentDesired e c x t = e.count + 4)
      ∧ ∀ earlier r later, t.urgent = false → c.tla.table = earlier ++ r :: later → pageAhead e x r = true
        → (∀ q ∈ earlier, pageAhead e x q = false) →
        segmentDesired e c x t = r.start + tu (r.length + 4)))
  ∧ (∀ (e : Env) (x : Sys2Proof.Sub) (r : Reservation), pageAhead e x r = true ↔
    r.owner = x ∧ r.cls = .page ∧ r.state = .granted ∧ (r.start - e.count).toNat ≤ 64000)
  ∧ (∀ (e : Env) (cause : Nat) (n : Session) (t : TextBody) (c : Core),
    (t.retries = 0 → failSegment e cause n t c = sendSegment e n (c.editText n.handle fun t' =>
      { t' with notBefore := some (e.count + 320), retries := 1 }))
    ∧ (t.retries = 1 → failSegment e cause n t c = sendSegment e n (c.editText n.handle fun t' =>
      { t' with notBefore := some (e.count + 640), retries := 2 }))
    ∧ (t.retries = 2 → failSegment e cause n t c =
      post e (.stack n.owner) ⟨.textFailed, .session n.owner n.handle, e.count, value16 (t.done + 1), value16 cause⟩
        (closeSession e true n c)))
  ∧ (∀ (e : Env) (n : Session) (t : TextBody) (c : Core) (r : Reservation),
    r = { newRecord n.owner .text (segmentDesired e c n.owner t) 3200 t.length t.frequency t.band with
      urgent := t.urgent, session := some n.handle } →
    (∀ d h start, createRecord e r c = (d, .created h start) → placeSegment e n t c =
      post e (.stack n.owner)
        ⟨.textWindow, .session n.owner n.handle, start, h.index ++ h.generation, value16 (t.done + 1)⟩
        (d.editText n.handle fun t' => { t' with record := some h, notBefore := none }))
    ∧ ∀ d made, createRecord e r c = (d, made) → (∀ h start, made ≠ .created h start) → placeSegment e n t c = d)
  ∧ (∀ (e : Env) (n : Session) (c : Core),
    ((c.queue n.owner).head? = some n.handle → sendSegment e n c = sendOrHold e n.owner c)
    ∧ ((c.queue n.owner).head? ≠ some n.handle → sendSegment e n c = c))
  ∧ ∀ (e : Env) (x : Sys2Proof.Sub) (c : Core),
    (c.headText x = none → sendOrHold e x c = c ∧ retryPlacement e x c = c ∧ lookAgain e x c = c)
    ∧ ∀ n t, c.headText x = some (n, t) →
      (eligible e c x t.urgent = true →
        sendOrHold e x c = placeSegment e n t (c.editText n.handle fun t' => { t' with state := .sending }))
      ∧ (eligible e c x t.urgent = false →
        sendOrHold e x c = c.editText n.handle fun t' => { t' with state := .held })
      ∧ (t.state = .sending → t.record = none → t.deadline = none → retryPlacement e x c = sendOrHold e x c)
      ∧ ((t.state ≠ .sending ∨ t.record ≠ none ∨ t.deadline ≠ none) → retryPlacement e x c = c)
      ∧ (t.state = .held → eligible e c x t.urgent = true → lookAgain e x c = sendOrHold e x c)
      ∧ (t.state = .sending → eligible e c x t.urgent = false →
        (∀ h r, t.record = some h → c.reservation h = some r → r.state = .granted → lookAgain e x c =
          withdrawRecord e .withdrawn true r
            (c.editText n.handle fun t' => { t' with state := .held, record := none }))
        ∧ (∀ h r, t.record = some h → c.reservation h = some r → r.state ≠ .granted → lookAgain e x c = c)
        ∧ (t.record = none → t.deadline = none →
          lookAgain e x c = c.editText n.handle fun t' => { t' with state := .held })
        ∧ (t.record = none → t.deadline ≠ none → lookAgain e x c = c))
      ∧ ((t.state = .queued ∨ (t.state = .held ∧ eligible e c x t.urgent = false)
          ∨ (t.state = .sending ∧ eligible e c x t.urgent = true)) → lookAgain e x c = c)

/-- What the Session Manager does with the notices of the Timeline Arbiter: a missed page raises its subscription's count, which
stops at 255, and the third posts PAGE_STARVED once, with whether the other subscription holds the voice session; an ACTIVE page
clears the count (R45, R52); a skipped VOICE occurrence is counted (R25, R41); the end of a segment's reservation sets the result
deadline or fails the segment, that of a call's starved VOICE record closes the call, and each end retries a waiting segment
(R44, R48, R57, R58, R61). That a starved call's ACCESS records are always reported is the model's choice (log entry 52), and so is
the order of the two things that the end of a starved VOICE record leads to: the call closes first, and the owner's waiting text is
tried again after it (log entry 55). -/
def Obligations.SessionNotices : Prop :=
  (∀ (e : Env) (x : Sys2Proof.Sub) (c : Core) (n : Nat), n = min 255 ((c.smg.missed.get x).count + 1) →
    ((c.smg.missed.get x).starved = true ∨ n < 3 →
      missPage e x c = { c with smg := { c.smg with missed := c.smg.missed.set x ⟨n, (c.smg.missed.get x).starved⟩ } })
    ∧ ((c.smg.missed.get x).starved = false → 3 ≤ n →
      missPage e x c = { c with
        smg := { c.smg with missed := c.smg.missed.set x ⟨n, true⟩ }
        pif := c.pif.set .app ((c.pif.get .app).join
          ⟨.pageStarved, .subscription x, e.count, value16 n, value16 (c.holdsCall x.other).toNat⟩) }))
  ∧ (∀ (e : Env) (c : Core),
    (∀ x, actOn e (.pageLost x) c = missPage e x c)
    ∧ (∀ x, actOn e (.pageActive x) c =
      { c with smg := { c.smg with missed := c.smg.missed.set x ⟨0, false⟩ } })
    ∧ (∀ h, actOn e (.voiceSkipped h) c = c.editVoice h fun v => { v with skipped := min 65535 (v.skipped + 1) })
    ∧ (∀ x h reference, actOn e (.searchLost x h reference) c = attemptLost e x h reference c)
    ∧ ∀ h x k reason session endTime,
      (∀ m, k = .text → session = some m → actOn e (.recordEnded h x k (some reason) session endTime) c =
        retryPlacement e x (segmentEnded e h reason endTime m c))
      ∧ (∀ m n, k = .voice → reason = .starved → session = some m → c.session m = some n →
        actOn e (.recordEnded h x k (some reason) session endTime) c =
          retryPlacement e x
            (post e .app ⟨.callState, .subscription n.owner, e.count, value16 2, value16 1⟩
              (post e (.stack n.owner) ⟨.callState, .subscription n.owner, e.count, value16 2, value16 1⟩
                (closeSession e true n c))))
      ∧ ((k ≠ .text ∧ k ≠ .voice ∨ k = .voice ∧ reason ≠ .starved ∨ session = none) →
        actOn e (.recordEnded h x k (some reason) session endTime) c = retryPlacement e x c))
  ∧ ∀ (e : Env) (h m : Handle) (reason : EndReason) (endTime : Time) (c : Core),
    (c.textSession m = none → segmentEnded e h reason endTime m c = c)
    ∧ ∀ n t, c.textSession m = some (n, t) →
      (t.record ≠ some h → segmentEnded e h reason endTime m c = c)
      ∧ ∀ gone, t.record = some h → gone = c.editText m (fun t' => { t' with record := none }) →
        (reason = .completed → segmentEnded e h reason endTime m c =
          gone.editText m fun t' => { t' with deadline := some (endTime + 64000), late := false })
        ∧ (reason = .preempted ∨ reason = .starved → segmentEnded e h reason endTime m c = failSegment e 2 n t gone)
        ∧ (reason = .withdrawn ∨ reason = .sessionClosed → segmentEnded e h reason endTime m c = gone)

/-! ### Cells and measurement -/

/-- CELL_SET, CELL_REMOVE and FILTER_SET, with their refusals: a cell identity above 1023, a key that is not in the table, the
SERVING cell and a full table (R71, R74, R88, R89, R91). A cell that is removed loses its accumulator in an open measurement window
of its subscription (R74). -/
def Obligations.CellCommands : Prop :=
  (∀ (x : Sys2Proof.Sub) (key : CellKey) (c : Core),
    ((∀ v ∈ c.msu.view, v.owner ≠ x) → discardAccumulator x key c = c)
    ∧ ∀ v, c.msu.view = some v → v.owner = x → discardAccumulator x key c = { c with
      msu := { c.msu with view := some { v with accs := v.accs.filter fun a => decide (a.key ≠ key) } } })
  ∧   ∀ (x : Sys2Proof.Sub) (seq : Byte) (s s1 : State), Acts s x → s1 = restartMonitor (.stack x) s →
    (∀ (key : CellKey) (offset : Byte) (barred : Bool) (o : Int), key.identity.toNat ≤ 1023
      → o = max (-48) (min 48 offset.toInt) →
      (∀ i r, slotOf (s.core.cells x).slots key = some i → cellAt (s.core.cells x).slots i = some r →
        exec (.cellSet (.stack x) seq key offset barred) s = .next
          ((s1.setCore (s1.core.setCells x { s.core.cells x with
            slots := (s.core.cells x).slots.set i (some { r with offset := o, barred := barred }) })).replied
            (.stack x) seq [BitVec.ofNat 8 i, 1, BitVec.ofInt 8 o]))
      ∧ (∀ i, slotOf (s.core.cells x).slots key = none → freeSlot (s.core.cells x).slots = some i →
        exec (.cellSet (.stack x) seq key offset barred) s = .next
          ((s1.setCore (s1.core.setCells x { s.core.cells x with
            slots := (s.core.cells x).slots.set i
              (some ⟨key, .neighbour, o, barred, none, 0, none, false⟩) })).replied
            (.stack x) seq [BitVec.ofNat 8 i, 0, BitVec.ofInt 8 o]))
      ∧ (slotOf (s.core.cells x).slots key = none → freeSlot (s.core.cells x).slots = none →
        exec (.cellSet (.stack x) seq key offset barred) s = .next (s1.turnedAway (.stack x) seq .tableFull)))
    ∧ (∀ (key : CellKey) i r, key.identity.toNat ≤ 1023 → slotOf (s.core.cells x).slots key = some i
      → cellAt (s.core.cells x).slots i = some r →
      (r.role = .neighbour → exec (.cellRemove (.stack x) seq key) s = .next
        ((s1.setCore (discardAccumulator x key (s1.core.setCells x { s.core.cells x with
          slots := (s.core.cells x).slots.set i none }))).replied (.stack x) seq
            [BitVec.ofNat 8 (cellCount ((s.core.cells x).slots.set i none))]))
      ∧ (r.role = .serving → exec (.cellRemove (.stack x) seq key) s = .next
        (s1.turnedAway (.stack x) seq .notPermitted)))
    ∧ (∀ key : CellKey,
      (1023 < key.identity.toNat →
        exec (.cellRemove (.stack x) seq key) s = .next (s1.turnedAway (.stack x) seq .badParam)
        ∧ ∀ offset barred,
          exec (.cellSet (.stack x) seq key offset barred) s = .next (s1.turnedAway (.stack x) seq .badParam))
      ∧ (key.identity.toNat ≤ 1023 → slotOf (s.core.cells x).slots key = none →
        exec (.cellRemove (.stack x) seq key) s = .next (s1.turnedAway (.stack x) seq .noSuch)))
    ∧ ∀ (k : Byte) (stale : BitVec 32),
      exec (.filterSet (.stack x) seq k stale) s = .next
        ((s1.setCore (s1.core.setCells x { s.core.cells x with
          k := min 6 k.toNat, stale := max 3200 (min 320000 stale.toNat) })).replied (.stack x) seq
            ([BitVec.ofNat 8 (min 6 k.toNat)] ++ bytes32 (BitVec.ofNat 32 (max 3200 (min 320000 stale.toNat)))))

/-- The fields of a report of 38 bits (R76, R220), the order of the bits in a field and the sign of the level being the model's
choice (log entry 44); the attribution of sample reports, line by line of R78 (R85, R86), and what a counted sample does: it is clamped,
the clamp setting SAT_LOW or SAT_HIGH, blanked while the retune window blanks its cell, accumulated up to four, and discarded
with OVERRUN beyond (R79, R80, R81). -/
def Obligations.SampleAttribution : Prop :=
  (∀ (bits : List Bool) (s : State), bits.length ≠ 38 → exec (.sampleReport bits) s = .next s)
  ∧ (∀ (frequency identity level : List Bool) (valid : Bool), frequency.length = 16 → identity.length = 10
    → level.length = 11 →
    sampleOfBits (frequency ++ identity ++ level ++ [valid]) =
      some ⟨⟨BitVec.ofNat 16 (bitsToNat frequency), BitVec.ofNat 16 (bitsToNat identity)⟩,
        (bitsToNat level : Int) - (if level.head? = some true then 2048 else 0), valid⟩)
  ∧ (bitsToNat [] = 0 ∧ ∀ (b : Bool) (rest : List Bool),
    bitsToNat (b :: rest) = (if b = true then 2 ^ rest.length else 0) + bitsToNat rest)
  ∧ (∀ (bits : List Bool) (smp : Sample) (s : State), s.env.load.phase ≠ .notBegun → sampleOfBits bits = some smp →
    (smp.valid = false → exec (.sampleReport bits) s = .next s)
    ∧ (smp.valid = true → s.core.msu.view = none →
      exec (.sampleReport bits) s = .next
        (s.setCore { s.core with msu := { s.core.msu with stray := min 65535 (s.core.msu.stray + 1) } }))
    ∧ ∀ v, smp.valid = true → s.core.msu.view = some v →
      (v.cls = .access ∨ v.cls = .text → exec (.sampleReport bits) s = .next
        (s.setCore { s.core with msu := { s.core.msu with stray := min 65535 (s.core.msu.stray + 1) } }))
      ∧ (v.cls = .search → exec (.sampleReport bits) s = .next
        (s.setCore (searchSample v.owner smp.key (clampLevel smp.raw) (noteSaturation v.owner smp.raw s.core))))
      ∧ (v.cls = .page ∨ v.cls = .voice ∨ v.cls = .measure → cellOf (s.core.cells v.owner).slots smp.key = none →
        exec (.sampleReport bits) s = .next (s.setCore (s.core.setFlags v.owner fun f => { f with stray := true })))
      ∧ (∀ r, v.cls = .page ∨ v.cls = .voice → cellOf (s.core.cells v.owner).slots smp.key = some r →
        exec (.sampleReport bits) s = .next
          (if r.role = .serving then s.setCore (intake s.env v smp s.core) else s))
      ∧ (∀ r, v.cls = .measure → cellOf (s.core.cells v.owner).slots smp.key = some r →
        exec (.sampleReport bits) s = .next
          (if smp.key ∈ v.cells then s.setCore (intake s.env v smp s.core) else s)))
  ∧ (∀ raw : Int, clampLevel raw = max (-560) (min (-160) raw))
  ∧ (∀ (e : Env) (v : MsuView) (smp : Sample) (c : Core),
    intake e v smp c = countSample e v smp.key (clampLevel smp.raw) (noteSaturation v.owner smp.raw c))
  ∧ (∀ (x : Sys2Proof.Sub) (raw : Int) (c : Core),
    (raw < -560 → noteSaturation x raw c = c.setFlags x fun f => { f with satLow := true })
    ∧ (-160 < raw → noteSaturation x raw c = c.setFlags x fun f => { f with satHigh := true })
    ∧ (-560 ≤ raw → raw ≤ -160 → noteSaturation x raw c = c)
    ∧ ∀ f, (c.setFlags x f).msu = { c.msu with
        tables := c.msu.tables.set x { c.msu.tables.get x with flags := f (c.msu.tables.get x).flags } })
  ∧ ∀ (e : Env) (v : MsuView) (key : CellKey) (level : Int) (c : Core) (a : Accumulator),
    accumulatorOf v.accs key = a →
    (v.retune = true → a.blanked < e.image.blanking →
      countSample e v key level c = { c with msu := { c.msu with
        view := some { v with accs := putAccumulator v.accs { a with blanked := a.blanked + 1 } } } })
    ∧ (v.retune = false ∨ e.image.blanking ≤ a.blanked →
      (a.n < 4 → countSample e v key level c = { c with msu := { c.msu with
        view := some { v with accs := putAccumulator v.accs { a with n := a.n + 1, sum := a.sum + level } } } })
      ∧ (4 ≤ a.n → countSample e v key level c = c.setFlags v.owner fun f => { f with overrun := true }))

/-- The window mean is the nearest integer to the sum over n, an exact half toward +∞, and of levels in −560..−160 lies there
(R82); the filter's step is D over 2^k to the nearest integer, halves away from zero, never more than D; a record EMPTY or
stale is seeded, any other moves by the step, and its level stays within −8960..−2560 (R83). At the end of a window each record
whose cell has an accumulator with a counted sample takes its mean at the notice's time, and the owner is evaluated exactly when
a record was updated (R82, R83, R84, R99). And the bars of a serving level, by the table of R87, with none without a usable
SERVING record. -/
def Obligations.LevelArithmetic : Prop :=
  (∀ (sum : Int) (n : Nat), 1 ≤ n →
    2 * (n : Int) * windowMean sum n ≤ 2 * sum + n ∧ 2 * sum + n < 2 * (n : Int) * (windowMean sum n + 1)
    ∧ (-560 * (n : Int) ≤ sum → sum ≤ -160 * (n : Int) → -560 ≤ windowMean sum n ∧ windowMean sum n ≤ -160))
  ∧ (∀ d : Int, filterStep 0 d = d)
  ∧ (∀ (k : Nat) (d : Int), 1 ≤ k →
    (0 ≤ d → 2 ^ k * filterStep k d ≤ d + 2 ^ (k - 1) ∧ d + 2 ^ (k - 1) < 2 ^ k * (filterStep k d + 1)
      ∧ 0 ≤ filterStep k d ∧ filterStep k d ≤ d)
    ∧ filterStep k (-d) = -filterStep k d)
  ∧ (∀ (k limit : Nat) (t : Time) (mean : Int) (r : Cell), -560 ≤ mean → mean ≤ -160 →
    (filterUpdate k limit t mean r).updates = min 255 (r.updates + 1)
    ∧ (r.level = none → (filterUpdate k limit t mean r).level = some ⟨16 * mean, t⟩)
    ∧ ∀ l, r.level = some l →
      (l.staleAt limit t = true → (filterUpdate k limit t mean r).level = some ⟨16 * mean, t⟩)
      ∧ (l.staleAt limit t = false →
        (filterUpdate k limit t mean r).level = some ⟨l.value + filterStep k (16 * mean - l.value), t⟩
        ∧ (-8960 ≤ l.value → l.value ≤ -2560 →
          -8960 ≤ l.value + filterStep k (16 * mean - l.value)
          ∧ l.value + filterStep k (16 * mean - l.value) ≤ -2560)))
  ∧ (∀ (e : Env) (t : Time) (c : Core),
    (c.msu.view = none → closeView e t c = c)
    ∧ ∀ v table folded, c.msu.view = some v → table = c.cells v.owner
      → folded = { c with msu := { c.msu with
          view := none
          tables := c.msu.tables.set v.owner { table with slots := table.slots.map (Option.map fun r =>
            match v.accs.find? fun a => decide (1 ≤ a.n) && decide (a.key = r.key) with
            | none => r
            | some a => filterUpdate table.k table.stale t (windowMean a.sum a.n) r) } } } →
      ((∃ r, some r ∈ table.slots ∧ ∃ a ∈ v.accs, 1 ≤ a.n ∧ a.key = r.key) →
        closeView e t c = evaluateHandover e v.owner folded)
      ∧ ((∀ r, some r ∈ table.slots → ∀ a ∈ v.accs, 1 ≤ a.n → a.key ≠ r.key) → closeView e t c = folded))
  ∧ ∀ (e : Env) (c : Core) (x : Sys2Proof.Sub),
    (servingCell (c.cells x).slots = none → bars e c x = 0)
    ∧ ∀ r, servingCell (c.cells x).slots = some r →
      (r.level = none → bars e c x = 0)
      ∧ ∀ l, r.level = some l →
        (l.staleAt (c.cells x).stale e.count = true → bars e c x = 0)
        ∧ (l.staleAt (c.cells x).stale e.count = false →
          bars e c x ≤ 5
          ∧ (5 ≤ bars e c x ↔ -5440 ≤ l.value) ∧ (4 ≤ bars e c x ↔ -6080 ≤ l.value)
          ∧ (3 ≤ bars e c x ↔ -6720 ≤ l.value) ∧ (2 ≤ bars e c x ↔ -7168 ≤ l.value)
          ∧ (1 ≤ bars e c x ↔ -7680 ≤ l.value))

/-! ### Handover evaluation -/

/-- SERVING_SET, HANDOVER_DONE, HANDOVER_SET and the expiry of a hold (R93, R100, R104, R107, R108, R109); what completes a
handover: the trigger state cleared, the hold begun, and the call rebased by the offset (R53, R100, R103, R104). That a
HOLD_EXPIRY with no hold end, or one not reached, changes nothing is the model's choice (log entry 7); that a handover completed
with P = 0 leaves no hold end is read from the manual by inference (R100, R105; log entry 32). The answers' bytes are field by
field (R219), the codes of the weak states and of added or present the model's (log entry 18), an absent key or hold end a presence
byte and zeros (log entry 19); and a cell identity above 1023 or an offset outside −2048 to +2047 is refused (R107, R108). -/
def Obligations.HandoverCommands : Prop :=
  (∀ (x : Sys2Proof.Sub) (seq : Byte) (key : CellKey) (c : Core) (ch : ServingChange) (s s1 : State), Acts s x
    → s1 = restartMonitor (.stack x) s → key.identity.toNat ≤ 1023 → makeServing s.env x key s1.core = (c, ch) →
    exec (.servingSet (.stack x) seq key) s = .next
      ((s1.setCore (setCoverage s.env x .inService .servingSet (removeAttempt s.env x false c))).settled.replied
        (.stack x) seq ([BitVec.ofNat 8 ch.slot] ++ yesNo ch.inserted ++ yesNo ch.changed ++ orNone 4 bytesKey ch.evicted))
    ∧ ∀ offset : Half, -2048 ≤ offset.toInt → offset.toInt ≤ 2047 →
      ((s.core.csc.get x).coverage = .inService →
        exec (.handoverDone (.stack x) seq key offset) s = .next
          ((s1.setCore (completeHandover s.env x (offset.signExtend 32) c)).settled.replied (.stack x) seq
            ([BitVec.ofNat 8 ch.slot] ++ orNone 4 bytesKey ch.evicted
              ++ bytes32 (s.env.count + tu (s.core.hoe.get x).holdTime)
              ++ yesNo (activeCall s.core x && decide (offset ≠ 0)))))
      ∧ ((s.core.csc.get x).coverage ≠ .inService →
        exec (.handoverDone (.stack x) seq key offset) s = .next (s1.turnedAway (.stack x) seq .noService)))
  ∧ (∀ (x : Sys2Proof.Sub) (seq hysteresis : Byte) (ttt : BitVec 32) (weak : Half) (hold : BitVec 32) (h : Hoe)
      (s s1 : State), Acts s x → s1 = restartMonitor (.stack x) s
    → h = { s.core.hoe.get x with
        hysteresis := min 30 hysteresis.toNat, ttt := min 163840 ttt.toNat
        weakDbm := max (-140) (min (-40) weak.toInt), holdTime := min 320000 hold.toNat } →
    exec (.handoverSet (.stack x) seq hysteresis ttt weak hold) s = .next
      ((s1.setCore { s1.core with hoe := s1.core.hoe.set x h }).replied (.stack x) seq
        ([BitVec.ofNat 8 h.hysteresis] ++ bytes32 (BitVec.ofNat 32 h.ttt) ++ bytes16 (BitVec.ofInt 16 h.weakDbm)
          ++ bytes32 (BitVec.ofNat 32 h.holdTime)
          ++ (match h.weak with
            | .clear => [0]
            | .pending _ => [1]
            | .reported _ => [2]) ++ timeOrNone h.holdEnd)))
  ∧ (∀ (x : Sys2Proof.Sub) (seq : Byte) (key : CellKey) (offset : Half) (s s1 : State), Acts s x
    → s1 = restartMonitor (.stack x) s →
    (1023 < key.identity.toNat →
      exec (.servingSet (.stack x) seq key) s = .next (s1.turnedAway (.stack x) seq .badParam))
    ∧ (1023 < key.identity.toNat ∨ offset.toInt < -2048 ∨ 2047 < offset.toInt →
      exec (.handoverDone (.stack x) seq key offset) s = .next (s1.turnedAway (.stack x) seq .badParam)))
  ∧ (∀ (c : Core) (x : Sys2Proof.Sub), activeCall c x = true ↔
    ∃ n v, c.voiceSession = some (n, v) ∧ n.owner = x ∧ v.traffic ≠ none)
  ∧ (orNone 4 bytesKey none = [0, 0, 0, 0, 0]
    ∧ ∀ k : CellKey, orNone 4 bytesKey (some k) = [1] ++ bytes16 k.frequency ++ bytes16 k.identity)
  ∧ (∀ (x : Sys2Proof.Sub) (s : State), s.env.load.phase ≠ .notBegun →
    (∀ t, (s.core.hoe.get x).holdEnd = some t → atOrAfter s.env.count t = true →
      exec (.holdExpiry x) s = .next
        (s.setCore { s.core with hoe := s.core.hoe.set x { s.core.hoe.get x with holdEnd := none } }))
    ∧ (((s.core.hoe.get x).holdEnd = none ∨ ∃ t, (s.core.hoe.get x).holdEnd = some t ∧ atOrAfter s.env.count t = false) →
      exec (.holdExpiry x) s = .next s))
  ∧ (∀ (e : Env) (x : Sys2Proof.Sub) (c : Core) (t : Time), (c.hoe.get x).holdEnd = some t → evaluateHandover e x c = c)
  ∧ (∀ (e : Env) (x : Sys2Proof.Sub) (offset : Time) (c cleared : Core),
    cleared = { c with
      msu := { c.msu with tables := c.msu.tables.set x { c.msu.tables.get x with
        slots := (c.msu.tables.get x).slots.map (Option.map fun r => { r with entry := none, reported := false }) } }
      hoe := c.hoe.set x { c.hoe.get x with weak := .clear } } →
    clearTrigger x c = cleared
    ∧ completeHandover e x offset c = rebaseCall e x offset { cleared with
        hoe := c.hoe.set x { c.hoe.get x with
          weak := .clear
          holdEnd := if (c.hoe.get x).holdTime = 0 then none else some (e.count + tu (c.hoe.get x).holdTime) } })
  ∧ ∀ (e : Env) (x : Sys2Proof.Sub) (offset : Time) (c : Core),
    ((offset = 0 ∨ c.voiceSession = none) → rebaseCall e x offset c = c)
    ∧ ∀ n v, c.voiceSession = some (n, v) →
      ((n.owner ≠ x ∨ v.traffic = none) → rebaseCall e x offset c = c)
      ∧ ∀ tr, n.owner = x → v.traffic = some tr → offset ≠ 0 →
        (tr.record = none →
          rebaseCall e x offset c = c.setTraffic n.handle { tr with anchor := tr.anchor + offset })
        ∧ ∀ h, tr.record = some h → rebaseCall e x offset c =
          shiftCadence e h offset (c.setTraffic n.handle { tr with anchor := tr.anchor + offset })

/-- The serving mechanism: in a table of 12 slots the named key becomes the one SERVING record, and a change of the serving
key clears the trigger state, each record keeping its filter (R71, R73, R103). A key that is not in the table gets a new record,
EMPTY, in the lowest free slot, or in the slot of the evicted NEIGHBOUR: the EMPTY one in the lowest slot, and without one the
VALID one whose last update lies furthest before now, the lowest slot among equals, its accumulator discarded with it (R1, R71,
R73, R74). -/
def Obligations.ServingMechanism : Prop :=
  (∀ (e : Env) (x : Sys2Proof.Sub) (key : CellKey) (c t : Core) (ch : ServingChange),
    (c.cells x).slots.length = 12 → makeServing e x key c = (t, ch) →
    (t.cells x).slots.length = 12
    ∧ (∃ r, servingCell (t.cells x).slots = some r ∧ r.key = key)
    ∧ (∀ r, some r ∈ (t.cells x).slots → (r.role = .serving ↔ r.key = key))
    ∧ (ch.changed = decide ((servingCell (c.cells x).slots).map Cell.key ≠ some key))
    ∧ (ch.changed = true → (t.hoe.get x).weak = .clear
      ∧ ∀ r, some r ∈ (t.cells x).slots → r.entry = none ∧ r.reported = false)
    ∧ (∀ i q, cellAt (c.cells x).slots i = some q → (ch.inserted = false ∨ i ≠ ch.slot) →
      ∃ r, cellAt (t.cells x).slots i = some r ∧ r.key = q.key ∧ r.level = q.level ∧ r.updates = q.updates
        ∧ r.offset = q.offset ∧ r.barred = q.barred))
  ∧ (∀ (e : Env) (x : Sys2Proof.Sub) (key : CellKey) (c t : Core) (ch : ServingChange),
    makeServing e x key c = (t, ch) →
    (∀ i, slotOf (c.cells x).slots key = some i →
      ch.slot = i ∧ ch.inserted = false ∧ ch.evicted = none ∧ t.msu.view = c.msu.view)
    ∧ (∀ i, slotOf (c.cells x).slots key = none → (c.cells x).slots[i]? = some none
      → (∀ j, j < i → ∃ r, cellAt (c.cells x).slots j = some r) →
      ch.slot = i ∧ ch.inserted = true ∧ ch.evicted = none ∧ t.msu.view = c.msu.view
      ∧ cellAt (t.cells x).slots i = some ⟨key, .serving, 0, false, none, 0, none, false⟩))
  ∧ ∀ (e : Env) (x : Sys2Proof.Sub) (key : CellKey) (c t : Core) (ch : ServingChange) (slots : List (Option Cell)) (i : Nat)
      (q : Cell), makeServing e x key c = (t, ch) → slots = (c.cells x).slots → (∀ o ∈ slots, ∃ r, o = some r ∧ r.key ≠ key)
    → slots[i]? = some (some q)
    → (q.level = none ∧ (∀ j r, j < i → slots[j]? = some (some r) → r.level ≠ none)
      ∨ ∃ l, q.level = some l ∧ ∀ j r, slots[j]? = some (some r) → ∃ m, r.level = some m
        ∧ (e.count - m.updated).toInt ≤ (e.count - l.updated).toInt
        ∧ (j < i → (e.count - m.updated).toInt < (e.count - l.updated).toInt)) →
    ch.slot = i ∧ ch.inserted = true ∧ ch.evicted = some q.key
    ∧ cellAt (t.cells x).slots i = some ⟨key, .serving, 0, false, none, 0, none, false⟩
    ∧ t.msu.view = c.msu.view.map fun v =>
      if v.owner = x then { v with accs := v.accs.filter fun a => decide (a.key ≠ q.key) } else v

/-- How an evaluation brings WEAK and BETTER forward: entry, the band that holds, leave, and the report after the time to
trigger, once (R95, R96, R97); and the walk of an evaluation: the serving reference, the reset of the timing without one, the
slots in order, and the events in the order found (R94, R98, R99, R101, R102). -/
def Obligations.ConditionsJudged : Prop :=
  (∀ (now : Time) (ttt : Nat) (threshold q : Int),
    (threshold ≤ q → judgeWeak now ttt threshold q .clear = (.clear, none))
    ∧ (q < threshold → 1 ≤ ttt → judgeWeak now ttt threshold q .clear = (.pending now, none))
    ∧ (q < threshold → ttt = 0 → judgeWeak now ttt threshold q .clear = (.reported now, some .servingWeak))
    ∧ ∀ entry,
      (threshold + 64 ≤ q → judgeWeak now ttt threshold q (.pending entry) = (.clear, none)
        ∧ judgeWeak now ttt threshold q (.reported entry) = (.clear, some .servingRecovered))
      ∧ (q < threshold + 64 → judgeWeak now ttt threshold q (.reported entry) = (.reported entry, none)
        ∧ (atOrAfter now entry = true → ttt ≤ (now - entry).toNat →
          judgeWeak now ttt threshold q (.pending entry) = (.reported entry, some .servingWeak))
        ∧ (atOrAfter now entry = true → (now - entry).toNat < ttt →
          judgeWeak now ttt threshold q (.pending entry) = (.pending entry, none))))
  ∧ (∀ (now : Time) (ttt : Nat) (h diff : Int) (r : Cell),
    (r.entry = none →
      (diff ≤ h → judgeBetter now ttt h diff r = (r, false))
      ∧ (h < diff → 1 ≤ ttt → judgeBetter now ttt h diff r = ({ r with entry := some now, reported := false }, false))
      ∧ (h < diff → ttt = 0 → judgeBetter now ttt h diff r = ({ r with entry := some now, reported := true }, true)))
    ∧ ∀ entry, r.entry = some entry →
      (diff ≤ h - 64 → judgeBetter now ttt h diff r = ({ r with entry := none, reported := false }, false))
      ∧ (h - 64 < diff →
        (r.reported = true → judgeBetter now ttt h diff r = (r, false))
        ∧ (r.reported = false → atOrAfter now entry = true → ttt ≤ (now - entry).toNat →
          judgeBetter now ttt h diff r = ({ r with reported := true }, true))
        ∧ (r.reported = false → atOrAfter now entry = true → (now - entry).toNat < ttt →
          judgeBetter now ttt h diff r = (r, false))))
  ∧ (∀ (e : Env) (c : Core) (x : Sys2Proof.Sub) (key : CellKey) (q : Int), servingReference e c x = some (key, q) ↔
    ∃ r l, servingCell (c.cells x).slots = some r ∧ r.key = key ∧ r.level = some l
      ∧ l.staleAt (c.cells x).stale e.count = false ∧ l.value = q)
  ∧ (∀ (e : Env) (x : Sys2Proof.Sub) (c : Core), (c.hoe.get x).holdEnd = none →
    (servingReference e c x = none → evaluateHandover e x c = resetTiming x c)
    ∧ ∀ key q weak kind slots evs, servingReference e c x = some (key, q)
      → judgeWeak e.count (c.hoe.get x).ttt (64 * (c.hoe.get x).weakDbm) q (c.hoe.get x).weak = (weak, kind)
      → judgeSlots e x (c.hoe.get x) (c.cells x).stale q (c.cells x).slots = (slots, evs) →
      evaluateHandover e x c =
        (kind.toList.map (fun k => Event.mk k (.cell x key) e.count (BitVec.ofInt 16 q)
            (BitVec.ofInt 16 (64 * (c.hoe.get x).weakDbm))) ++ evs).foldl (fun c' ev => post e (.stack x) ev c')
          { c with
            hoe := c.hoe.set x { c.hoe.get x with weak := weak }
            msu := { c.msu with tables := c.msu.tables.set x { c.cells x with slots := slots } } })
  ∧ (∀ (x : Sys2Proof.Sub) (c reset : Core),
    reset = { c with msu := { c.msu with tables := c.msu.tables.set x { c.cells x with
      slots := (c.cells x).slots.map (Option.map fun r => { r with entry := none, reported := false }) } } } →
    (∀ entry, (c.hoe.get x).weak = .pending entry →
      resetTiming x c = { reset with hoe := c.hoe.set x { c.hoe.get x with weak := .clear } })
    ∧ ((∀ entry, (c.hoe.get x).weak ≠ .pending entry) → resetTiming x c = reset))
  ∧ (∀ (e : Env) (x : Sys2Proof.Sub) (p : Hoe) (limit : Nat) (q : Int) (rest after : List (Option Cell))
      (evs : List Event), judgeSlots e x p limit q rest = (after, evs) →
    judgeSlots e x p limit q [] = ([], [])
    ∧ judgeSlots e x p limit q (none :: rest) = (none :: after, evs)
    ∧ ∀ r r' ev, judgeSlot e x p limit q r = (r', ev) →
      judgeSlots e x p limit q (some r :: rest) = (some r' :: after, ev ++ evs))
  ∧ ∀ (e : Env) (x : Sys2Proof.Sub) (p : Hoe) (limit : Nat) (q : Int) (r : Cell),
    (r.role = .serving → judgeSlot e x p limit q r = (r, []))
    ∧ (r.role = .neighbour →
      ((r.level = none ∨ r.barred = true ∨ ∃ l, r.level = some l ∧ l.staleAt limit e.count = true) →
        judgeSlot e x p limit q r = ({ r with entry := none, reported := false }, []))
      ∧ ∀ l r' told, r.level = some l → r.barred = false → l.staleAt limit e.count = false
        → judgeBetter e.count p.ttt (32 * p.hysteresis) (l.value + 32 * r.offset - q) r = (r', told) →
        judgeSlot e x p limit q r = (r', if told = true then
          [⟨.hoCandidate, .cell x r.key, e.count, BitVec.ofInt 16 (l.value + 32 * r.offset), BitVec.ofInt 16 q⟩] else []))

/-! ### Coverage loss and search -/

/-- SERVICE_LOST, SEARCH_RESULT, SEARCH_PLAN, SEARCH_RESTART, and the deadline and due time of an attempt (R111, R116, R117,
R118, R119, R120, R121, R122, R123). That the first attempt of SERVICE_LOST begins after the Session Manager has met the change
of coverage is the model's choice (log entry 45). A restart removes the attempt with its end reported, makes the coverage NEAR
with cause RESTART and begins the first attempt (R123). The answers' bytes are field by field (R219), an absent attempt or key a
presence byte and zeros (log entry 19). The refusals: a result that is neither FOUND nor NOT_FOUND, a cell identity above 1023 with
a FOUND, a band above 7, a subscription that is none, and one that is not ATTACHED (R121, R122, R123). -/
def Obligations.SearchCommands : Prop :=
  (∀ (x : Sys2Proof.Sub) (seq : Byte) (s s1 : State), Acts s x → s1 = restartMonitor (.stack x) s →
    ((s.core.csc.get x).coverage = .near ∨ (s.core.csc.get x).coverage = .wide ∨ (s.core.csc.get x).coverage = .dormant →
      exec (.serviceLost (.stack x) seq) s = .next
        (s1.replied (.stack x) seq (attemptBytes (s.core.csc.get x).coverage none)))
    ∧ (∀ c made, (s.core.csc.get x).coverage = .noCell ∨ (s.core.csc.get x).coverage = .inService
      → firstAttempt s.env x (setCoverage s.env x .near .serviceLost s1.core) = (c, made) →
      exec (.serviceLost (.stack x) seq) s = .next
        ((s1.setCore c).settled.replied (.stack x) seq (attemptBytes .near made)))
    ∧ (∀ (key : CellKey) (deadline reference : Time), (s.core.csc.get x).phase = .awaiting deadline reference →
      (key.identity.toNat ≤ 1023 → ∀ c ch,
        makeServing s.env x key (s1.core.setSearch x { s.core.csc.get x with phase := .idle, late := false }) = (c, ch) →
        exec (.searchResult (.stack x) seq 0 key) s = .next
          ((s1.setCore (setCoverage s.env x .inService .found c)).settled.replied (.stack x) seq (foundBytes ch)))
      ∧ ∀ t, t = s1.react (fun e c => countAttempt e x reference c) →
        exec (.searchResult (.stack x) seq 1 key) s = .next
          (t.replied (.stack x) seq [BitVec.ofNat 8 (t.core.csc.get x).coverage.code]))
    ∧ (∀ (key : CellKey) (result : Byte), (∀ d r, (s.core.csc.get x).phase ≠ .awaiting d r) →
      result = 1 ∨ (result = 0 ∧ key.identity.toNat ≤ 1023) →
      exec (.searchResult (.stack x) seq result key) s = .next
        (s1.turnedAway (.stack x) seq (if (s.core.csc.get x).late then .tooLate else .noSuch)))
    ∧ (∀ (frequency : Half) (band : Byte), band.toNat ≤ 7 →
      exec (.searchPlan (.stack x) seq frequency band) s = .next
        ((s1.setCore (s1.core.setSearch x
          { s.core.csc.get x with planFrequency := frequency, planBand := band.setWidth 3 })).replied (.stack x) seq
            (bytes16 frequency ++ [band] ++ handleOrNone (s.core.csc.get x).phase.record))))
  ∧ (∀ (seq sub : Byte) (x : Sys2Proof.Sub) (s : State), Ready s .app → Sub.ofByte sub = some x
    → s.core.attached x = true →
    (∀ c made, (s.core.csc.get x).coverage ≠ .inService → restartLadder s.env x s.core = (c, made) →
      exec (.searchRestart .app seq sub) s = .next ((s.setCore c).settled.replied .app seq (attemptBytes .near made)))
    ∧ ((s.core.csc.get x).coverage = .inService →
      exec (.searchRestart .app seq sub) s = .next (s.turnedAway .app seq .notPermitted)))
  ∧ (∀ (e : Env) (x : Sys2Proof.Sub) (c : Core),
    restartLadder e x c = firstAttempt e x (setCoverage e x .near .restart (removeAttempt e x true c)))
  ∧ (∀ cov : Coverage, attemptBytes cov none = [BitVec.ofNat 8 cov.code, 0, 0, 0, 0, 0, 0, 0]
    ∧ ∀ (h : Handle) (start : Time),
      attemptBytes cov (some (h, start)) = [BitVec.ofNat 8 cov.code, 1, h.index, h.generation] ++ bytes32 start)
  ∧ (Coverage.code .noCell = 0 ∧ Coverage.code .inService = 1 ∧ Coverage.code .near = 2 ∧ Coverage.code .wide = 3
    ∧ Coverage.code .dormant = 4)
  ∧ (∀ ch : ServingChange, foundBytes ch = [1, BitVec.ofNat 8 ch.slot, if ch.inserted then 1 else 0]
    ++ match ch.evicted with
      | none => [0, 0, 0, 0, 0]
      | some k => [1] ++ bytes16 k.frequency ++ bytes16 k.identity)
  ∧ (∀ (x : Sys2Proof.Sub) (seq : Byte) (s s1 : State), Acts s x → s1 = restartMonitor (.stack x) s →
    (∀ (key : CellKey) (result : Byte), 1 < result.toNat ∨ (result = 0 ∧ 1023 < key.identity.toNat) →
      exec (.searchResult (.stack x) seq result key) s = .next (s1.turnedAway (.stack x) seq .badParam))
    ∧ ∀ (frequency : Half) (band : Byte), 7 < band.toNat →
      exec (.searchPlan (.stack x) seq frequency band) s = .next (s1.turnedAway (.stack x) seq .badParam))
  ∧ (∀ (seq sub : Byte) (s : State), Ready s .app →
    (1 < sub.toNat → exec (.searchRestart .app seq sub) s = .next (s.turnedAway .app seq .badParam))
    ∧ ∀ x, Sub.ofByte sub = some x → s.core.attached x = false →
      exec (.searchRestart .app seq sub) s = .next (s.turnedAway .app seq .notAttached))
  ∧ ∀ (x : Sys2Proof.Sub) (s : State), s.env.load.phase ≠ .notBegun →
    (∀ deadline reference, (s.core.csc.get x).phase = .awaiting deadline reference
      → atOrAfter s.env.count deadline = true →
      exec (.searchResultDeadline x) s = .next (s.react fun e c =>
        countAttempt e x reference (c.setSearch x { c.csc.get x with late := true })))
    ∧ ∀ due, (s.core.csc.get x).phase = .unplaced due → atOrAfter s.env.count due = true →
      exec (.searchDueTime x) s = .next (s.react fun e c => countAttempt e x due
        (post e (.stack x) ⟨.searchReport, .none, e.count, 0, -1⟩ c))

/-- The ladder's stages, intervals and window lengths (R111, R112, R117), and the best sample of a search window: the first of
the strongest, with the sample count stopping at 32767 (R114); how an attempt begins, is counted, is lost and is removed, and what
the end of its window reports (R113, R115, R117, R119). That an attempt of the next stage begins after the Session Manager has met
the change of coverage is the model's choice (log entry 45). -/
def Obligations.SearchLadder : Prop :=
  (∀ n, nextStage .near n = if n = 10 then some .wide else none)
  ∧ (∀ n, nextStage .wide n = if n = 12 then some .dormant else none)
  ∧ (∀ n, nextStage .dormant n = none)
  ∧ (∀ e : Env, attemptInterval e .near = 32000 ∧ attemptInterval e .wide = 160000
    ∧ (e.supply = .normal → attemptInterval e .dormant = 1920000)
    ∧ (e.supply ≠ .normal → attemptInterval e .dormant = 5760000))
  ∧ attemptLength .near = 320 ∧ attemptLength .wide = 3200 ∧ attemptLength .dormant = 3200
  ∧ (∀ (x : Sys2Proof.Sub) (key : CellKey) (level : Int) (c : Core) (h : Handle) (best : Option (CellKey × Int)) (n : Nat),
    (c.csc.get x).phase = .listening h best n →
    ∃ best', (searchSample x key level c).csc = c.csc.set x
        { c.csc.get x with phase := .listening h (some best') (min 32767 (n + 1)) }
      ∧ (best = none → best' = (key, level))
      ∧ ∀ k l, best = some (k, l) → (l < level → best' = (key, level)) ∧ (level ≤ l → best' = (k, l)))
  ∧ (∀ (e : Env) (x : Sys2Proof.Sub) (attempt : Nat) (desired : Time) (c : Core) (r : Reservation),
    r = newRecord x .search desired 3200 (attemptLength (c.csc.get x).coverage) (c.csc.get x).planFrequency
      (c.csc.get x).planBand →
    (∀ d h start, createRecord e r c = (d, .created h start) → beginAttempt e x attempt desired c =
      (post e (.stack x)
        ⟨.searchWindow, .reservation x h, start, value16 (c.csc.get x).coverage.code, value16 attempt⟩
        { d with csc := d.csc.set x { c.csc.get x with attempt := attempt, phase := .placed h } }, some (h, start)))
    ∧ ∀ d made, createRecord e r c = (d, made) → (∀ h start, made ≠ .created h start) →
      beginAttempt e x attempt desired c =
        ({ d with csc := d.csc.set x { c.csc.get x with attempt := attempt, phase := .unplaced desired } }, none))
  ∧ (∀ (e : Env) (x : Sys2Proof.Sub) (c : Core), firstAttempt e x c = beginAttempt e x 1 (e.count + 4) c)
  ∧ (∀ (e : Env) (x : Sys2Proof.Sub) (reference : Time) (c : Core),
    (∀ stage, nextStage (c.csc.get x).coverage (c.csc.get x).attempt = some stage → countAttempt e x reference c =
      (beginAttempt e x 1 (laterOf (reference + tu (attemptInterval e stage)) (e.count + 4))
        (setCoverage e x stage .stageLimit c)).1)
    ∧ (nextStage (c.csc.get x).coverage (c.csc.get x).attempt = none → countAttempt e x reference c =
      (beginAttempt e x (min 65535 ((c.csc.get x).attempt + 1))
        (laterOf (reference + tu (attemptInterval e (c.csc.get x).coverage)) (e.count + 4)) c).1))
  ∧ (∀ (e : Env) (x : Sys2Proof.Sub) (cov : Coverage) (cause : CoverageCause) (c : Core),
    ((c.csc.get x).coverage = cov → setCoverage e x cov cause c = c)
    ∧ ((c.csc.get x).coverage ≠ cov → setCoverage e x cov cause c =
      lookAgain e x (post e .app ⟨.coverage, .subscription x, e.count, value16 cov.code, value16 cause.code⟩
        { c with csc := c.csc.set x { c.csc.get x with coverage := cov } })))
  ∧ (∀ (e : Env) (x : Sys2Proof.Sub) (reported : Bool) (c idle : Core),
    idle = { c with csc := c.csc.set x { c.csc.get x with phase := .idle, late := false } } →
    (∀ h r, ((c.csc.get x).phase = .placed h ∨ ∃ best n, (c.csc.get x).phase = .listening h best n)
      → c.reservation h = some r → removeAttempt e x reported c = withdrawRecord e .withdrawn reported r idle)
    ∧ (((c.csc.get x).phase = .idle ∨ (∃ d u, (c.csc.get x).phase = .awaiting d u)
        ∨ ∃ u, (c.csc.get x).phase = .unplaced u) → removeAttempt e x reported c = idle))
  ∧ (∀ (e : Env) (r : Reservation) (c : Core) (best : Option (CellKey × Int)) (n : Nat) (ends : Time),
    (c.csc.get r.owner).phase = .listening r.handle best n → ends = r.start + tu r.length →
    searchEnded e r c =
      post e (.stack r.owner)
        (match best with
          | none => ⟨.searchReport, .none, ends, 0, value16 n⟩
          | some (key, level) => ⟨.searchReport, .cell r.owner key, ends, BitVec.ofInt 16 (16 * level), value16 n⟩)
        { c with csc :=
          c.csc.set r.owner { c.csc.get r.owner with phase := .awaiting (ends + 32000) ends, late := false } })
  ∧ (∀ (e : Env) (r : Reservation) (c : Core), (∀ best n, (c.csc.get r.owner).phase ≠ .listening r.handle best n) →
    searchEnded e r c = c)
  ∧ ∀ (e : Env) (x : Sys2Proof.Sub) (h : Handle) (reference : Time) (c : Core),
    ((c.csc.get x).phase = .placed h → attemptLost e x h reference c =
      countAttempt e x reference (post e (.stack x) ⟨.searchReport, .none, e.count, 0, -1⟩ c))
    ∧ ((c.csc.get x).phase ≠ .placed h → attemptLost e x h reference c = c)

/-! ### RF contexts and the control bus -/

/-- RF_WRITE and RF_READ join the queue of the port's stack with the next ticket, QUEUED behind others or at the head of an empty
queue, where the transaction is examined at once (R140); the answer gives the ticket's place, 0 when it has completed; a device that
is not present, and a fifth transaction, are refused (R139, R148, R149). The transfer in flight on RFC_DAT: the bits the part drives,
step by step, the outcome that the levels of the acknowledge slots and the busy step give, and the value of step 7 (R124, R220);
a TIMEOUT is the busy step held too long. That a field's most significant bit comes first, that a command gives the levels of a
whole transfer, and that a high level is a 1, are the model's choices (log entry 57). A transfer that COORDINATOR_RESET has left
without effect ends without one (R147). -/
def Obligations.BridgeCommands : Prop :=
  (∀ (x : Sys2Proof.Sub) (seq device register : Byte) (d : Device) (s s1 : State), Acts s x
    → s1 = restartMonitor (.stack x) s → Device.ofByte device = some d → s.env.has d = true →
    ((s.core.bridge x).queue.length < 4 →
      (∀ (value : Half) c, joinQueue s.env x (.write value) d register s1.core = c →
        exec (.rfWrite (.stack x) seq device register value) s = .next
          ((s1.setCore c).settled.replied (.stack x) seq
            [(s.core.bridge x).ticket + 1, BitVec.ofNat 8 (ticketPosition c x ((s.core.bridge x).ticket + 1))]))
      ∧ ∀ c, joinQueue s.env x .read d register s1.core = c →
        exec (.rfRead (.stack x) seq device register) s = .next
          ((s1.setCore c).settled.replied (.stack x) seq
            [(s.core.bridge x).ticket + 1, BitVec.ofNat 8 (ticketPosition c x ((s.core.bridge x).ticket + 1))]))
    ∧ (4 ≤ (s.core.bridge x).queue.length →
      exec (.rfRead (.stack x) seq device register) s = .next (s1.turnedAway (.stack x) seq .busy)
      ∧ ∀ value, exec (.rfWrite (.stack x) seq device register value) s = .next
        (s1.turnedAway (.stack x) seq .busy)))
  ∧ (∀ (e : Env) (x : Sys2Proof.Sub) (kind : TxnKind) (d : Device) (reg : Byte) (c : Core),
    ((c.bridge x).queue ≠ [] → joinQueue e x kind d reg c = c.setBridge x
      ⟨(c.bridge x).queue ++ [⟨(c.bridge x).ticket + 1, kind, d, reg, c.scopeOf e d reg, .queued, false, false, false, 0,
        false⟩], (c.bridge x).ticket + 1⟩)
    ∧ ((c.bridge x).queue = [] → joinQueue e x kind d reg c = examine e x (c.setBridge x
      ⟨[⟨(c.bridge x).ticket + 1, kind, d, reg, c.scopeOf e d reg, .queued, false, false, false, 0, false⟩],
        (c.bridge x).ticket + 1⟩)))
  ∧ (∀ (x : Sys2Proof.Sub) (seq device register : Byte) (s s1 : State), Acts s x → s1 = restartMonitor (.stack x) s
    → (∀ d, Device.ofByte device = some d → s.env.has d = false) →
    exec (.rfRead (.stack x) seq device register) s = .next (s1.turnedAway (.stack x) seq .badParam)
    ∧ ∀ value, exec (.rfWrite (.stack x) seq device register value) s = .next
      (s1.turnedAway (.stack x) seq .badParam))
  ∧ (∀ (c : Core) (x : Sys2Proof.Sub) (ticket : Byte),
    ((∀ t ∈ (c.bridge x).queue, t.ticket ≠ ticket) → ticketPosition c x ticket = 0)
    ∧ ∀ earlier t later, (c.bridge x).queue = earlier ++ t :: later → t.ticket = ticket
      → (∀ q ∈ earlier, q.ticket ≠ ticket) → ticketPosition c x ticket = earlier.length + 1)
  ∧ (∀ (t : Transfer) (device register : List Bool),
    device = [decide (2 ≤ t.device.number), decide (t.device.number % 2 = 1)]
    → register = List.ofFn (fun i : Fin 8 => t.register.getLsbD (7 - i)) →
    (∀ v : Half, t.kind = .write v → t.steps =
      [.driven (false :: device), .acknowledge false .addressNak, .driven register,
        .driven (List.ofFn fun i : Fin 16 => v.getLsbD (15 - i)), .acknowledge true .dataNak, .busy])
    ∧ (t.kind = .read → t.steps =
      [.driven (true :: device), .acknowledge false .addressNak, .driven register, .acknowledge true .dataNak, .busy,
        .returned]))
  ∧ (∀ (b : BusReply) (t : Transfer),
    (b.slots.address = true → b.outcome t.steps = .addressNak)
    ∧ (b.slots.address = false → b.slots.data = true → b.outcome t.steps = .dataNak)
    ∧ (b.slots.address = false → b.slots.data = false → b.outcome t.steps = if b.heldLong = true then .timeout else .done)
    ∧ ∀ v : Half, b.returned = List.ofFn (fun i : Fin 16 => v.getLsbD (15 - i)) → b.value = v)
  ∧ ∀ (t : Transfer) (s : State), s.env.load.phase ≠ .notBegun → s.core.rcc.bus = some t →
    (∀ (slots : AckSlots) (value : Half) (returned : List Bool) (outcome : BusOutcome),
      returned = List.ofFn (fun i : Fin 16 => value.getLsbD (15 - i))
      → outcome = (if slots.address = true then .addressNak else if slots.data = true then .dataNak else .done) →
      exec (.busTransferEnd slots returned) s = .next (s.react fun e c =>
        (if t.void then { c with rcc := { c.rcc with bus := none } }
          else takeOutcome e t outcome value { c with rcc := { c.rcc with bus := none } }).trigger))
    ∧ exec .busTransferTimeout s = .next (s.react fun e c =>
      (if t.void then { c with rcc := { c.rcc with bus := none } }
        else takeOutcome e t .timeout 0 { c with rcc := { c.rcc with bus := none } }).trigger)

/-- The examination of a head by the rows of R140, its absorbed and shadowed ends (R141, R146), its deferral (R142), and how it
goes to its device: READY, waiting for replay writes, trapped with a power request, or, once its device is ON, RESTARTING (R129,
R130, R144, R156). How a head completes, with the value of its BRIDGE_DONE, and the next is examined (R143, R146), and which heads
are examined when a device enters ON or its replay list ends (R129, R140), A's before B's by log entry 16. That a deferred head is neither trapped nor asking for power is the model's choice (log entry 46). -/
def Obligations.HeadExamination : Prop :=
  (∀ (e : Env) (x : Sys2Proof.Sub) (d : Device) (reg : Byte) (v : Half) (c : Core),
    (c.foreign x = true ↔ ∃ w, c.rcc.view = some w ∧ w.owner = x.other)
    ∧ (c.mapIndex e d reg = none → ownValue e c x d reg = none ∧ storeValue e (some x) d reg v c = c)
    ∧ ∀ i m, c.mapIndex e d reg = some i → c.rcc.shadow[i]? = some m →
      (m.entry.scope = .common → ownValue e c x d reg = none
        ∧ storeValue e (some x) d reg v c = c.setShadow (c.rcc.shadow.set i { m with common := some v }))
      ∧ (m.entry.scope = .context → ownValue e c x d reg = m.own.get x
        ∧ storeValue e (some x) d reg v c = c.setShadow (c.rcc.shadow.set i { m with own := m.own.set x (some v) })))
  ∧   (∀ (e : Env) (x : Sys2Proof.Sub) (t : Txn) (c : Core),
    (∀ v, t.kind = .write v →
      (t.scope = some .context → c.foreign x = true → finding e x t c = .absorb v)
      ∧ (t.scope ≠ some .context → c.foreign x = true → finding e x t c = .defer)
      ∧ (c.foreign x = false → finding e x t c = .toDevice))
    ∧ (t.kind = .read →
      (∀ v, t.scope = some .context → ownValue e c x t.device t.register = some v → finding e x t c = .fromShadow v)
      ∧ ((t.scope ≠ some .context ∨ ownValue e c x t.device t.register = none) →
        (c.foreign x = true → finding e x t c = .defer)
        ∧ (c.foreign x = false → finding e x t c = .toDevice))))
  ∧ (∀ (e : Env) (x : Sys2Proof.Sub) (t : Txn) (rest : List Txn) (v : Half) (c : Core),
    (c.bridge x).queue = t :: rest →
    (finding e x t c = .absorb v → t.kind = .write v →
      examineHead e x c =
        ((post e (.stack x) ⟨.bridgeDone, .ticket x t.ticket, e.count, value16 4, v⟩
          ((storeValue e (some x) t.device t.register v c).setBridge x { c.bridge x with queue := rest })).trigger, true))
    ∧ (finding e x t c = .fromShadow v → t.kind = .read →
      examineHead e x c =
        ((post e (.stack x) ⟨.bridgeDone, .ticket x t.ticket, e.count, value16 5, v⟩
          (c.setBridge x { c.bridge x with queue := rest })).trigger, true)))
  ∧ (∀ (e : Env) (x : Sys2Proof.Sub) (t : Txn) (rest : List Txn) (c : Core), (c.bridge x).queue = t :: rest →
    (finding e x t c = .defer → examineHead e x c = (c.setBridge x { c.bridge x with
      queue := { t with state := .deferred, trapped := false, request := false } :: rest }, false))
    ∧ (finding e x t c = .toDevice → examineHead e x c = (c.setBridge x { c.bridge x with
      queue := goToDevice t c :: rest }, false)))
  ∧ (∀ (t t1 : Txn) (c : Core), t1 = { t with released := t.released || decide (t.state = .deferred) } →
    (c.power t.device ≠ .on → goToDevice t c =
      { t1 with
        state := .waitingPower, trapped := true
        request := t.request || decide (c.power t.device = .off ∨ (c.power t.device).isFalling = true) })
    ∧ (c.power t.device = .on →
      ((∃ p ∈ c.rcc.replay, p.device = t.device) → goToDevice t c = { t1 with state := .waitingPower, request := false })
      ∧ ((∀ p ∈ c.rcc.replay, p.device ≠ t.device) →
        (t.trapped = true → goToDevice t c =
          { t1 with state := .restarting, request := false, position := 0, begun := false })
        ∧ (t.trapped = false → goToDevice t c = { t1 with state := .ready, request := false }))))
  ∧ (∀ (e : Env) (x : Sys2Proof.Sub) (n : Nat) (c d : Core),
    (examineHead e x c = (d, true) → examineFrom e x (n + 1) c = examineFrom e x n d)
    ∧ (examineHead e x c = (d, false) → examineFrom e x (n + 1) c = d)
    ∧ examine e x c = examineFrom e x 5 c)
  ∧ (∀ (e : Env) (x : Sys2Proof.Sub) (outcome : Nat) (read : Option Half) (c : Core),
    ((c.bridge x).queue = [] → completeHead e x outcome read c = c)
    ∧ (∀ t rest, (c.bridge x).queue = t :: rest → completeHead e x outcome read c =
      { post e (.stack x) ⟨.bridgeDone, .ticket x t.ticket, e.count, value16 outcome,
          match t.kind, read with
            | .write v, _ => v
            | .read, some v => v
            | .read, none => 0⟩
          (c.setBridge x { c.bridge x with queue := rest }) with
        evaluate := true })
    ∧ completeAndExamine e x outcome read c = examine e x (completeHead e x outcome read c))
  ∧ ∀ (e : Env) (d : Device) (c a : Core) (waits : Core → Sys2Proof.Sub → Bool),
    (∀ k x, waits k x = true ↔ ∃ t, (k.bridge x).queue.head? = some t ∧ t.state = .waitingPower ∧ t.device = d)
    → a = (if waits c .A then examine e .A c else c) →
    examineWaiting e d c = if waits a .B then examine e .B a else a

/-- What the end of a transfer leaves: the set values (R127), the live table row by row of R128 and what a device that leaves ON
does to it (R124, R129), the tuning mark (R135), the answer check and the POWER_FAIL of trapped heads when the device is not
answering (R130, R145), and the work it belongs to, with the DEGRADED mark of a failed write (R134, R136, R137, R143, R144). That
the answer check comes before the work is the model's choice (log entry 48), as is A's head before B's (log entry 16); that a head
which waits for the replay list alone, and was never trapped, does not complete POWER_FAIL is read from the manual by inference
(log entry 36). -/
def Obligations.TransferEnds : Prop :=
  (∀ (e : Env) (t : Transfer) (outcome : BusOutcome) (value : Half) (c : Core) (i : Nat) (m : ShadowEntry),
    c.mapIndex e t.device t.register = some i → c.rcc.shadow[i]? = some m →
    (t.deviceLeft = true → transferLive e t outcome value c = c)
    ∧ (t.deviceLeft = false →
      (∀ v, t.kind = .write v →
        (outcome = .done →
          (transferLive e t outcome value c).rcc.shadow = c.rcc.shadow.set i { m with live := some v })
        ∧ (outcome ≠ .done →
          (transferLive e t outcome value c).rcc.shadow = c.rcc.shadow.set i { m with live := none }))
      ∧ (t.kind = .read →
        (outcome = .done →
          (transferLive e t outcome value c).rcc.shadow = c.rcc.shadow.set i { m with live := some value })
        ∧ (outcome ≠ .done → transferLive e t outcome value c = c))))
  ∧ (∀ (e : Env) (t : Transfer) (outcome : BusOutcome) (value : Half) (c : Core),
    c.mapIndex e t.device t.register = none → transferLive e t outcome value c = c)
  ∧ (∀ (d : Device) (c : Core),
    (∀ m ∈ (leavesOn d c).rcc.shadow, m.entry.device = d → m.live = none)
    ∧ (∀ (i : Nat) (m : ShadowEntry), c.rcc.shadow[i]? = some m → m.entry.device ≠ d → (leavesOn d c).rcc.shadow[i]? = some m)
    ∧ (∀ p ∈ (leavesOn d c).rcc.replay, p.device ≠ d) ∧ (leavesOn d c).rcc.answering.get d = .answering)
  ∧ (∀ (e : Env) (t : Transfer) (outcome : BusOutcome) (value : Half) (c kept told checked : Core),
    kept = transferLive e t outcome value (transferStores e t c)
    → told = { kept with rcc := { kept.rcc with prep := kept.rcc.prep.map fun p =>
        { p with tuningChanged := p.tuningChanged || decide (c.rcc.tuningLive ≠ kept.rcc.tuningLive) } } }
    → checked = endCheck e t outcome told →
    takeOutcome e t outcome value c = workEnded e t outcome value checked)
  ∧ (∀ (e : Env) (t : Transfer) (c : Core),
    (t.kind = .read → transferStores e t c = c)
    ∧ (t.ownerGone = true → transferStores e t c = c)
    ∧ ∀ v, t.kind = .write v → t.ownerGone = false →
      (c.mapIndex e t.device t.register = none → transferStores e t c = c)
      ∧ ∀ i m, c.mapIndex e t.device t.register = some i → c.rcc.shadow[i]? = some m →
        (m.entry.scope = .common →
          transferStores e t c = c.setShadow (c.rcc.shadow.set i { m with common := some v }))
        ∧ (∀ x, m.entry.scope = .context → t.owner = some x →
          transferStores e t c = c.setShadow (c.rcc.shadow.set i { m with own := m.own.set x (some v) })))
  ∧ (∀ (e : Env) (t : Transfer) (outcome : BusOutcome) (c : Core),
    ((t.check = false ∨ t.deviceLeft = true) → endCheck e t outcome c = c)
    ∧ (t.check = true → t.deviceLeft = false →
      (outcome ≠ .addressNak → endCheck e t outcome c =
        { c with rcc := { c.rcc with answering := c.rcc.answering.set t.device .answering } })
      ∧ ∀ dropped, outcome = .addressNak
        → dropped = { c with rcc := { c.rcc with
            answering := c.rcc.answering.set t.device .notAnswering
            replay := c.rcc.replay.filter fun p => decide (p.device ≠ t.device) } } →
        endCheck e t outcome c =
          examineWaiting e t.device (failTrapped e t.device (failTrapped e t.device dropped .A) .B)))
  ∧ (∀ (e : Env) (d : Device) (x : Sys2Proof.Sub) (c : Core),
    ((c.bridge x).queue = [] → failTrapped e d c x = c)
    ∧ ∀ t rest, (c.bridge x).queue = t :: rest →
      (t.trapped = true → t.device = d → failTrapped e d c x = examine e x
        { post e (.stack x) ⟨.bridgeDone, .ticket x t.ticket, e.count, value16 6, match t.kind with
            | .write v => v
            | .read => 0⟩ (c.setBridge x { c.bridge x with queue := rest }) with evaluate := true })
      ∧ ((t.trapped = false ∨ t.device ≠ d) → failTrapped e d c x = c))
  ∧ (∀ (e : Env) (t : Transfer) (c : Core),
    (c.rcc.view = none → degradeView e t c = c)
    ∧ ∀ v, c.rcc.view = some v →
      ((c.scopeOf e t.device t.register ≠ some .context ∨ (t.owner = some v.owner ∧ t.ownerGone = false)) →
        degradeView e t c = c.editReservation v.handle fun r => { r with degraded := true })
      ∧ (c.scopeOf e t.device t.register = some .context → (t.owner ≠ some v.owner ∨ t.ownerGone = true) →
        degradeView e t c = c))
  ∧ (∀ (e : Env) (t : Transfer) (c left : Core),
    left = { c with rcc := { c.rcc with
      replay := c.rcc.replay.filter fun p =>
        decide (¬(p.device = t.device ∧ c.mapIndex e t.device t.register = some p.entry)) } } →
    ((∃ p ∈ left.rcc.replay, p.device = t.device) → replayMade e t c = left)
    ∧ ((∀ p ∈ left.rcc.replay, p.device ≠ t.device) → replayMade e t c = examineWaiting e t.device left))
  ∧ ∀ (e : Env) (t : Transfer) (outcome : BusOutcome) (value : Half) (c marked : Core) (failed : Bool),
    (failed = true ↔ outcome ≠ .done ∧ t.kind ≠ .read) → marked = (if failed = true then degradeView e t c else c) →
    (t.cause = .preparation →
      ((failed = false ∨ t.dropped = true ∨ c.rcc.prep = none) → workEnded e t outcome value c = c)
      ∧ ∀ p, failed = true → t.dropped = false → c.rcc.prep = some p → workEnded e t outcome value c =
        post e (.stack p.owner) ⟨.contextFault, .reservation p.owner p.handle, e.count,
            BitVec.ofNat 16 (256 * t.device.number + t.register.toNat), value16 (BusOutcome.code outcome)⟩
          (c.editReservation p.handle fun r => { r with degraded := true }))
    ∧ (t.cause = .replay → workEnded e t outcome value c = replayMade e t marked)
    ∧ (∀ x, t.cause = .restore x → workEnded e t outcome value c = marked)
    ∧ ∀ x, t.cause = .own x →
      ((t.ownerGone = true ∨ ∀ head ∈ (c.bridge x).queue.head?, head.state ≠ .inFlight) →
        workEnded e t outcome value c = marked)
      ∧ ∀ head rest, t.ownerGone = false → (c.bridge x).queue = head :: rest → head.state = .inFlight →
        workEnded e t outcome value c = completeAndExamine e x (BusOutcome.code outcome)
          (if outcome = .done then some value else none) marked

/-- The decisions of the control-bus arbiter on an idle bus: the preparation's next write, the next replay write, the released
heads, the heads by turns (R125); which write a preparation makes next and when it ends (R133, R135); a replay write dropped when
its live value is known (R130); the transfers of a restart series, and a head's own transfer (R143, R144); and what a transfer
that begins carries (R124, R130). That one record of the stack served last holds for both ranks, and that a released series takes
its turns at rank 3, are read from the manual by inference (log entry 35). What follows a command asks the arbiter whenever the bus is
idle and no power change comes first (SleepEntry has the order), and before it takes a preparation whose awaited devices are all ON
to its CONTEXT step (R133); that both wait for an idle bus, a preparation with nothing to write included, is the model's choice (log
entry 47). So is it that a trapped READ whose own context value has become set during its restart series is answered from it only at
the turn of its own transfer, after the restore writes that are left (log entry 59). -/
def Obligations.ArbiterDecides : Prop :=
  (∀ (e : Env) (c : Core),
    (c.rcc.bus.isSome = true → busStep e c = none)
    ∧ (c.rcc.bus = none →
      (∀ p, c.rcc.prep = some p → p.step = .awaitingPower → (∀ d ∈ p.awaited, c.power d = .on) →
        busStep e c = some { c with rcc := { c.rcc with prep := some { p with step := .context, position := 0 } } })
      ∧ ((∀ p, c.rcc.prep = some p → p.step = .awaitingPower → ∃ d ∈ p.awaited, c.power d ≠ .on) →
        busStep e c = arbitrate e c)))
  ∧   (∀ (e : Env) (c : Core),
    (∀ p, c.rcc.prep = some p → p.step ≠ .awaitingPower → arbitrate e c = some (prepTurn e p c))
    ∧ ((∀ p, c.rcc.prep = some p → p.step = .awaitingPower) →
      (∀ q rest, c.rcc.replay = q :: rest → arbitrate e c = some (replayTurn e q rest c))
      ∧ (c.rcc.replay = [] →
        (chooseStack c = none → arbitrate e c = none)
        ∧ ∀ x t, chooseStack c = some x → headReady c x = some t → arbitrate e c = some (headTurn e x t c))))
  ∧ (∀ (c : Core) (x : Sys2Proof.Sub) (t : Txn), headReady c x = some t ↔
    (c.bridge x).queue.head? = some t ∧ (t.state = .ready ∨ t.state = .restarting))
  ∧ (∀ (c : Core) (released ready : Sys2Proof.Sub → Bool),
    (∀ x, released x = true ↔ ∃ t, headReady c x = some t ∧ t.released = true)
    → (∀ x, ready x = (headReady c x).isSome) →
    (∀ x, released x = true → (released x.other = false ∨ c.rcc.lastServed = x.other) → chooseStack c = some x)
    ∧ (released .A = false → released .B = false →
      (∀ x t, headReady c x = some t → t.state = .restarting → t.begun = true
        → (∀ u, headReady c x.other = some u → u.state = .restarting → u.begun = false) → chooseStack c = some x)
      ∧ ((∀ x t, headReady c x = some t → t.state = .restarting → t.begun = false) →
        (∀ x, ready x = true → (ready x.other = false ∨ c.rcc.lastServed = x.other) → chooseStack c = some x)
        ∧ (ready .A = false → ready .B = false → chooseStack c = none))))
  ∧ (∀ (e : Env) (p : Prep) (c : Core),
    (∀ i m, (p.step = .context ∨ p.step = .common) → p.position ≤ i → c.rcc.shadow[i]? = some m
      → (∀ j q, p.position ≤ j → j < i → c.rcc.shadow[j]? = some q →
        (p.step = .context → needsContext e c p.owner q = false) ∧ (p.step = .common → needsCommon e c q = false)) →
      (∀ v, p.step = .context → needsContext e c p.owner m = true → m.own.get p.owner = some v →
        prepTurn e p c = startTransfer (.write v) m.entry.device m.entry.register .preparation (some p.owner)
          { c with rcc := { c.rcc with prep := some { p with position := i + 1 } } })
      ∧ (∀ v, p.step = .common → needsCommon e c m = true → m.common = some v →
        prepTurn e p c = startTransfer (.write v) m.entry.device m.entry.register .preparation (some p.owner)
          { c with rcc := { c.rcc with prep := some { p with position := i + 1 } } }))
    ∧ (p.step = .context → (∀ j q, p.position ≤ j → c.rcc.shadow[j]? = some q → needsContext e c p.owner q = false) →
      prepTurn e p c = { c with rcc := { c.rcc with prep := some { p with step := .common, position := 0 } } })
    ∧ (p.step = .common → (∀ j q, p.position ≤ j → c.rcc.shadow[j]? = some q → needsCommon e c q = false) →
      prepTurn e p c = { c with rcc := { c.rcc with prep := some { p with step := .staged, position := 0 } } })
    ∧ (p.step = .staged →
      (∀ w, p.staged[p.position]? = some w → prepTurn e p c =
        startTransfer (.write w.value) w.device w.register .preparation (some p.owner)
          { c with rcc := { c.rcc with prep := some { p with position := p.position + 1 } } })
      ∧ (p.staged.length ≤ p.position → prepTurn e p c = endPreparation e p c)))
  ∧ (∀ (e : Env) (x : Sys2Proof.Sub) (c : Core) (m : ShadowEntry),
    (needsContext e c x m = true ↔ m.entry.scope = .context ∧ e.has m.entry.device = true ∧ c.power m.entry.device = .on
      ∧ m.own.get x ≠ none ∧ m.live ≠ m.own.get x)
    ∧ (needsCommon e c m = true ↔ m.entry.scope = .common ∧ e.has m.entry.device = true ∧ c.power m.entry.device = .on
      ∧ m.common ≠ none ∧ m.live = none))
  ∧ (∀ (e : Env) (q : Replay) (rest : List Replay) (c : Core) (m : ShadowEntry), c.rcc.shadow[q.entry]? = some m →
    (∀ v, m.live = none → m.common = some v → replayTurn e q rest c =
      startTransfer (.write v) q.device m.entry.register .replay none c)
    ∧ (m.live ≠ none ∨ m.common = none → replayTurn e q rest c =
      if (∃ r ∈ rest, r.device = q.device) then { c with rcc := { c.rcc with replay := rest } }
      else examineWaiting e q.device { c with rcc := { c.rcc with replay := rest } }))
  ∧ (∀ (e : Env) (x : Sys2Proof.Sub) (t : Txn) (c : Core),
    (t.state = .restarting →
      (c.foreign x = true → headTurn e x t c = examine e x (c.setHead x { t with state := .queued }))
      ∧ (c.foreign x = false →
        (∀ i m v, t.position ≤ i → c.rcc.shadow[i]? = some m → m.entry.device = t.device → needsContext e c x m = true
          → m.own.get x = some v
          → (∀ j q, t.position ≤ j → j < i → c.rcc.shadow[j]? = some q →
            ¬(q.entry.device = t.device ∧ needsContext e c x q = true)) →
          headTurn e x t c = startTransfer (.write v) t.device m.entry.register (.restore x) (some x)
            ((c.setHead x { t with position := i + 1, begun := true }).served (if t.begun then c.rcc.lastServed else x)))
        ∧ ((∀ j q, t.position ≤ j → c.rcc.shadow[j]? = some q →
            ¬(q.entry.device = t.device ∧ needsContext e c x q = true)) →
          (finding e x t c = .toDevice → headTurn e x t c = ownTransfer x t c)
          ∧ ∀ v, finding e x t c = .fromShadow v → headTurn e x t c = completeAndExamine e x 5 (some v) c)))
    ∧ (t.state ≠ .restarting →
      (finding e x t c = .toDevice → c.power t.device = .on → (∀ q ∈ c.rcc.replay, q.device ≠ t.device) →
        headTurn e x t c = ownTransfer x t c)
      ∧ ((finding e x t c ≠ .toDevice ∨ c.power t.device ≠ .on ∨ ∃ q ∈ c.rcc.replay, q.device = t.device) →
        headTurn e x t c = examine e x c))
    ∧ ownTransfer x t c = startTransfer t.kind t.device t.register (.own x) (some x)
      ((c.setHead x { t with state := .inFlight }).served x))
  ∧ ∀ (kind : TxnKind) (d : Device) (reg : Byte) (cause : TransferCause) (owner : Option Sys2Proof.Sub) (c : Core),
    startTransfer kind d reg cause owner c = { c with rcc := { c.rcc with
      bus := some ⟨kind, d, reg, cause, owner, decide (c.rcc.answering.get d = .pending), false, false, false, false⟩ } }

/-! ### RF power, supply and sleep -/

/-- SLEEP_CONSENT and STAY_AWAKE (R163, R175, R176); that one which sets the value in force is no trigger is read from the
manual by inference (log entry 31). The demand times and the devices that are wanted (R156, R157), the wake times (R164) and what
a change of the table does to both (R23, R168, R169), the power-down check at a window end (R158), and the operations that trigger
the sleep entry evaluation (R165). That the check powers nothing down while the next window is in the view is read from the manual
by inference (R136, R158; log entry 53); so is the lead of 4 tu for a class with none of its required devices present, where R164
has W_light at or before each start − 4 tu (log entry 12). -/
def Obligations.PowerRequests : Prop :=
  (∀ (x : Sys2Proof.Sub) (seq consent : Byte) (on : Bool) (s s1 : State), Acts s x → s1 = restartMonitor (.stack x) s →
    (onOff consent = some on →
      exec (.sleepConsent (.stack x) seq consent) s = .next
        ((s1.react fun _ c => { c with
          psc := { c.psc with consent := c.psc.consent.set x on }
          evaluate := c.evaluate || decide (c.psc.consent.get x ≠ on) }).replied (.stack x) seq (yesNo on)))
    ∧ (1 < consent.toNat → exec (.sleepConsent (.stack x) seq consent) s = .next
      (s1.turnedAway (.stack x) seq .badParam)))
  ∧ (∀ (seq hold : Byte) (on : Bool) (s : State), Ready s .app →
    (onOff hold = some on →
      exec (.stayAwake .app seq hold) s = .next
        ((s.react fun _ c => { c with
          psc := { c.psc with stayAwake := on }
          evaluate := c.evaluate || decide (c.psc.stayAwake ≠ on) }).replied .app seq
            (yesNo on ++ [BitVec.ofNat 8 s.env.supply.code])))
    ∧ (1 < hold.toNat → exec (.stayAwake .app seq hold) s = .next (s.turnedAway .app seq .badParam)))
  ∧ (earliest [] = none ∧ ∀ (t : Time) (ts : List Time),
    (earliest ts = none → earliest (t :: ts) = some t)
    ∧ ∀ u, earliest ts = some u → earliest (t :: ts) = some (if before u t = true then u else t))
  ∧ (∀ (e : Env) (c : Core) (d : Device),
    demandTimeOf e c d = earliest (c.tla.table.filterMap fun r =>
      if r.state = .granted ∧ (r.cls = .access ∨ r.cls = .voice ∨ r.cls = .text ∨ d ≠ .amplifier)
        then some (r.start - tu (4 + e.image.delays.get d)) else none)
    ∧ (wanted e c d = true ↔ (∃ t, demandTimeOf e c d = some t ∧ atOrAfter e.count t = true)
      ∨ (∃ p, c.rcc.prep = some p ∧ d ∈ p.requests)
      ∨ ∃ x, ∃ t ∈ (c.bridge x).queue, t.device = d ∧ t.request = true))
  ∧ (∀ (e : Env) (c : Core) (d : Device),
    (e.has d = true → c.power d = .off → wanted e c d = true →
      raiseIfWanted e c d = (forceAwake c).setPower d (.rising (e.count + tu (e.image.delays.get d))))
    ∧ ((e.has d = false ∨ c.power d ≠ .off ∨ wanted e c d = false) → raiseIfWanted e c d = c))
  ∧ (∀ (e : Env) (c : Core), tableNotice e c =
      raiseIfWanted e (raiseIfWanted e (raiseIfWanted e (raiseIfWanted e (recomputeWake e c) .transceiver) .amplifier)
        .antennaSwitch) .frontEnd)
  ∧ (∀ (e : Env) (c : Core) (k : Target), wakeFor e c k =
      (earliest (c.tla.table.filterMap fun r =>
        if r.state = .granted then some (r.start - tu (leadOf e r.cls)) else none)).map fun t =>
          if k = .deep then t - tu e.image.clockSettle else t)
  ∧ (∀ (e : Env) (c : Core),
    (c.psc.sleep = .awake ∨ (∃ t, c.psc.sleep = .waking t) → recomputeWake e c = c)
    ∧ (∀ k w, c.psc.sleep = .settlingDown k w →
      ((∀ u, wakeFor e c k = some u → atOrAfter u e.count = true
          ∧ (if k = .light then e.image.lightThreshold else e.image.deepThreshold) ≤ (u - e.count).toNat) →
        recomputeWake e c = { c with psc := { c.psc with sleep := .settlingDown k (wakeFor e c k) } })
      ∧ (¬(∀ u, wakeFor e c k = some u → atOrAfter u e.count = true
          ∧ (if k = .light then e.image.lightThreshold else e.image.deepThreshold) ≤ (u - e.count).toNat) →
        recomputeWake e c = { c with psc := { c.psc with sleep := .awake }, evaluate := true }))
    ∧ (∀ w, c.psc.sleep = .light w →
      ((∃ u, wakeFor e c .light = some u ∧ atOrAfter e.count u = true) →
        recomputeWake e c = { c with psc := { c.psc with sleep := .awake } })
      ∧ ((∀ u, wakeFor e c .light = some u → before e.count u = true) →
        recomputeWake e c = { c with psc := { c.psc with sleep := .light (wakeFor e c .light) } }))
    ∧ ∀ w, c.psc.sleep = .deep w →
      ((∃ u, wakeFor e c .deep = some u ∧ atOrAfter e.count u = true) →
        recomputeWake e c =
          { c with psc := { c.psc with sleep := .waking (e.count + tu e.image.clockSettle) } })
      ∧ ((∀ u, wakeFor e c .deep = some u → before e.count u = true) →
        recomputeWake e c = { c with psc := { c.psc with sleep := .deep (wakeFor e c .deep) } }))
  ∧ (∀ (k : Sys2Proof.Machine.Class) (d : Device), k.requires d = true ↔
    k = .access ∨ k = .voice ∨ k = .text ∨ d ≠ .amplifier)
  ∧ (∀ (e : Env) (k : Sys2Proof.Machine.Class),
    (∀ d, e.has d = true → k.requires d = true → 4 + e.image.delays.get d ≤ leadOf e k)
    ∧ (leadOf e k = 4 ∨ ∃ d, e.has d = true ∧ k.requires d = true ∧ leadOf e k = 4 + e.image.delays.get d))
  ∧ (∀ (e : Env) (c : Core), windowEndNotice e c =
      { tableNotice e (powerDownCheck e (powerDownCheck e (powerDownCheck e (powerDownCheck e c .transceiver) .amplifier)
        .antennaSwitch) .frontEnd) with evaluate := true })
  ∧ (∀ (e : Env) (c : Core) (d : Device) (goes : Prop),
    (goes ↔ e.has d = true ∧ c.power d = .on
      ∧ c.rcc.view = none ∧ c.rcc.prep = none ∧ (∀ q ∈ c.rcc.replay, q.device ≠ d) ∧ (∀ t ∈ c.rcc.bus, t.device ≠ d)
      ∧ (∀ x, ∀ t ∈ (c.bridge x).queue, t.device ≠ d)
      ∧ ∀ r ∈ c.tla.table, r.state = .granted → r.cls.requires d = true →
        atOrAfter r.start (e.count + tu (4 + e.image.offSettle + e.image.delays.get d)) = true) →
    (goes → powerDownCheck e c d = leavesOn d (c.setPower d (.falling (e.count + tu e.image.offSettle))))
    ∧ (¬goes → powerDownCheck e c d = c))
  ∧ ∀ (e : Env) (c : Core),
    (∀ r reason reported, (endRecord e reason reported r c).evaluate = true)
    ∧ (∀ p, (∀ r ∈ c.reservation p.handle, r.waiting = false) → (endPreparation e p c).evaluate = true)
    ∧ (∀ h, (dropPreparation e h c).evaluate = true)
    ∧ (∀ x outcome read, (c.bridge x).queue ≠ [] → (completeHead e x outcome read c).evaluate = true)
    ∧ (∀ b, c.rcc.bus.isSome = true → (endTransfer e b c).evaluate = true)
    ∧ (∀ port, (c.pif.get port).events ≠ [] → (emptyQueue port c).evaluate = true)
    ∧ ∀ was, (supplyChanged was e c).evaluate = true

/-- The ends of rise, fall, wake and settle, and a demand time, each when it has been reached (R153, R155, R156, R168, R169,
R170, R172); and what the RF Context Controller does when a device enters ON: power requests for it lapse, its replay list is built
of its COMMON entries with a set value in map order and stands behind those of the devices that came ON before it, its answer
check is pending, the powered-since flag is set for device 0, and the heads that wait for it are examined (R125, R129, R130, R135,
R156). That a reached demand time brings the part AWAKE even when the device is not OFF is read from the manual by
inference (log entry 34). A change of power that comes at once (R155, R156): a present OFF device for which a power request stands
rises, and brings the part AWAKE (R172); a RISING device with a delay of 0 enters ON; a FALLING one with an off-settle time of 0 ends
its fall. That these come in the step that leads to them, in this order and the lowest device first, is read from the manual by
inference (log entry 33). -/
def Obligations.DeviceAndSleepEvents : Prop :=
  (∀ s : State, s.env.load.phase ≠ .notBegun →
    (∀ d t, s.core.power d = .rising t → atOrAfter s.env.count t = true →
      exec (.riseEnd d) s = .next (s.react fun e c => entersOn e d
        { c with psc := { c.psc with power := c.psc.power.set d .on } }))
    ∧ (∀ d t, s.core.power d = .falling t → atOrAfter s.env.count t = true →
      (wanted s.env s.core d = false → exec (.fallEnd d) s = .next (s.react fun _ c =>
        { c with psc := { c.psc with power := c.psc.power.set d .off } }))
      ∧ (wanted s.env s.core d = true → exec (.fallEnd d) s = .next (s.react fun e c =>
        (forceAwake c).setPower d (.rising (e.count + tu (e.image.delays.get d))))))
    ∧ (∀ d t, s.env.has d = true → demandTimeOf s.env s.core d = some t → atOrAfter s.env.count t = true →
      (s.core.power d = .off → exec (.demandTime d) s = .next (s.react fun e c =>
        (forceAwake c).setPower d (.rising (e.count + tu (e.image.delays.get d)))))
      ∧ (s.core.power d ≠ .off → exec (.demandTime d) s = .next (s.react fun _ c => forceAwake c)))
    ∧ (∀ t, s.core.psc.sleep.wake = some t → atOrAfter s.env.count t = true →
      exec .wakeTime s = .next (s.react fun e c => { c with
        psc := { c.psc with sleep := match c.psc.sleep with
          | .deep _ => .waking (e.count + tu e.image.clockSettle)
          | _ => .awake }
        evaluate := match c.psc.sleep with
          | .settlingDown _ _ => true
          | _ => c.evaluate }))
    ∧ (∀ t, s.core.psc.sleep = .waking t → atOrAfter s.env.count t = true →
      exec .settleEnd s = .next (s.react fun _ c =>
        { c with psc := { c.psc with sleep := .awake, divider := 0, fraction := 0 } })))
  ∧ (∀ (c : Core) (d : Device) (p : Power),
    c.setPower d p = { c with psc := { c.psc with power := c.psc.power.set d p } }
    ∧ (c.psc.sleep = .awake → forceAwake c = c)
    ∧ (c.psc.sleep.kind = .settlingDown ∨ c.psc.sleep.kind = .light → forceAwake c =
      { c with psc := { c.psc with sleep := .awake } })
    ∧ (c.psc.sleep.kind = .deep ∨ c.psc.sleep.kind = .waking → forceAwake c =
      { c with psc := { c.psc with sleep := .awake, divider := 0, fraction := 0 } }))
  ∧ (∀ (e : Env) (c : Core) (rises enters falls : Device → Prop),
    (∀ d, rises d ↔ e.has d = true ∧ c.power d = .off
      ∧ ((∃ p, c.rcc.prep = some p ∧ d ∈ p.requests) ∨ ∃ x, ∃ t ∈ (c.bridge x).queue, t.device = d ∧ t.request = true))
    → (∀ d, enters d ↔ e.image.delays.get d = 0 ∧ ∃ t, c.power d = .rising t)
    → (∀ d, falls d ↔ e.image.offSettle = 0 ∧ ∃ t, c.power d = .falling t) →
    (∀ d, rises d → (∀ q, q.number < d.number → ¬rises q) →
      powerStep e c = some ((forceAwake c).setPower d (.rising (e.count + tu (e.image.delays.get d)))))
    ∧ ((∀ d, ¬rises d) →
      (∀ d, enters d → (∀ q, q.number < d.number → ¬enters q) → powerStep e c = some (entersOn e d (c.setPower d .on)))
      ∧ ((∀ d, ¬enters d) →
        (∀ d, falls d → (∀ q, q.number < d.number → ¬falls q) →
          powerStep e c = some (if wanted e c d = true
            then (forceAwake c).setPower d (.rising (e.count + tu (e.image.delays.get d))) else c.setPower d .off))
        ∧ ((∀ d, ¬falls d) → powerStep e c = none))))
  ∧ ∀ (e : Env) (d : Device) (c : Core) (earlier later list : List Replay) (lapse : Txn → Txn),
    (∀ t, lapse t = if t.device = d then { t with request := false } else t)
    → list = (c.rcc.shadow.zipIdx.filter fun m =>
        decide (m.1.entry.device = d) && decide (m.1.entry.scope = .common) && m.1.common.isSome).map
        (fun m => ⟨m.2, d, e.count⟩)
    → c.rcc.replay = earlier ++ later
    → (∀ p ∈ earlier, p.since = e.count → p.device.number ≤ d.number)
    → (∀ p ∈ later.head?, p.since = e.count ∧ d.number < p.device.number) →
    entersOn e d c = examineWaiting e d { c with rcc := { c.rcc with
      replay := earlier ++ list ++ later
      answering := c.rcc.answering.set d .pending
      poweredSince := c.rcc.poweredSince || decide (d = .transceiver)
      prep := c.rcc.prep.map fun p => { p with requests := p.requests.filter fun q => decide (q ≠ d) }
      bridges := ⟨{ c.rcc.bridges.a with queue := c.rcc.bridges.a.queue.map lapse },
        { c.rcc.bridges.b with queue := c.rcc.bridges.b.queue.map lapse }⟩ } }

/-- The timeline clock: floor((f + N × S) / 65536) tu over N periods of SLK in SLEEP (R152), and 600 CLK19 periods to the tu in
MAIN (R151); no count is lost or gained where an advance is cut in two; CALIBRATE sets S, clamped, and neither the fraction nor
the count (R152). That an advance of any length is one command, and runs no event of its own, is the model's choice (log entry
14). -/
def Obligations.ClockAdvance : Prop :=
  (∀ (n : Nat) (s : State), s.env.load.phase ≠ .notBegun →
    (s.core.psc.sleep.source = .main → exec (.timelineClockAdvance n) s = .next
      { s with
        env := { s.env with count := s.env.count + tu ((s.core.psc.divider + n) / 600) }
        core := { s.core with psc := { s.core.psc with divider := (s.core.psc.divider + n) % 600 } } })
    ∧ (s.core.psc.sleep.source = .sleep → exec (.timelineClockAdvance n) s = .next
      { s with
        env := { s.env with count := s.env.count + tu ((s.core.psc.fraction + n * s.env.step) / 65536) }
        core := { s.core with psc := { s.core.psc with fraction := (s.core.psc.fraction + n * s.env.step) % 65536 } } })
    ∧ ∀ (m : Nat) (t : State), exec (.timelineClockAdvance n) s = .next t →
      exec (.timelineClockAdvance m) t = exec (.timelineClockAdvance (n + m)) s)
  ∧ ∀ (seq : Byte) (step : Half) (n : Nat) (s : State), Ready s .app → n = max 63488 (min 64512 step.toNat) →
    exec (.calibrate .app seq step) s = .next
      (({ s with env := { s.env with step := n } } : State).replied .app seq (bytes16 (BitVec.ofNat 16 n)))

/-- The stability filter of a battery line and the supply state that follows the taken levels: a change is reported, and sets
the supply alert in SAVER and LOW (R159, R160, R161). The order SUPPLY, then A's head, then B's is read from the manual by
inference (log entry 37). -/
def Obligations.SupplyLines : Prop :=
  (∀ (level : Bool) (s : State), s.env.load.phase ≠ .notBegun →
    exec (.battLineChange .warn level) s = .next { s with env := { s.env with
      warn := if s.env.warn.level = level then s.env.warn else
        { s.env.warn with level := level
                          changed := if level = s.env.warn.taken then none else some s.env.count } } }
    ∧ exec (.battLineChange .low level) s = .next { s with env := { s.env with
      low := if s.env.low.level = level then s.env.low else
        { s.env.low with level := level
                         changed := if level = s.env.low.taken then none else some s.env.count } } })
  ∧ (∀ (s : State) (e : Env), s.env.load.phase ≠ .notBegun
    → e = { s.env with warn := s.env.warn.settle s.env.count, low := s.env.low.settle s.env.count } →
    (e.supply = s.env.supply → exec .supplyStabilityTime s = .next { s with env := e })
    ∧ (e.supply ≠ s.env.supply → exec .supplyStabilityTime s = .next
      (State.react { s with env := { e with alert := s.env.alert || decide (e.supply ≠ .normal) } } fun e' c =>
        (lookAgain e' .B (lookAgain e' .A (post e' .app
          ⟨.supply, .none, e'.count, value16 e'.supply.code, value16 s.env.supply.code⟩ c))).trigger)))
  ∧ (∀ (now : Time) (l : SupplyLine),
    (l.changed = none → l.settle now = l)
    ∧ ∀ t, l.changed = some t → atOrAfter now t = true →
      (32 ≤ (now - t).toNat → l.settle now = ⟨l.level, l.level, none⟩)
      ∧ ((now - t).toNat < 32 → l.settle now = l))
  ∧ ∀ e : Env, (e.supply = .low ↔ e.low.taken = true)
    ∧ (e.supply = .saver ↔ e.low.taken = false ∧ e.warn.taken = true)
    ∧ (e.supply = .normal ↔ e.low.taken = false ∧ e.warn.taken = false)

/-- Sleep entry: an evaluation leaves AWAKE only when every condition of R165 holds, and then settles down for DEEP when deep
sleep is allowed and W_deep is absent or far enough, and for LIGHT otherwise (R166); settling ends in the target, with the
clock released in DEEP alone (R153, R162, R167). SETTLING_DOWN ends when every present device is OFF, at once where they are OFF
already when it begins (R167), and a trigger gives one evaluation (R165).

What a command sets off at the same moment is done one thing after another until nothing is left: power changes, the control bus,
sleep, and the notices of the Timeline Arbiter, oldest first (R44, R125, R155, R165, R167). Where the manual does not order two of
these, this order is read from it by inference (log entry 11), and so is that power changes come in the same step (log entry 33);
that a preparation waits for an idle bus is the model's choice (log entry 47), and the bound of 4096 things on one step is the
model's (log entry 24). -/
def Obligations.SleepEntry : Prop :=
  (∀ (s : State) (f : Env → Core → Core),
    s.settled = { s with core := settle s.env s.core } ∧ s.react f = { s with core := settle s.env (f s.env s.core) })
  ∧ (∀ (e : Env) (run : Nat → Core) (n : Nat), n ≤ 4096 → (∀ k, k < n → settleStep e (run k) = some (run (k + 1)))
    → (n = 4096 ∨ settleStep e (run n) = none) → settle e (run 0) = run n)
  ∧ (∀ (e : Env) (c : Core),
    (∀ t, powerStep e c = some t → settleStep e c = some t)
    ∧ (powerStep e c = none →
      (∀ t, busStep e c = some t → settleStep e c = some t)
      ∧ (busStep e c = none →
        (∀ t, sleepStep e c = some t → settleStep e c = some t)
        ∧ (sleepStep e c = none →
          (∀ n rest, c.notices = n :: rest → settleStep e c = some (actOn e n { c with notices := rest }))
          ∧ (c.notices = [] → settleStep e c = none)))))
  ∧ (∀ (e : Env) (c : Core) (due : Option Core), due = (if c.evaluate = true then some (evaluateSleep e c) else none) →
    ((∀ k w, c.psc.sleep ≠ .settlingDown k w) → sleepStep e c = due)
    ∧ ∀ k w, c.psc.sleep = .settlingDown k w →
      ((∀ d, e.has d = true → c.power d = .off) → sleepStep e c = some (settledDown k w c))
      ∧ ((∃ d, e.has d = true ∧ c.power d ≠ .off) → sleepStep e c = due))
  ∧ (∀ (e : Env) (c t : Core), powerStep e c = none → busStep e c = none → c.evaluate = true → maySleep e c = true
    → (∀ d, e.has d = true → c.power d = .off) → settleStep e c = some t →
    ∃ k w, t.psc.sleep = .settlingDown k w ∧ settleStep e t = some (settledDown k w t))
  ∧ (∀ (r : Rcc) (d : Device), r.holdsWork d = true ↔
    (∃ q ∈ r.replay, q.device = d) ∨ (∃ x, ∃ t ∈ (r.bridges.get x).queue, t.device = d) ∨ (∃ t, r.bus = some t ∧ t.device = d)
      ∨ r.prep.isSome = true)
  ∧   (∀ (e : Env) (c : Core), maySleep e c = true ↔
    e.load.phase = .ended ∧ c.psc.sleep = .awake
    ∧ (∀ r ∈ c.tla.table, r.state ≠ .preparing ∧ r.state ≠ .active)
    ∧ (∀ x, (c.bridge x).queue = []) ∧ c.rcc.bus = none
    ∧ (∀ d, e.has d = true → c.rcc.holdsWork d = false)
    ∧ (∀ x, c.attached x = true → c.psc.consent.get x = true)
    ∧ c.psc.stayAwake = false
    ∧ ∀ w, wakeLight e c = some w → atOrAfter w e.count = true ∧ e.image.lightThreshold ≤ (w - e.count).toNat)
  ∧ (∀ (e : Env) (c t : Core), evaluateSleep e c = t →
    t.evaluate = false
    ∧ (maySleep e c = false → t.psc = c.psc)
    ∧ (maySleep e c = true →
      ((e.image.deepAllowed = true
          ∧ ∀ w, wakeFor e c .deep = some w → atOrAfter w e.count = true ∧ e.image.deepThreshold ≤ (w - e.count).toNat) →
        t.psc.sleep = .settlingDown .deep (wakeFor e c .deep))
      ∧ (¬(e.image.deepAllowed = true
          ∧ ∀ w, wakeFor e c .deep = some w → atOrAfter w e.count = true ∧ e.image.deepThreshold ≤ (w - e.count).toNat) →
        t.psc.sleep = .settlingDown .light (wakeLight e c))
      ∧ ∀ d, e.has d = true → (t.power d = .off ∨ ∃ f, t.power d = .falling f)))
  ∧ ∀ (w : Option Time) (c : Core),
    (settledDown .light w c).psc = { c.psc with sleep := .light w }
    ∧ (settledDown .deep w c).psc = { c.psc with sleep := .deep w, divider := 0, fraction := 0 }
    ∧ (settledDown .deep w c).psc.sleep.clockRequest = false ∧ (settledDown .deep w c).psc.sleep.source = .sleep
    ∧ (settledDown .light w c).psc.sleep.clockRequest = true ∧ (settledDown .light w c).psc.sleep.source = .main
end

