-- ==== Sys2Proof/Laws/State.lean ====
section
/-! SUPPORT. One lemma per field per update of the state's records, true by rfl, and the laws of the small maps. -/

namespace Sys2Proof

/-! ### Maps indexed by subscription, port and device -/

@[simp] theorem Pair.get_set_self {α : Type} (p : Pair α) (x : Sub) (v : α) : (p.set x v).get x = v := by
  cases x <;> rfl

theorem Pair.get_set {α : Type} (p : Pair α) (x y : Sub) (v : α) :
    (p.set x v).get y = if y = x then v else p.get y := by
  cases x <;> cases y <;> rfl

@[simp] theorem Pair.get_set_other {α : Type} (p : Pair α) (x : Sub) (v : α) : (p.set x v).get x.other = p.get x.other := by
  cases x <;> rfl

@[simp] theorem Sub.other_other (x : Sub) : x.other.other = x := by cases x <;> rfl

theorem Sub.other_ne (x : Sub) : x.other ≠ x := by cases x <;> decide

@[simp] theorem Trio.get_set_self {α : Type} (p : Trio α) (x : Port) (v : α) : (p.set x v).get x = v := by
  rcases x with x | _
  · cases x <;> rfl
  · rfl

theorem Trio.get_set {α : Type} (p : Trio α) (x y : Port) (v : α) :
    (p.set x v).get y = if y = x then v else p.get y := by
  rcases x with x | _ <;> rcases y with y | _ <;> (try cases x) <;> (try cases y) <;> rfl

@[simp] theorem Quad.get_set_self {α : Type} (q : Quad α) (d : Device) (v : α) : (q.set d v).get d = v := by
  cases d <;> rfl

theorem Quad.get_set {α : Type} (q : Quad α) (d f : Device) (v : α) :
    (q.set d v).get f = if f = d then v else q.get f := by
  cases d <;> cases f <;> rfl

namespace Machine

/-! ### State -/

@[simp] theorem State.setCore_core (s : State) (c : Core) : (s.setCore c).core = c := rfl
@[simp] theorem State.setCore_self (s : State) : s.setCore s.core = s := rfl
@[simp] theorem State.setCore_env (s : State) (c : Core) : (s.setCore c).env = s.env := rfl
@[simp] theorem State.setCore_links (s : State) (c : Core) : (s.setCore c).links = s.links := rfl
@[simp] theorem State.setCore_pending (s : State) (c : Core) : (s.setCore c).pending = s.pending := rfl

@[simp] theorem State.setLink_core (s : State) (p : Port) (l : Link) : (s.setLink p l).core = s.core := rfl
@[simp] theorem State.setLink_env (s : State) (p : Port) (l : Link) : (s.setLink p l).env = s.env := rfl
@[simp] theorem State.setLink_pending (s : State) (p : Port) (l : Link) : (s.setLink p l).pending = s.pending := rfl
@[simp] theorem State.setLink_links (s : State) (p : Port) (l : Link) : (s.setLink p l).links = s.links.set p l := rfl

@[simp] theorem State.settled_env (s : State) : s.settled.env = s.env := by unfold State.settled; rw [State.setCore_env]
@[simp] theorem State.settled_links (s : State) : s.settled.links = s.links := by
  unfold State.settled; rw [State.setCore_links]
@[simp] theorem State.settled_pending (s : State) : s.settled.pending = s.pending := by
  unfold State.settled; rw [State.setCore_pending]
@[simp] theorem State.settled_core (s : State) : s.settled.core = settle s.env s.core := by
  unfold State.settled; rw [State.setCore_core]

@[simp] theorem State.react_env (s : State) (f : Env → Core → Core) : (s.react f).env = s.env := by simp [State.react]
@[simp] theorem State.react_links (s : State) (f : Env → Core → Core) : (s.react f).links = s.links := by
  simp [State.react]
@[simp] theorem State.react_pending (s : State) (f : Env → Core → Core) : (s.react f).pending = s.pending := by
  simp [State.react]
@[simp] theorem State.react_core (s : State) (f : Env → Core → Core) :
    (s.react f).core = settle s.env (f s.env s.core) := by simp [State.react]

@[simp] theorem State.answerSlot_core (s : State) (p : Port) (l : Slot) : (s.answerSlot p l).core = s.core := rfl
@[simp] theorem State.answerSlot_env (s : State) (p : Port) (l : Slot) : (s.answerSlot p l).env = s.env := rfl
@[simp] theorem State.answerSlot_pending (s : State) (p : Port) (l : Slot) :
    (s.answerSlot p l).pending = s.pending := rfl
@[simp] theorem State.answerSlot_slot (s : State) (p : Port) (l : Slot) :
    ((s.answerSlot p l).links.get p).slot = l := by simp [State.answerSlot]
@[simp] theorem State.answerSlot_count (s : State) (p : Port) (l : Slot) :
    ((s.answerSlot p l).links.get p).crcErrors = (s.links.get p).crcErrors := by simp [State.answerSlot]
@[simp] theorem State.answerSlot_transaction (s : State) (p : Port) (l : Slot) :
    ((s.answerSlot p l).links.get p).transaction = none := by simp [State.answerSlot]

/-! ### Core: the fields one update leaves -/

@[simp] theorem Core.trigger_tla (c : Core) : c.trigger.tla = c.tla := rfl
@[simp] theorem Core.trigger_smg (c : Core) : c.trigger.smg = c.smg := rfl
@[simp] theorem Core.trigger_msu (c : Core) : c.trigger.msu = c.msu := rfl
@[simp] theorem Core.trigger_hoe (c : Core) : c.trigger.hoe = c.hoe := rfl
@[simp] theorem Core.trigger_csc (c : Core) : c.trigger.csc = c.csc := rfl
@[simp] theorem Core.trigger_rcc (c : Core) : c.trigger.rcc = c.rcc := rfl
@[simp] theorem Core.trigger_psc (c : Core) : c.trigger.psc = c.psc := rfl
@[simp] theorem Core.trigger_ssv (c : Core) : c.trigger.ssv = c.ssv := rfl
@[simp] theorem Core.trigger_pif (c : Core) : c.trigger.pif = c.pif := rfl

@[simp] theorem Core.tell_tla (c : Core) (n : Notice) : (c.tell n).tla = c.tla := rfl
@[simp] theorem Core.tell_smg (c : Core) (n : Notice) : (c.tell n).smg = c.smg := rfl
@[simp] theorem Core.tell_msu (c : Core) (n : Notice) : (c.tell n).msu = c.msu := rfl
@[simp] theorem Core.tell_hoe (c : Core) (n : Notice) : (c.tell n).hoe = c.hoe := rfl
@[simp] theorem Core.tell_csc (c : Core) (n : Notice) : (c.tell n).csc = c.csc := rfl
@[simp] theorem Core.tell_rcc (c : Core) (n : Notice) : (c.tell n).rcc = c.rcc := rfl
@[simp] theorem Core.tell_psc (c : Core) (n : Notice) : (c.tell n).psc = c.psc := rfl
@[simp] theorem Core.tell_ssv (c : Core) (n : Notice) : (c.tell n).ssv = c.ssv := rfl
@[simp] theorem Core.tell_pif (c : Core) (n : Notice) : (c.tell n).pif = c.pif := rfl

@[simp] theorem Core.setMonitor_tla (c : Core) (x : Sub) (m : Option Time) : (c.setMonitor x m).tla = c.tla := rfl
@[simp] theorem Core.setMonitor_smg (c : Core) (x : Sub) (m : Option Time) : (c.setMonitor x m).smg = c.smg := rfl
@[simp] theorem Core.setMonitor_msu (c : Core) (x : Sub) (m : Option Time) : (c.setMonitor x m).msu = c.msu := rfl
@[simp] theorem Core.setMonitor_hoe (c : Core) (x : Sub) (m : Option Time) : (c.setMonitor x m).hoe = c.hoe := rfl
@[simp] theorem Core.setMonitor_csc (c : Core) (x : Sub) (m : Option Time) : (c.setMonitor x m).csc = c.csc := rfl
@[simp] theorem Core.setMonitor_rcc (c : Core) (x : Sub) (m : Option Time) : (c.setMonitor x m).rcc = c.rcc := rfl
@[simp] theorem Core.setMonitor_psc (c : Core) (x : Sub) (m : Option Time) : (c.setMonitor x m).psc = c.psc := rfl
@[simp] theorem Core.setMonitor_pif (c : Core) (x : Sub) (m : Option Time) : (c.setMonitor x m).pif = c.pif := rfl
@[simp] theorem Core.setMonitor_state (c : Core) (x y : Sub) (m : Option Time) :
    ((c.setMonitor x m).ssv.get y).state = (c.ssv.get y).state := by
  cases x <;> cases y <;> rfl

@[simp] theorem Core.setTable_table (c : Core) (t : List Reservation) : (c.setTable t).tla.table = t := rfl
@[simp] theorem Core.setTable_smg (c : Core) (t : List Reservation) : (c.setTable t).smg = c.smg := rfl
@[simp] theorem Core.setTable_msu (c : Core) (t : List Reservation) : (c.setTable t).msu = c.msu := rfl
@[simp] theorem Core.setTable_hoe (c : Core) (t : List Reservation) : (c.setTable t).hoe = c.hoe := rfl
@[simp] theorem Core.setTable_csc (c : Core) (t : List Reservation) : (c.setTable t).csc = c.csc := rfl
@[simp] theorem Core.setTable_rcc (c : Core) (t : List Reservation) : (c.setTable t).rcc = c.rcc := rfl
@[simp] theorem Core.setTable_psc (c : Core) (t : List Reservation) : (c.setTable t).psc = c.psc := rfl
@[simp] theorem Core.setTable_ssv (c : Core) (t : List Reservation) : (c.setTable t).ssv = c.ssv := rfl
@[simp] theorem Core.setTable_pif (c : Core) (t : List Reservation) : (c.setTable t).pif = c.pif := rfl

@[simp] theorem Core.setCells_cells (c : Core) (x : Sub) (t : CellTable) : (c.setCells x t).cells x = t := by
  simp [Core.setCells, Core.cells]
@[simp] theorem Core.setCells_tla (c : Core) (x : Sub) (t : CellTable) : (c.setCells x t).tla = c.tla := rfl
@[simp] theorem Core.setCells_smg (c : Core) (x : Sub) (t : CellTable) : (c.setCells x t).smg = c.smg := rfl
@[simp] theorem Core.setCells_hoe (c : Core) (x : Sub) (t : CellTable) : (c.setCells x t).hoe = c.hoe := rfl
@[simp] theorem Core.setCells_csc (c : Core) (x : Sub) (t : CellTable) : (c.setCells x t).csc = c.csc := rfl
@[simp] theorem Core.setCells_rcc (c : Core) (x : Sub) (t : CellTable) : (c.setCells x t).rcc = c.rcc := rfl
@[simp] theorem Core.setCells_psc (c : Core) (x : Sub) (t : CellTable) : (c.setCells x t).psc = c.psc := rfl
@[simp] theorem Core.setCells_ssv (c : Core) (x : Sub) (t : CellTable) : (c.setCells x t).ssv = c.ssv := rfl
@[simp] theorem Core.setCells_pif (c : Core) (x : Sub) (t : CellTable) : (c.setCells x t).pif = c.pif := rfl

@[simp] theorem Core.setSearch_csc (c : Core) (x : Sub) (r : Search) : (c.setSearch x r).csc = c.csc.set x r := rfl
@[simp] theorem Core.setSearch_tla (c : Core) (x : Sub) (r : Search) : (c.setSearch x r).tla = c.tla := rfl
@[simp] theorem Core.setSearch_smg (c : Core) (x : Sub) (r : Search) : (c.setSearch x r).smg = c.smg := rfl
@[simp] theorem Core.setSearch_msu (c : Core) (x : Sub) (r : Search) : (c.setSearch x r).msu = c.msu := rfl
@[simp] theorem Core.setSearch_hoe (c : Core) (x : Sub) (r : Search) : (c.setSearch x r).hoe = c.hoe := rfl
@[simp] theorem Core.setSearch_rcc (c : Core) (x : Sub) (r : Search) : (c.setSearch x r).rcc = c.rcc := rfl
@[simp] theorem Core.setSearch_psc (c : Core) (x : Sub) (r : Search) : (c.setSearch x r).psc = c.psc := rfl
@[simp] theorem Core.setSearch_ssv (c : Core) (x : Sub) (r : Search) : (c.setSearch x r).ssv = c.ssv := rfl
@[simp] theorem Core.setSearch_pif (c : Core) (x : Sub) (r : Search) : (c.setSearch x r).pif = c.pif := rfl

@[simp] theorem Core.setSmg_smg (c : Core) (m : Smg) : (c.setSmg m).smg = m := rfl
@[simp] theorem Core.setSmg_tla (c : Core) (m : Smg) : (c.setSmg m).tla = c.tla := rfl
@[simp] theorem Core.setSmg_msu (c : Core) (m : Smg) : (c.setSmg m).msu = c.msu := rfl
@[simp] theorem Core.setSmg_hoe (c : Core) (m : Smg) : (c.setSmg m).hoe = c.hoe := rfl
@[simp] theorem Core.setSmg_csc (c : Core) (m : Smg) : (c.setSmg m).csc = c.csc := rfl
@[simp] theorem Core.setSmg_rcc (c : Core) (m : Smg) : (c.setSmg m).rcc = c.rcc := rfl
@[simp] theorem Core.setSmg_psc (c : Core) (m : Smg) : (c.setSmg m).psc = c.psc := rfl
@[simp] theorem Core.setSmg_ssv (c : Core) (m : Smg) : (c.setSmg m).ssv = c.ssv := rfl
@[simp] theorem Core.setSmg_pif (c : Core) (m : Smg) : (c.setSmg m).pif = c.pif := rfl

@[simp] theorem Core.setSleep_sleep (c : Core) (z : Sleep) : (c.setSleep z).psc.sleep = z := rfl
@[simp] theorem Core.setSleep_power (c : Core) (z : Sleep) : (c.setSleep z).psc.power = c.psc.power := rfl
@[simp] theorem Core.setSleep_tla (c : Core) (z : Sleep) : (c.setSleep z).tla = c.tla := rfl
@[simp] theorem Core.setSleep_rcc (c : Core) (z : Sleep) : (c.setSleep z).rcc = c.rcc := rfl
@[simp] theorem Core.setSleep_pif (c : Core) (z : Sleep) : (c.setSleep z).pif = c.pif := rfl
@[simp] theorem Core.setSleep_ssv (c : Core) (z : Sleep) : (c.setSleep z).ssv = c.ssv := rfl

@[simp] theorem Core.setPower_power (c : Core) (d : Device) (z : Power) :
    (c.setPower d z).psc.power = c.psc.power.set d z := rfl
@[simp] theorem Core.setPower_sleep (c : Core) (d : Device) (z : Power) : (c.setPower d z).psc.sleep = c.psc.sleep := rfl
@[simp] theorem Core.setPower_tla (c : Core) (d : Device) (z : Power) : (c.setPower d z).tla = c.tla := rfl
@[simp] theorem Core.setPower_rcc (c : Core) (d : Device) (z : Power) : (c.setPower d z).rcc = c.rcc := rfl
@[simp] theorem Core.setPower_pif (c : Core) (d : Device) (z : Power) : (c.setPower d z).pif = c.pif := rfl
@[simp] theorem Core.setPower_ssv (c : Core) (d : Device) (z : Power) : (c.setPower d z).ssv = c.ssv := rfl

@[simp] theorem Core.setBridge_bridge (c : Core) (x : Sub) (b : Bridge) : (c.setBridge x b).bridge x = b := by
  simp [Core.setBridge, Core.bridge]
@[simp] theorem Core.setBridge_tla (c : Core) (x : Sub) (b : Bridge) : (c.setBridge x b).tla = c.tla := rfl
@[simp] theorem Core.setBridge_psc (c : Core) (x : Sub) (b : Bridge) : (c.setBridge x b).psc = c.psc := rfl
@[simp] theorem Core.setBridge_pif (c : Core) (x : Sub) (b : Bridge) : (c.setBridge x b).pif = c.pif := rfl
@[simp] theorem Core.setBridge_ssv (c : Core) (x : Sub) (b : Bridge) : (c.setBridge x b).ssv = c.ssv := rfl

end Machine

end Sys2Proof
end

