-- ==== Sys2Proof/Laws/Ops.lean ====
section
/-! SUPPORT. For each shared operation, what it can do and what it leaves. -/

namespace Sys2Proof.Machine

/-! ### The judging of a request -/

@[simp] theorem restartMonitor_app (s : State) : restartMonitor .app s = s := rfl

theorem restartMonitor_cases (port : Port) (s : State) :
    restartMonitor port s = s ∨ ∃ x m, port = .stack x ∧ restartMonitor port s = s.setCore (s.core.setMonitor x (some m)) := by
  rcases port with x | _
  · simp only [restartMonitor]
    split
    · exact .inl rfl
    · exact .inr ⟨x, _, rfl, rfl⟩
  · exact .inl rfl

@[simp] theorem restartMonitor_env (port : Port) (s : State) : (restartMonitor port s).env = s.env := by
  rcases restartMonitor_cases port s with h | ⟨x, m, -, h⟩ <;> rw [h]; rfl
@[simp] theorem restartMonitor_links (port : Port) (s : State) : (restartMonitor port s).links = s.links := by
  rcases restartMonitor_cases port s with h | ⟨x, m, -, h⟩ <;> rw [h]; rfl
@[simp] theorem restartMonitor_pending (port : Port) (s : State) : (restartMonitor port s).pending = s.pending := by
  rcases restartMonitor_cases port s with h | ⟨x, m, -, h⟩ <;> rw [h]; rfl
@[simp] theorem restartMonitor_tla (port : Port) (s : State) : (restartMonitor port s).core.tla = s.core.tla := by
  rcases restartMonitor_cases port s with h | ⟨x, m, -, h⟩ <;> rw [h]; rfl
@[simp] theorem restartMonitor_smg (port : Port) (s : State) : (restartMonitor port s).core.smg = s.core.smg := by
  rcases restartMonitor_cases port s with h | ⟨x, m, -, h⟩ <;> rw [h]; rfl
@[simp] theorem restartMonitor_msu (port : Port) (s : State) : (restartMonitor port s).core.msu = s.core.msu := by
  rcases restartMonitor_cases port s with h | ⟨x, m, -, h⟩ <;> rw [h]; rfl
@[simp] theorem restartMonitor_hoe (port : Port) (s : State) : (restartMonitor port s).core.hoe = s.core.hoe := by
  rcases restartMonitor_cases port s with h | ⟨x, m, -, h⟩ <;> rw [h]; rfl
@[simp] theorem restartMonitor_csc (port : Port) (s : State) : (restartMonitor port s).core.csc = s.core.csc := by
  rcases restartMonitor_cases port s with h | ⟨x, m, -, h⟩ <;> rw [h]; rfl
@[simp] theorem restartMonitor_rcc (port : Port) (s : State) : (restartMonitor port s).core.rcc = s.core.rcc := by
  rcases restartMonitor_cases port s with h | ⟨x, m, -, h⟩ <;> rw [h]; rfl
@[simp] theorem restartMonitor_psc (port : Port) (s : State) : (restartMonitor port s).core.psc = s.core.psc := by
  rcases restartMonitor_cases port s with h | ⟨x, m, -, h⟩ <;> rw [h]; rfl
@[simp] theorem restartMonitor_pif (port : Port) (s : State) : (restartMonitor port s).core.pif = s.core.pif := by
  rcases restartMonitor_cases port s with h | ⟨x, m, -, h⟩ <;> rw [h]; rfl
@[simp] theorem restartMonitor_state (port : Port) (s : State) (y : Sub) :
    ((restartMonitor port s).core.ssv.get y).state = (s.core.ssv.get y).state := by
  rcases restartMonitor_cases port s with h | ⟨x, m, -, h⟩ <;> rw [h]
  simp
@[simp] theorem restartMonitor_attached (port : Port) (s : State) (y : Sub) :
    (restartMonitor port s).core.attached y = s.core.attached y := by simp [Core.attached]
@[simp] theorem restartMonitor_beganIn (port q : Port) (s : State) :
    (restartMonitor port s).beganIn q = s.beganIn q := by simp [State.beganIn]

/-- A request taken while its port is ready is judged in the state with the monitor restarted, and its answer written. -/
theorem takeRequest_ready {port : Port} {s : State} (h : Ready s port) (seq : Byte) (r : Request) :
    takeRequest port seq r s = .next
      ((r.judge port (s.beganIn port) (restartMonitor port s)).state.answerSlot port
        ⟨seq, (r.judge port (s.beganIn port) (restartMonitor port s)).status,
          (r.judge port (s.beganIn port) (restartMonitor port s)).payload⟩) := by
  obtain ⟨hp, ht, hd, hw⟩ := h
  obtain ⟨t, ht⟩ := Option.isSome_iff_exists.mp ht
  simp [takeRequest, State.held, hp, State.ensureBegun, ht, takeFrame, answerFrame, hd, hw]

/-- A request does nothing while RESET_N is low. -/
theorem takeRequest_held {port : Port} {s : State} (h : s.env.load.phase = .notBegun) (seq : Byte) (r : Request) :
    takeRequest port seq r s = .next s := by simp [takeRequest, State.held, h]

theorem onEvent_held {s : State} (h : s.env.load.phase = .notBegun) (f : State → State) : onEvent s f = .next s := by
  simp [onEvent, State.held, h]

theorem onEvent_runs {s : State} (h : s.env.load.phase ≠ .notBegun) (f : State → State) : onEvent s f = .next (f s) := by
  simp [onEvent, State.held, h]

/-! ### Posting -/

theorem startMonitor_cases (e : Env) (x : Sub) (c : Core) :
    startMonitor e x c = c ∨ ∃ m, startMonitor e x c = c.setMonitor x (some m) := by
  unfold startMonitor
  split
  · exact .inr ⟨_, rfl⟩
  · exact .inl rfl

/-- A post touches the port's queue, and the monitor of a stack port's subscription. -/
theorem post_cases (e : Env) (port : Port) (ev : Event) (c : Core) :
    post e port ev c = c
      ∨ post e port ev c = { c with pif := c.pif.set port ((c.pif.get port).join ev) }
      ∨ ∃ x m, port = .stack x ∧ post e port ev c
          = ({ c with pif := c.pif.set port ((c.pif.get port).join ev) } : Core).setMonitor x (some m) := by
  rcases port with x | _
  · simp only [post]
    split
    · split
      · rcases startMonitor_cases e x { c with pif := c.pif.set (.stack x) ((c.pif.get (.stack x)).join ev) } with h | ⟨m, h⟩
        · exact .inr (.inl h)
        · exact .inr (.inr ⟨x, m, rfl, h⟩)
      · exact .inr (.inl rfl)
    · exact .inl rfl
  · exact .inr (.inl rfl)

@[simp] theorem post_tla (e : Env) (port : Port) (ev : Event) (c : Core) : (post e port ev c).tla = c.tla := by
  rcases post_cases e port ev c with h | h | ⟨x, m, -, h⟩ <;> rw [h]; rfl
@[simp] theorem post_smg (e : Env) (port : Port) (ev : Event) (c : Core) : (post e port ev c).smg = c.smg := by
  rcases post_cases e port ev c with h | h | ⟨x, m, -, h⟩ <;> rw [h]; rfl
@[simp] theorem post_msu (e : Env) (port : Port) (ev : Event) (c : Core) : (post e port ev c).msu = c.msu := by
  rcases post_cases e port ev c with h | h | ⟨x, m, -, h⟩ <;> rw [h]; rfl
@[simp] theorem post_hoe (e : Env) (port : Port) (ev : Event) (c : Core) : (post e port ev c).hoe = c.hoe := by
  rcases post_cases e port ev c with h | h | ⟨x, m, -, h⟩ <;> rw [h]; rfl
@[simp] theorem post_csc (e : Env) (port : Port) (ev : Event) (c : Core) : (post e port ev c).csc = c.csc := by
  rcases post_cases e port ev c with h | h | ⟨x, m, -, h⟩ <;> rw [h]; rfl
@[simp] theorem post_rcc (e : Env) (port : Port) (ev : Event) (c : Core) : (post e port ev c).rcc = c.rcc := by
  rcases post_cases e port ev c with h | h | ⟨x, m, -, h⟩ <;> rw [h]; rfl
@[simp] theorem post_psc (e : Env) (port : Port) (ev : Event) (c : Core) : (post e port ev c).psc = c.psc := by
  rcases post_cases e port ev c with h | h | ⟨x, m, -, h⟩ <;> rw [h]; rfl
@[simp] theorem post_notices (e : Env) (port : Port) (ev : Event) (c : Core) : (post e port ev c).notices = c.notices := by
  rcases post_cases e port ev c with h | h | ⟨x, m, -, h⟩ <;> rw [h]; rfl
@[simp] theorem post_evaluate (e : Env) (port : Port) (ev : Event) (c : Core) :
    (post e port ev c).evaluate = c.evaluate := by
  rcases post_cases e port ev c with h | h | ⟨x, m, -, h⟩ <;> rw [h]; rfl
@[simp] theorem post_state (e : Env) (port : Port) (ev : Event) (c : Core) (y : Sub) :
    ((post e port ev c).ssv.get y).state = (c.ssv.get y).state := by
  rcases post_cases e port ev c with h | h | ⟨x, m, -, h⟩ <;> rw [h]; simp
@[simp] theorem post_attached (e : Env) (port : Port) (ev : Event) (c : Core) (y : Sub) :
    (post e port ev c).attached y = c.attached y := by simp [Core.attached]

theorem join_bounded {q : EventQueue} (h : q.Bounded) (ev : Event) : (q.join ev).Bounded := by
  obtain ⟨h1, h2⟩ := h
  unfold EventQueue.join
  split
  · rename_i hlt
    simp only [Config.queueSize] at hlt
    exact ⟨by simp; omega, h2⟩
  · exact ⟨h1, by simp [saturate]⟩

/-! ### Records -/

theorem find_map_handle (f : Reservation → Reservation) (hf : ∀ r, (f r).handle = r.handle) (h : Handle)
    (l : List Reservation) :
    (l.map fun r => if r.handle = h then f r else r).find? (fun r => decide (r.handle = h))
      = (l.find? fun r => decide (r.handle = h)).map f := by
  induction l with
  | nil => rfl
  | cons r rs ih =>
    by_cases hr : r.handle = h
    · simp [hr, hf]
    · simp [hr, ih]

/-- A change of a record that keeps its handle is what the handle names afterwards. -/
theorem editReservation_same (c : Core) (h : Handle) (f : Reservation → Reservation) (hf : ∀ r, (f r).handle = r.handle) :
    (c.editReservation h f).reservation h = (c.reservation h).map f := by
  simpa [Core.editReservation, Core.reservation] using find_map_handle f hf h c.tla.table

@[simp] theorem dropRecord_same (c : Core) (h : Handle) : (c.dropRecord h).reservation h = none := by
  simp [Core.dropRecord, Core.reservation, Core.setTable, List.find?_eq_none]

/-! ### Bits of a link (R193) -/

theorem bits_of_byte : ∀ b : Byte, BitVec.ofNat 8 (bitsToNat (bitsOfByte b)) = b := by decide +kernel

/-- The first byte of the bits received is the first byte sent. -/
theorem wholeBytes_cons (b : Byte) (bits : List Bool) :
    wholeBytes (bitsOfByte b ++ bits) = b :: wholeBytes bits := congrArg (· :: wholeBytes bits) (bits_of_byte b)

/-! ### The credit (R49, R50) -/

/-- A refill leaves the credit within the maximum. -/
theorem refill_credit_le (now : Time) (creditMax interval : Nat) (t : Traffic) :
    (t.refill now creditMax interval).credit ≤ creditMax := by
  simp only [Traffic.refill]
  omega

/-! ### The first of a list that qualifies -/

theorem firstFrom_some {α : Type} {l : List α} {i k : Nat} {a : α} {ok : α → Bool} (hik : i ≤ k) (ha : l[k]? = some a)
    (hok : ok a = true) (before : ∀ j q, i ≤ j → j < k → l[j]? = some q → ok q = false) :
    firstFrom l i ok = some (k, a) := by
  obtain ⟨hk, rfl⟩ := List.getElem?_eq_some_iff.mp ha
  have h : (l.drop i).findIdx? ok = some (k - i) := by
    refine List.findIdx?_eq_some_iff_getElem.mpr ⟨by simp; omega, ?_, fun j hj => ?_⟩
    · simpa [show i + (k - i) = k by omega] using hok
    · simpa using before (i + j) _ (by omega) (by omega) (List.getElem?_eq_getElem (by omega))
  simp [firstFrom, h, show i + (k - i) = k by omega]

theorem firstFrom_none {α : Type} {l : List α} {i : Nat} {ok : α → Bool}
    (none_ok : ∀ j q, i ≤ j → l[j]? = some q → ok q = false) : firstFrom l i ok = none := by
  have h : (l.drop i).findIdx? ok = none := by
    refine List.findIdx?_eq_none_iff.mpr fun x hx => ?_
    obtain ⟨j, hj⟩ := List.getElem?_of_mem hx
    rw [List.getElem?_drop] at hj
    exact none_ok _ _ (by omega) hj
  simp [firstFrom, h]

/-! ### The window's mark (R136) -/

/-- A failed write changes at most the mark of the occurrence in the view. -/
theorem degradeView_cases (e : Env) (t : Transfer) (c : Core) :
    degradeView e t c = c
      ∨ ∃ v, c.rcc.view = some v ∧ degradeView e t c = c.editReservation v.handle fun r => { r with degraded := true } := by
  unfold degradeView
  split
  · exact .inl rfl
  · rename_i v hv
    split
    · exact .inr ⟨v, hv, rfl⟩
    · exact .inl rfl

/-! ### Bridge queues: what a completion and an examination leave -/

theorem completeHead_frame (e : Env) (x : Sub) (outcome : Nat) (read : Option Half) (c : Core) :
    (completeHead e x outcome read c).tla = c.tla ∧ (completeHead e x outcome read c).smg = c.smg
      ∧ (completeHead e x outcome read c).msu = c.msu ∧ (completeHead e x outcome read c).hoe = c.hoe
      ∧ (completeHead e x outcome read c).csc = c.csc ∧ (completeHead e x outcome read c).psc = c.psc
      ∧ (completeHead e x outcome read c).rcc.view = c.rcc.view ∧ (completeHead e x outcome read c).rcc.prep = c.rcc.prep
      ∧ (completeHead e x outcome read c).rcc.bus = c.rcc.bus
      ∧ (completeHead e x outcome read c).notices = c.notices := by
  unfold completeHead
  split <;> simp [Core.trigger, Core.setBridge]

theorem setShadow_frame (c : Core) (m : List ShadowEntry) :
    (c.setShadow m).tla = c.tla ∧ (c.setShadow m).smg = c.smg ∧ (c.setShadow m).msu = c.msu ∧ (c.setShadow m).hoe = c.hoe
      ∧ (c.setShadow m).csc = c.csc ∧ (c.setShadow m).psc = c.psc ∧ (c.setShadow m).rcc.view = c.rcc.view
      ∧ (c.setShadow m).rcc.prep = c.rcc.prep ∧ (c.setShadow m).rcc.bus = c.rcc.bus
      ∧ (c.setShadow m).notices = c.notices := ⟨rfl, rfl, rfl, rfl, rfl, rfl, rfl, rfl, rfl, rfl⟩

theorem storeValue_frame (e : Env) (o : Option Sub) (d : Device) (reg : Byte) (v : Half) (c : Core) :
    storeValue e o d reg v c = c ∨ ∃ m, storeValue e o d reg v c = c.setShadow m := by
  unfold storeValue
  split
  · exact .inl rfl
  · exact .inr ⟨_, rfl⟩

theorem setHead_frame (c : Core) (x : Sub) (t : Txn) :
    (c.setHead x t).tla = c.tla ∧ (c.setHead x t).smg = c.smg ∧ (c.setHead x t).msu = c.msu
      ∧ (c.setHead x t).hoe = c.hoe ∧ (c.setHead x t).csc = c.csc ∧ (c.setHead x t).psc = c.psc
      ∧ (c.setHead x t).rcc.view = c.rcc.view ∧ (c.setHead x t).rcc.prep = c.rcc.prep
      ∧ (c.setHead x t).rcc.bus = c.rcc.bus ∧ (c.setHead x t).notices = c.notices := by
  unfold Core.setHead
  split <;> simp [Core.setBridge]

theorem examineHead_frame (e : Env) (x : Sub) (c : Core) :
    (examineHead e x c).1.tla = c.tla ∧ (examineHead e x c).1.smg = c.smg ∧ (examineHead e x c).1.msu = c.msu
      ∧ (examineHead e x c).1.hoe = c.hoe ∧ (examineHead e x c).1.csc = c.csc ∧ (examineHead e x c).1.psc = c.psc
      ∧ (examineHead e x c).1.rcc.view = c.rcc.view ∧ (examineHead e x c).1.rcc.prep = c.rcc.prep
      ∧ (examineHead e x c).1.rcc.bus = c.rcc.bus ∧ (examineHead e x c).1.notices = c.notices := by
  unfold examineHead
  split
  · simp
  · split
    · rename_i t _ _ _ v _
      have h := completeHead_frame e x 4 none (storeValue e (some x) t.device t.register v c)
      rcases storeValue_frame e (some x) t.device t.register v c with hs | ⟨m, hs⟩ <;> rw [hs] at h ⊢
      · exact h
      · exact h
    · exact completeHead_frame e x 5 _ c
    · exact setHead_frame c x _
    · exact setHead_frame c x _

theorem examineFrom_frame (e : Env) (x : Sub) (n : Nat) (c : Core) :
    (examineFrom e x n c).tla = c.tla ∧ (examineFrom e x n c).smg = c.smg ∧ (examineFrom e x n c).msu = c.msu
      ∧ (examineFrom e x n c).hoe = c.hoe ∧ (examineFrom e x n c).csc = c.csc ∧ (examineFrom e x n c).psc = c.psc
      ∧ (examineFrom e x n c).rcc.view = c.rcc.view ∧ (examineFrom e x n c).rcc.prep = c.rcc.prep
      ∧ (examineFrom e x n c).rcc.bus = c.rcc.bus ∧ (examineFrom e x n c).notices = c.notices := by
  induction n generalizing c with
  | zero => simp [examineFrom]
  | succ n ih =>
    have h := examineHead_frame e x c
    unfold examineFrom
    split
    · rename_i c' heq
      rw [heq] at h
      have h' := ih c'
      simp_all
    · rename_i c' heq
      rw [heq] at h
      exact h

/-- An examination touches the bridge queues, the shadow map and the event queues alone. -/
theorem examine_frame (e : Env) (x : Sub) (c : Core) :
    (examine e x c).tla = c.tla ∧ (examine e x c).smg = c.smg ∧ (examine e x c).msu = c.msu
      ∧ (examine e x c).hoe = c.hoe ∧ (examine e x c).csc = c.csc ∧ (examine e x c).psc = c.psc
      ∧ (examine e x c).rcc.view = c.rcc.view ∧ (examine e x c).rcc.prep = c.rcc.prep
      ∧ (examine e x c).rcc.bus = c.rcc.bus ∧ (examine e x c).notices = c.notices :=
  examineFrom_frame e x _ c

/-! ### Power: what a table notice leaves -/

theorem forceAwake_frame (c : Core) : ∃ p, forceAwake c = { c with psc := p } := by
  unfold forceAwake
  split <;> exact ⟨_, rfl⟩

theorem wakeReached_frame (e : Env) (c : Core) :
    ∃ p b, wakeReached e c = { c with psc := p, evaluate := b } := by
  unfold wakeReached
  split <;> exact ⟨_, _, rfl⟩

theorem recomputeWake_frame (e : Env) (c : Core) :
    ∃ p b, recomputeWake e c = { c with psc := p, evaluate := b } := by
  unfold recomputeWake
  split
  · split <;> exact ⟨_, _, rfl⟩
  · simp only
    split
    · obtain ⟨p, b, h⟩ := wakeReached_frame e (c.setSleep (.light (wakeFor e c .light)))
      exact ⟨p, b, h⟩
    · exact ⟨_, _, rfl⟩
  · simp only
    split
    · obtain ⟨p, b, h⟩ := wakeReached_frame e (c.setSleep (.deep (wakeFor e c .deep)))
      exact ⟨p, b, h⟩
    · exact ⟨_, _, rfl⟩
  · exact ⟨_, _, rfl⟩

theorem raiseIfWanted_frame (e : Env) (c : Core) (d : Device) : ∃ p, raiseIfWanted e c d = { c with psc := p } := by
  unfold raiseIfWanted
  split
  · obtain ⟨p, h⟩ := forceAwake_frame c
    exact ⟨_, by rw [rise, h, Core.setPower]⟩
  · exact ⟨_, rfl⟩

theorem foldl_raise_frame (e : Env) (ds : List Device) (c : Core) :
    ∃ p, ds.foldl (raiseIfWanted e) c = { c with psc := p } := by
  induction ds generalizing c with
  | nil => exact ⟨_, rfl⟩
  | cons d ds ih =>
    obtain ⟨p, h⟩ := raiseIfWanted_frame e c d
    obtain ⟨q, hq⟩ := ih { c with psc := p }
    exact ⟨q, by rw [List.foldl_cons, h, hq]⟩

/-- A notice of the Timeline Arbiter touches the Power and Sleep Controller's record and the trigger alone. -/
theorem tableNotice_frame (e : Env) (c : Core) : ∃ p b, tableNotice e c = { c with psc := p, evaluate := b } := by
  obtain ⟨p, b, h⟩ := recomputeWake_frame e c
  obtain ⟨q, hq⟩ := foldl_raise_frame e Device.all { c with psc := p, evaluate := b }
  exact ⟨q, b, by rw [tableNotice, raiseWanted, h, hq]⟩

/-- The power-down check leaves the core, or a device that is ON falls with no window in the view (R136, R158). -/
theorem powerDownCheck_cases (e : Env) (c : Core) (d : Device) :
    powerDownCheck e c d = c
      ∨ e.has d = true ∧ c.isOn d = true ∧ c.rcc.view = none ∧ c.rcc.holdsWork d = false ∧ neededSoon e c d = false
        ∧ powerDownCheck e c d = fall e c d := by
  unfold powerDownCheck
  split
  · rename_i h
    simp only [Bool.and_eq_true, Bool.not_eq_true', Option.isNone_iff_eq_none] at h
    obtain ⟨⟨⟨⟨h1, h2⟩, h3⟩, h4⟩, h5⟩ := h
    exact .inr ⟨h1, h2, h3, h4, h5, rfl⟩
  · exact .inl rfl

/-- Nothing is powered down while the next window is in the view. -/
theorem powerDownCheck_in_view {e : Env} {c : Core} (d : Device) (h : c.rcc.view.isSome = true) :
    powerDownCheck e c d = c := by
  rcases powerDownCheck_cases e c d with h1 | ⟨-, -, hv, -⟩
  · exact h1
  · simp [hv] at h

/-- The teardowns of COORDINATOR_RESET raise and drop no device (R216). -/
@[simp] theorem resetStacks_power (e : Env) (c : Core) : (resetStacks e c).psc.power = c.psc.power := rfl

/-! ### What follows at the same moment -/

/-- A core at which nothing follows is left by the settling. -/
theorem settle_rests {e : Env} {c : Core} (h : settleStep e c = none) : settle e c = c := by
  unfold settle settleFuel
  simp [settleLoop, h]

/-- One thing that follows is done, and the rest follows from what it leaves. -/
theorem settleLoop_step {e : Env} {n : Nat} {c c' : Core} (h : settleStep e c = some c') :
    settleLoop e (n + 1) c = settleLoop e n c' := by simp [settleLoop, h]

theorem settleLoop_rests {e : Env} {c : Core} (h : settleStep e c = none) (n : Nat) : settleLoop e n c = c := by
  cases n <;> simp [settleLoop, h]

/-- With a transfer in flight the arbiter decides nothing, and no preparation goes on. -/
theorem busStep_busy {e : Env} {c : Core} {t : Transfer} (h : c.rcc.bus = some t) : busStep e c = none := by
  simp [busStep, h]

theorem powerArrived_iff {p : Prep} {c : Core} :
    powerArrived p c = true ↔ p.step = .awaitingPower ∧ ∀ d ∈ p.awaited, c.power d = .on := by
  simp [powerArrived, Core.isOn]

/-- Every present device is OFF. -/
theorem allOff_iff {e : Env} {c : Core} : allOff e c = true ↔ ∀ d, e.has d = true → c.power d = .off := by
  unfold allOff
  rw [List.all_eq_true]
  constructor
  · intro h d hd
    simpa [hd] using h d (by cases d <;> decide)
  · intro h d _
    by_cases hd : e.has d = true <;> simp [hd, h d]

/-! ### The bits of a transfer -/

@[simp] theorem outcome_nil (b : BusReply) : b.outcome [] = .done := rfl

/-- A step that fails gives the outcome, and one that passes leaves it to the steps after it. -/
@[simp] theorem outcome_cons (b : BusReply) (step : BusStep) (rest : List BusStep) :
    b.outcome (step :: rest) = match b.failure step with
      | some f => f
      | none => b.outcome rest := by
  unfold BusReply.outcome
  rw [List.findSome?_cons]
  cases b.failure step <;> rfl

/-- The transfer in flight ends and leaves the bus idle before its outcome is taken. -/
theorem endTransfer_some {c : Core} {t : Transfer} (h : c.rcc.bus = some t) (e : Env) (b : BusReply) :
    endTransfer e b c = (if t.void then { c with rcc := { c.rcc with bus := none } }
      else takeOutcome e t (b.outcome t.steps) b.value { c with rcc := { c.rcc with bus := none } }).trigger := by
  simp [endTransfer, h]

/-! ### What the laws say of one record or entry -/

theorem drives_iff {t : Tla} {r : Reservation} : r.drives t = true ↔
    r.state = .active ∧ t.band = r.band ∧ t.subSel = r.owner ∧ t.rxEn = r.cls.receives ∧ t.txEn = r.cls.transmits := by
  simp [Reservation.drives, and_assoc]

theorem agrees_iff {e : Env} {x : Sub} {m : ShadowEntry} : m.agrees e x = true ↔
    m.valueOf e x = none ∨ m.live = m.valueOf e x := by
  simp [ShadowEntry.agrees]

theorem degradedAt_iff {c : Core} {h : Handle} : c.degradedAt h = true ↔
    ∃ r ∈ c.tla.table, r.handle = h ∧ r.degraded = true := by
  simp [Core.degradedAt]

theorem prepares_iff {p : Prep} {t : Transfer} : t.prepares p = true ↔
    t.cause = .preparation ∧ t.kind ≠ .read ∧ t.owner = some p.owner ∧ t.dropped = false ∧ t.ownerGone = false
      ∧ t.void = false ∧ t.deviceLeft = false := by
  simp [Transfer.prepares, and_assoc]

theorem keepsContext_iff {e : Env} {c : Core} {x : Sub} {t : Transfer} : t.keepsContext e c x = true ↔
    t.void = true ∨ c.scopeOf e t.device t.register ≠ some .context
      ∨ (t.cause ≠ .preparation ∧ t.owner = some x ∧ t.ownerGone = false
        ∧ (t.kind = .read → ownValue e c x t.device t.register = none)) := by
  simp [Transfer.keepsContext, and_assoc, or_assoc, imp_iff_not_or]

/-! ### The events of the timeline -/

/-- The first of a list that is due is what a search finds. -/
theorem find_first {α : Type} {ok : α → Bool} {earlier later : List α} {a : α} (ha : ok a = true)
    (h : ∀ b ∈ earlier, ok b = false) : (earlier ++ a :: later).find? ok = some a := by
  have : earlier.find? ok = none := by simpa using h
  simp [List.find?_append, this, ha]

end Sys2Proof.Machine
end

