-- ==== Sys2Proof/Tests/Slice0.lean ====
section
/-! SUPPORT. The model's own tests. Expected results are the manual's worked examples and tables, or worked out by hand from
its rules; each test names its source. The `test_witness_` theorems show, for each obligation with hypotheses, concrete
states and operands that meet them, clause by clause. -/

namespace Sys2Proof.Tests

open Sys2Proof.Machine

set_option Elab.async false

/-! ### States the tests speak of -/

/-- A transaction in progress that began while the part was AWAKE. -/
def openLink : Link := ⟨⟨0, .ok, []⟩, 0, some ⟨.awake, []⟩⟩

/-- The part with its load ended and both stacks ATTACHED, a transaction in progress on every port. -/
def up : State :=
  { State.reset with
    env := { Env.initial with load := { Load.initial with phase := .ended } }
    links := ⟨openLink, openLink, openLink⟩
    core := { Core.initial with ssv := ⟨⟨.attached, none⟩, ⟨.attached, none⟩⟩ } }

/-- The same with no stack ATTACHED. -/
def bare : State := { up with core := { up.core with ssv := ⟨⟨.detached, none⟩, ⟨.lost, none⟩⟩ } }

/-- RESET_N has risen, and nothing has been read. -/
def loading : State := { up with env := { up.env with load := { Load.initial with phase := .reading } } }

def atTime (t : Time) (s : State) : State := { s with env := { s.env with count := t } }

def withCore (f : Core → Core) (s : State) : State := { s with core := f s.core }

def withTable (rs : List Reservation) (s : State) : State :=
  withCore (fun c => { c with tla := { c.tla with table := rs } }) s

/-- The RF Context Controller's view shows a window of x's being prepared. -/
def windowInView (x : Sub) (h : Handle) (s : State) : State :=
  withCore (fun c => { c with rcc := { c.rcc with view := some ⟨x, h, false⟩ } }) s

def withSession (r : Session) (queues : Pair (List Handle)) (s : State) : State :=
  withCore (fun c => { c with smg := { c.smg with
    sessions := c.smg.sessions.set r.handle.index.toNat (some r), queues := queues } }) s

def withCells (x : Sub) (rs : List (Option Cell)) (s : State) : State :=
  withCore (fun c => c.setCells x { c.cells x with slots := rs ++ List.replicate (12 - rs.length) none }) s

/-- The state after a command; a command that stops leaves it where it is. -/
def after (c : Instr) (s : State) : State :=
  match exec c s with
  | .next t => t
  | .fault _ => s
  | .refused _ => s

def slotAfter (port : Port) (c : Instr) (s : State) : Slot := ((after c s).links.get port).slot

def kindsAfter (port : Port) (c : Instr) (s : State) : List EventKind :=
  (((after c s).core.pif.get port).events).map Event.kind

/-- Handle, start and lost count of each record. -/
def starts (s : State) : List (Handle × Time × Nat) := s.core.tla.table.map fun r => (r.handle, r.start, r.lost)

def granted (h : Handle) (x : Sub) (k : Machine.Class) (start : Time) (slack length : Nat) : Reservation :=
  { newRecord x k start slack length 1250 2 with handle := h, start := start, state := .granted }

/-! ### Well-formed commands -/

def nCells (n : Nat) : List CellKey := List.replicate n ⟨1250, 301⟩

theorem test_wf_reserve_cells :
    (Instr.reserve .app 0 4 false 0 0 64 0 0 0 0 none (nCells 9)).wf = true
      ∧ (Instr.reserve .app 0 4 false 0 0 64 0 0 0 0 none (nCells 10)).wf = false := by decide

theorem test_wf_transfer_end :
    (Instr.busTransferEnd ⟨false, false⟩ (List.replicate 16 false)).wf = true
      ∧ (Instr.busTransferEnd ⟨false, false⟩ (List.replicate 15 false)).wf = false := by decide

theorem test_wf_clock_advance :
    (Instr.timelineClockAdvance 1).wf = true ∧ (Instr.timelineClockAdvance 600).wf = true
      ∧ (Instr.timelineClockAdvance 0).wf = false ∧ (Instr.timelineClockAdvance 601).wf = false := by decide

/-! ### The queue of commands -/

theorem test_step_takes_the_front :
    step { up with pending := [.calibrate .app 9 64002, .fetch .app 10] }
      = exec (.calibrate .app 9 64002) { up with pending := [.fetch .app 10] } := by rfl

theorem test_word_spells_nothing : decodeTableWord 8 0 = none ∧ up.withFetchWord 8 0 = up := ⟨rfl, rfl⟩

/-! ### Links (11_frame_and_record_formats.md, R196 and the example of R219; 09_port_links_and_events.md) -/

/-- By hand from R196: 0xFF shifted eight times with 0x2F gives 0x42, and a second 0x00 gives 0xB8. -/
theorem test_crc_by_hand : crc [0] = 0x42 ∧ crc [0, 0] = 0xB8 := by decide

/-- The worked example of chapter 11: a RESERVE of 34 bytes with sequence 0x33. -/
theorem test_reserve_frame_bytes :
    (requestFrame 0x33 (.reserve (.stack .A) 0x33 4 false 100500 200 64 1250 2 0 0 none
      [⟨1250, 301⟩, ⟨1310, 77⟩])).take 33
      = [0x10, 0x33, 0x1E, 0x04, 0x00, 0x00, 0x01, 0x88, 0x94, 0x00, 0xC8, 0x00, 0x40, 0x04, 0xE2, 0x02,
         0x00, 0x00, 0x00, 0x00, 0x00, 0x00, 0x00, 0x00, 0x00, 0x04, 0xE2, 0x01, 0x2D, 0x05, 0x1E, 0x00, 0x4D] := by
  decide +kernel

/-- A command byte outside the index, and a wrong payload length (R198). -/
theorem test_frame_readings :
    readRequest .app 0 0x05 [] = .unknown ∧ readRequest .app 0 0x41 [1] = .badLength
      ∧ readRequest .app 7 0x41 [0xFA, 0x02] = .request (.calibrate .app 7 64002) := by decide

/-- Bytes as a link carries them, with two bits left over (R193). -/
def sent (bytes : List Byte) : List Bool := bitsOfBytes bytes ++ [true, false]

/-- The run of transactions of chapter 9: an early end discards the frame, a damaged frame is counted. -/
theorem test_transaction_ends :
    slotAfter (.stack .A) (.linkTransactionEnd (.stack .A) (sent [0x00, 0x16, 0x00])) up = ⟨0, .ok, []⟩
      ∧ ((after (.linkTransactionEnd (.stack .A) (sent [0x01, 0x16, 0x00, 0x55, 0x00])) up).links.get (.stack .A))
        = ⟨⟨0x16, .frameError, []⟩, 1, none⟩ := by decide +kernel

theorem test_fetch_answer : slotAfter (.stack .A) (.fetch (.stack .A) 21) up = ⟨21, .ok, []⟩ := by decide

/-- The 15 bytes of an event record (the example of chapter 11, with the end at 100564). -/
theorem test_event_bytes :
    Event.bytes ⟨.reservationEnded, .reservation .A ⟨9, 200⟩, 100564, 0, 4⟩
      = [0x01, 0x01, 0x00, 0x09, 0xC8, 0x00, 0x00, 0x00, 0x01, 0x88, 0xD4, 0x00, 0x00, 0x00, 0x04] := by decide

/-- EVENT_READ takes the oldest six of seven records and leaves one (R206). -/
def noise (n : Nat) : List Event := List.replicate n ⟨.bridgeDone, .ticket .A 1, 5, 0, 0⟩

def noisy (n : Nat) : State :=
  withCore (fun c => { c with pif := c.pif.set (.stack .A) ⟨noise n, 2⟩ }) up

theorem test_event_read_takes_six :
    ((after (.eventRead (.stack .A) 3) (noisy 7)).core.pif.get (.stack .A)) = ⟨noise 1, 0⟩
      ∧ (slotAfter (.stack .A) (.eventRead (.stack .A) 3) (noisy 7)).payload.take 6 = [0, 6, 0, 2, 0, 1] := by decide

theorem test_link_read :
    slotAfter (.stack .A) (.linkRead (.stack .A) 4) (noisy 7) = ⟨4, .ok, [0, 0, 7, 2]⟩ := by decide

/-! ### Subscriptions and supervision (chapter 8) -/

theorem test_attach_after_loss :
    slotAfter (.stack .B) (.attach (.stack .B) 5) bare = ⟨5, .ok, [2, 1, 0x00, 0x00, 0xFA, 0x00, 0]⟩
      ∧ kindsAfter .app (.attach (.stack .B) 5) bare = [.stackAttached] := by decide

theorem test_detach_tears_down :
    slotAfter (.stack .A) (.detach (.stack .A) 6) up = ⟨6, .ok, [1, 0]⟩
      ∧ kindsAfter .app (.detach (.stack .A) 6) up = [.stackDetached] := by decide

theorem test_policy_clamps :
    (after (.policySet .app 7 2 9 3199 0 320001) up).env.policy = ⟨some .B, 8, 3200, ⟨0, 320000⟩⟩ := by decide

/-- The silence of chapter 8: a call of B lost at 2094000, with two events in B's queue. -/
def silent : State :=
  atTime 2094000 (withCore (fun c => { c with
      ssv := ⟨⟨.attached, none⟩, ⟨.attached, some 2094000⟩⟩
      csc := ⟨c.csc.a, { c.csc.b with coverage := .inService }⟩
      pif := c.pif.set (.stack .B) ⟨noise 2, 0⟩ })
    (withSession ⟨⟨1, 1⟩, .B, .voice ⟨false, some ⟨640, 160, 0, none, 0, 0⟩, 0⟩⟩ ⟨[], []⟩ up))

theorem test_silence_expires :
    kindsAfter .app (.silenceMonitorExpiry .B) silent = [.callState, .coverage, .stackLost]
      ∧ (after (.silenceMonitorExpiry .B) silent).core.ssv.get .B = ⟨.lost, none⟩
      ∧ ((after (.silenceMonitorExpiry .B) silent).core.pif.get (.stack .B)) = ⟨[], 0⟩ := by decide

theorem test_status_read_clears_the_alert :
    (after (.statusRead .app 8) { up with env := { up.env with alert := true } }).env.alert = false
      ∧ (slotAfter .app (.statusRead .app 8) up).payload.length = 35 := by decide

/-! ### The radio timeline (the page of chapter 1 against the other subscription's call) -/

/-- The table of the worked example, before the request. -/
def exampleTable : List Reservation :=
  [granted ⟨9, 200⟩ .A .measure 100500 200 64,
   { granted ⟨3, 14⟩ .B .voice 100640 0 160 with repeats := some ⟨640, 0⟩, session := some ⟨0, 1⟩ },
   { granted ⟨7, 5⟩ .B .measure 100820 640 96 with repeats := some ⟨6400, 0⟩ },
   granted ⟨12, 3⟩ .A .measure 101300 0 64]

def liveCall (credit : Nat) (last : Time) : Session :=
  ⟨⟨0, 1⟩, .B, .voice ⟨false, some ⟨640, 160, 100000, some ⟨3, 14⟩, credit, last⟩, 0⟩⟩

/-- Now is 100000; index 0 was last used with generation 41, and B's call holds credit 0 since 68000. -/
def example1 : State :=
  atTime 100000 (withSession (liveCall 0 68000) ⟨[], []⟩ (withTable exampleTable
    (withCore (fun c => { c with tla := { c.tla with generations := c.tla.generations.set 0 41 } }) up)))

def pageRequest : Instr := .reserve (.stack .A) 1 2 false 100600 200 128 1250 2 0 0 none []

theorem test_page_against_call :
    starts (after pageRequest example1)
        = [(⟨9, 200⟩, 100500, 0), (⟨0, 42⟩, 100600, 0), (⟨7, 5⟩, 100820, 0), (⟨3, 14⟩, 101280, 1)]
      ∧ slotAfter (.stack .A) pageRequest example1 = ⟨1, .ok, [0, 42, 0x00, 0x01, 0x88, 0xF8]⟩ := by decide +kernel

theorem test_page_against_call_events :
    kindsAfter (.stack .B) pageRequest example1 = [.tuneAway, .occurrenceLost]
      ∧ kindsAfter (.stack .A) pageRequest example1 = [.reservationEnded]
      ∧ (after pageRequest example1).core.voiceSession.map (fun p => p.2.traffic.map fun t => (t.credit, t.lastRefill))
        = some (some (0, 100000)) := by decide +kernel

theorem test_withdraw_frees :
    starts (after (.withdraw (.stack .A) 2 ⟨12, 3⟩) example1)
      = [(⟨9, 200⟩, 100500, 0), (⟨3, 14⟩, 100640, 0), (⟨7, 5⟩, 100820, 0)]
      ∧ slotAfter (.stack .A) (.withdraw (.stack .A) 2 ⟨7, 5⟩) example1 = ⟨2, .notOwner, []⟩ := by decide +kernel

theorem test_stage_appends :
    slotAfter (.stack .A) (.stage (.stack .A) 3 ⟨9, 200⟩ 3 0x04 1) example1 = ⟨3, .ok, [1]⟩ := by decide +kernel

theorem test_reservation_read :
    (slotAfter .app (.reservationRead .app 4 ⟨7, 5⟩) example1).payload.take 11
      = [1, 4, 0, 0, 0, 0, 0, 0x00, 0x01, 0x89, 0xD4] := by decide +kernel

/-- At 100496 the preparation of 9/200 is asked for: the three devices of a receive class rise, and device 2, whose delay
is 0, enters ON at once (R6, R28, R132, R155). -/
theorem test_preparation_request :
    ((after .preparationRequest (atTime 100496 example1)).core.reservation ⟨9, 200⟩).map (fun r => r.state)
        = some .preparing
      ∧ (after .preparationRequest (atTime 100496 example1)).core.psc.power
        = ⟨.rising 100592, .off, .on, .rising 100528⟩ := by decide +kernel

/-- A window whose preparation has ended, at its start and at its end. -/
def readyWindow : State :=
  atTime 5000 (windowInView .B ⟨2, 1⟩ (withTable [{ granted ⟨2, 1⟩ .B .measure 5000 0 160 with
    state := .preparing, prepared := some false, cells := [⟨1250, 301⟩] }] up))

def activeWindow : State := atTime 5160 (after .windowStart readyWindow)

theorem test_window_start :
    (after .windowStart readyWindow).core.tla.rxEn = true ∧ (after .windowStart readyWindow).core.tla.txEn = false
      ∧ (after .windowStart readyWindow).core.tla.subSel = .B ∧ (after .windowStart readyWindow).core.tla.band = 2 := by
  decide +kernel

theorem test_window_end :
    (after .windowEnd activeWindow).core.tla.rxEn = false ∧ (after .windowEnd activeWindow).core.tla.band = 2
      ∧ kindsAfter (.stack .B) .windowEnd activeWindow = [.reservationEnded] := by decide +kernel

/-! ### Calls and texts (chapter 2) -/

def serving (x : Sub) (s : State) : State :=
  withCore (fun c => c.setSearch x { c.csc.get x with coverage := .inService }) s

theorem test_voice_open :
    slotAfter (.stack .B) (.voiceOpen (.stack .B) 1 false) (serving .B up) = ⟨1, .ok, [0, 1]⟩
      ∧ slotAfter (.stack .B) (.voiceOpen (.stack .B) 1 false) up = ⟨1, .noService, []⟩ := by decide +kernel

def setupCall : State := withSession ⟨⟨0, 1⟩, .B, .voice ⟨false, none, 0⟩⟩ ⟨[], []⟩ (serving .B (atTime 200000 up))

/-- The call connects at 200000 with C = 2: credit 2, last refill 200000 (the credit example). -/
theorem test_voice_connect :
    (after (.voiceConnect (.stack .B) 2 ⟨0, 1⟩ 640 160 200100 1250 2) setupCall).core.voiceSession.map
        (fun p => p.2.traffic.map fun t => (t.credit, t.lastRefill)) = some (some (2, 200000))
      ∧ slotAfter (.stack .B) (.voiceConnect (.stack .B) 2 ⟨0, 1⟩ 159 160 200100 1250 2) setupCall
        = ⟨2, .badParam, []⟩ := by decide +kernel

theorem test_voice_release :
    kindsAfter .app (.voiceRelease (.stack .B) 3 ⟨0, 1⟩) setupCall = [.callState]
      ∧ (after (.voiceRelease (.stack .B) 3 ⟨0, 1⟩) setupCall).core.voiceSession = none := by decide +kernel

/-- The text of chapter 2: submitted at 500000 with the next page at 520000, so the segment lies at 520132. -/
def textState : State :=
  atTime 500000 (withTable [{ granted ⟨4, 2⟩ .A .page 520000 0 128 with repeats := some ⟨40960, 0⟩ }] (serving .A up))

theorem test_text_submit :
    starts (after (.textSubmit (.stack .A) 5 2 640 false 1250 2) textState)
      = [(⟨4, 2⟩, 520000, 0), (⟨0, 1⟩, 520132, 0)]
      ∧ slotAfter (.stack .A) (.textSubmit (.stack .A) 5 2 640 false 1250 2) textState = ⟨5, .ok, [0, 1, 1]⟩ := by
  decide +kernel

def sentText (deadline : Option Time) : Session :=
  ⟨⟨2, 7⟩, .A, .text ⟨.sending, 2, 0, 640, false, 1250, 2, 0, none, deadline, none, false⟩⟩

/-- The state at 521000, with the result of segment 1 due by 584772. -/
def waitingText : State := atTime 521000 (withSession (sentText (some 584772)) ⟨[⟨2, 7⟩], []⟩ (serving .A up))

theorem test_segment_failed :
    starts (after (.segmentResult (.stack .A) 6 ⟨2, 7⟩ 1) waitingText) = [(⟨0, 1⟩, 521320, 0)] := by decide +kernel

theorem test_text_cancel :
    (after (.textCancel (.stack .A) 7 ⟨2, 7⟩) waitingText).core.smg.queues = ⟨[], []⟩
      ∧ slotAfter (.stack .A) (.textCancel (.stack .A) 7 ⟨2, 7⟩) waitingText = ⟨7, .ok, []⟩ := by decide +kernel

theorem test_session_read :
    (slotAfter .app (.sessionRead .app 8 ⟨2, 7⟩) waitingText).payload.take 6 = [0, 1, 1, 1, 2, 0] := by decide +kernel

/-- The deadline passes at 584772: the retry is not before 584772 + 320 (R60, R61). -/
theorem test_text_deadline :
    starts (after (.textResultDeadline .A) (atTime 584772 waitingText)) = [(⟨0, 1⟩, 585092, 0)] := by decide +kernel

/-! ### Cells and measurement (chapter 3) -/

def neighbour (key : CellKey) (level : Int) (updated : Time) : Cell :=
  ⟨key, .neighbour, 0, false, some ⟨level, updated⟩, 11, none, false⟩

def servedBy (key : CellKey) (level : Int) (updated : Time) : Cell :=
  ⟨key, .serving, 0, false, some ⟨level, updated⟩, 1, none, false⟩

/-- The first window of the worked example. -/
theorem test_first_window :
    windowMean (-1482) 4 = -370
      ∧ filterUpdate 2 81920 360160 (-370) (neighbour ⟨1250, 301⟩ (-6080) 300000)
        = { neighbour ⟨1250, 301⟩ (-6040) 360160 with updates := 12 } := by decide

theorem test_cell_set :
    slotAfter (.stack .A) (.cellSet (.stack .A) 1 ⟨1310, 77⟩ 60 false) up = ⟨1, .ok, [0, 0, 48]⟩
      ∧ slotAfter (.stack .A) (.cellSet (.stack .A) 1 ⟨1310, 1024⟩ 0 false) up = ⟨1, .badParam, []⟩ := by decide +kernel

def oneCell : State := atTime 400000 (withCells .A [some (neighbour ⟨1250, 301⟩ (-6040) 360160)] up)

theorem test_cell_remove :
    slotAfter (.stack .A) (.cellRemove (.stack .A) 2 ⟨1250, 301⟩) oneCell = ⟨2, .ok, [0]⟩
      ∧ slotAfter (.stack .A) (.cellRemove (.stack .A) 2 ⟨1250, 302⟩) oneCell = ⟨2, .noSuch, []⟩ := by decide +kernel

/-- −6040 is 0xE868, 360160 is 0x00057EE0. -/
theorem test_cell_read :
    slotAfter .app (.cellRead .app 3 0 0) oneCell
      = ⟨3, .ok, [1, 1, 0x04, 0xE2, 0x01, 0x2D, 1, 0, 0, 1, 0xE8, 0x68, 0x00, 0x05, 0x7E, 0xE0, 11, 0,
          0, 0, 0, 0, 0, 0]⟩ := by decide +kernel

theorem test_filter_set :
    slotAfter (.stack .A) (.filterSet (.stack .A) 4 7 1) up = ⟨4, .ok, [6, 0, 0, 0x0C, 0x80]⟩ := by decide +kernel

theorem test_flags_read :
    slotAfter .app (.flagsRead .app 5 1) up = ⟨5, .ok, [0, 0, 0, 0, 0, 0]⟩
      ∧ slotAfter .app (.flagsRead .app 5 2) up = ⟨5, .badParam, []⟩ := by decide +kernel

def bitsOf (width n : Nat) : List Bool := (List.range width).map fun i => n.testBit (width - 1 - i)

/-- The report −370 of the cell (1250, 301): 11 bits two's complement, valid. -/
def report : List Bool := bitsOf 16 1250 ++ bitsOf 10 301 ++ bitsOf 11 (2048 - 370) ++ [true]

theorem test_report_fields :
    (sampleOfBits report).map (fun s => (s.key, s.raw, s.valid)) = some (⟨1250, 301⟩, -370, true)
      ∧ (sampleOfBits (report ++ [true])).isNone = true := by decide +kernel

/-- A report with no window ACTIVE is a stray (R78, R86). -/
theorem test_stray_report : (after (.sampleReport report) up).core.msu.stray = 1 := by decide +kernel

/-- A serving level of −6050 gives 4 bars (R87). -/
theorem test_bars : barsOfLevel (-6050) = 4 ∧ barsOfLevel (-7681) = 0 ∧ barsOfLevel (-5440) = 5 := by decide

/-! ### Handover evaluation (chapter 4) -/

/-- The weak example, line by line. -/
theorem test_weak_and_recovered :
    judgeWeak 3000000 10240 (-7040) (-7050) .clear = (.pending 3000000, none)
      ∧ judgeWeak 3010240 10240 (-7040) (-7010) (.pending 3000000) = (.reported 3000000, some .servingWeak)
      ∧ judgeWeak 3020000 10240 (-7040) (-6970) (.reported 3000000) = (.clear, some .servingRecovered) := by decide

/-- The neighbour example: reported at the first evaluation at which 10240 tu have elapsed. -/
theorem test_neighbour_reported :
    (judgeBetter 1010240 10240 256 296 { neighbour ⟨1310, 77⟩ (-5812) 0 with entry := some 1000000 }).2 = true
      ∧ (judgeBetter 1005120 10240 256 294 { neighbour ⟨1310, 77⟩ (-5810) 0 with entry := some 1000000 }).2 = false
      ∧ (judgeBetter 2008000 10240 256 150 { neighbour ⟨1310, 77⟩ (-5954) 0 with entry := some 2000000 }).1.entry
        = none := by decide

theorem test_serving_set :
    slotAfter (.stack .A) (.servingSet (.stack .A) 1 ⟨1250, 301⟩) oneCell = ⟨1, .ok, [0, 0, 1, 0, 0, 0, 0, 0]⟩
      ∧ kindsAfter .app (.servingSet (.stack .A) 1 ⟨1250, 301⟩) oneCell = [.coverage] := by decide +kernel

/-- A hold of the default 32000 tu starts at 400000 (R100, R104, R108). -/
theorem test_handover_done :
    slotAfter (.stack .A) (.handoverDone (.stack .A) 2 ⟨1310, 77⟩ 5) (serving .A oneCell)
      = ⟨2, .ok, [1, 0, 0, 0, 0, 0, 0x00, 0x06, 0x97, 0x80, 0]⟩
      ∧ ((after (.handoverDone (.stack .A) 2 ⟨1310, 77⟩ 5) (serving .A oneCell)).core.hoe.get .A).holdEnd
        = some 432000 := by decide +kernel

theorem test_handover_set :
    ((after (.handoverSet (.stack .A) 3 31 163841 0 5) up).core.hoe.get .A)
      = { Hoe.initial with hysteresis := 30, ttt := 163840, weakDbm := -40, holdTime := 5 } := by decide +kernel

def held : State := withCore (fun c => c.setHoe .B { c.hoe.get .B with holdEnd := some 7 }) (atTime 7 up)

theorem test_hold_expiry :
    ((after (.holdExpiry .B) held).core.hoe.get .B).holdEnd = none
      ∧ ((after (.holdExpiry .B) (atTime 6 held)).core.hoe.get .B).holdEnd = some 7 := by decide +kernel

/-! ### Coverage loss and search (chapter 5's example) -/

def lossOfService : State :=
  atTime 800000 (withTable [granted ⟨5, 1⟩ .A .page 832200 0 128] (serving .B up))

theorem test_service_lost :
    slotAfter (.stack .B) (.serviceLost (.stack .B) 1) lossOfService
        = ⟨1, .ok, [2, 1, 0, 1, 0x00, 0x0C, 0x35, 0x04]⟩
      ∧ kindsAfter (.stack .B) (.serviceLost (.stack .B) 1) lossOfService = [.searchWindow]
      ∧ kindsAfter .app (.serviceLost (.stack .B) 1) lossOfService = [.coverage] := by decide +kernel

/-- B awaits the verdict of attempt 1 at 801000; the next start is 832332, behind A's page. -/
def verdictDue : State :=
  atTime 801000 (withCore (fun c => c.setSearch .B ⟨.near, .awaiting 832324 800324, 1, 640, 3, false⟩) lossOfService)

theorem test_search_not_found :
    starts (after (.searchResult (.stack .B) 2 1 ⟨0, 0⟩) verdictDue) = [(⟨5, 1⟩, 832200, 0), (⟨0, 1⟩, 832332, 0)]
      ∧ slotAfter (.stack .B) (.searchResult (.stack .B) 2 1 ⟨0, 0⟩) verdictDue = ⟨2, .ok, [2]⟩ := by decide +kernel

theorem test_search_found :
    (after (.searchResult (.stack .B) 3 0 ⟨655, 88⟩) verdictDue).core.csc.get .B = ⟨.inService, .idle, 1, 640, 3, false⟩
      ∧ slotAfter (.stack .B) (.searchResult (.stack .B) 3 0 ⟨655, 88⟩) verdictDue
        = ⟨3, .ok, [1, 0, 1, 0, 0, 0, 0, 0]⟩ := by decide +kernel

theorem test_search_plan :
    slotAfter (.stack .B) (.searchPlan (.stack .B) 4 640 3) up = ⟨4, .ok, [0x02, 0x80, 3, 0, 0, 0]⟩
      ∧ slotAfter (.stack .B) (.searchPlan (.stack .B) 4 640 8) up = ⟨4, .badParam, []⟩ := by decide +kernel

theorem test_search_restart :
    slotAfter .app (.searchRestart .app 5 0) (serving .A up) = ⟨5, .notPermitted, []⟩
      ∧ slotAfter .app (.searchRestart .app 5 1) verdictDue = ⟨5, .ok, [2, 1, 0, 1, 0x00, 0x0C, 0x38, 0xEC]⟩ := by
  decide +kernel

/-- The deadline of chapter 5's attempt 2: attempt 3 begins at 864656. -/
theorem test_search_deadline :
    starts (after (.searchResultDeadline .B) (atTime 864652
      (withCore (fun c => c.setSearch .B ⟨.near, .awaiting 864652 832652, 2, 640, 3, false⟩) up)))
      = [(⟨0, 1⟩, 864656, 0)] := by decide +kernel

theorem test_search_due :
    starts (after (.searchDueTime .B) (atTime 900000
      (withCore (fun c => c.setSearch .B ⟨.near, .unplaced 900000, 2, 640, 3, false⟩) up)))
      = [(⟨0, 1⟩, 932000, 0)] := by decide +kernel

/-! ### RF contexts and the control bus (the trapped write of chapter 6) -/

def rfMap : List ShadowEntry :=
  [⟨⟨.amplifier, 0x08, .common, some 0x0155⟩, ⟨none, none⟩, some 0x0155, none⟩,
   ⟨⟨.transceiver, 0x10, .context, none⟩, ⟨none, some 0x2B44⟩, none, some 0x2B44⟩]

def rfState : State :=
  atTime 900000 (withCore (fun c => { c with rcc := { c.rcc with shadow := rfMap, bridges := ⟨⟨[], 0⟩, ⟨[], 40⟩⟩ } }) up)

def trapped : State := after (.rfWrite (.stack .B) 1 1 0x0A 0x0300) rfState

theorem test_write_traps :
    slotAfter (.stack .B) (.rfWrite (.stack .B) 1 1 0x0A 0x0300) rfState = ⟨1, .ok, [41, 1]⟩
      ∧ trapped.core.power .amplifier = .rising 900032 := by decide +kernel

/-- At the rise end the replay write of 0x08 is the answer check. -/
theorem test_rise_end_replays :
    (after (.riseEnd .amplifier) (atTime 900032 trapped)).core.rcc.bus.map (fun t => (t.register, t.kind, t.check))
      = some (0x08, .write 0x0155, true) := by decide +kernel

def replaying : State := after (.riseEnd .amplifier) (atTime 900032 trapped)

/-- Sixteen levels, low. -/
def low16 : List Bool := List.replicate 16 false

/-- Both acknowledge slots held low (R220). -/
def transferDone : Instr := .busTransferEnd ⟨false, false⟩ low16

def writeOf0C : Transfer := ⟨.write 0x0300, .amplifier, 0x0C, .own .B, some .B, false, false, false, false, false⟩

/-- A write to register 0x0C of device 1 on RFC_DAT, and a read of it: direction and device, register, value (R220). -/
theorem test_transfer_bits :
    writeOf0C.steps
        = [.driven [false, false, true], .acknowledge false .addressNak,
          .driven [false, false, false, false, true, true, false, false],
          .driven [false, false, false, false, false, false, true, true, false, false, false, false, false, false, false, false],
          .acknowledge true .dataNak, .busy]
      ∧ ({ writeOf0C with kind := .read } : Transfer).steps
        = [.driven [true, false, true], .acknowledge false .addressNak,
          .driven [false, false, false, false, true, true, false, false], .acknowledge true .dataNak, .busy, .returned]
      ∧ (⟨⟨false, true⟩, true, []⟩ : BusReply).outcome writeOf0C.steps = .dataNak
      ∧ (⟨⟨false, false⟩, false, List.replicate 14 false ++ [true, false]⟩ : BusReply).value = 2 := by decide

/-- Its DONE lets the own transfer 0x0A = 0x0300 begin, and that one completes ticket 41. -/
theorem test_transfer_end :
    (after transferDone replaying).core.rcc.bus.map (fun t => (t.register, t.kind))
        = some (0x0A, .write 0x0300)
      ∧ ((after transferDone (after transferDone replaying)).core.pif.get (.stack .B)).events
        = [⟨.bridgeDone, .ticket .B 41, 900032, 0, 0x0300⟩] := by decide +kernel

/-- An answer check that ends ADDRESS_NAK completes the trapped ticket POWER_FAIL; one that times out clears the check, and
the ticket's own transfer follows (R130, R144). -/
theorem test_transfer_timeout :
    kindsAfter (.stack .B) (.busTransferEnd ⟨true, true⟩ low16) replaying = [.bridgeDone]
      ∧ (after (.busTransferEnd ⟨true, true⟩ low16) replaying).core.rcc.answering.get .amplifier = .notAnswering
      ∧ (after .busTransferTimeout replaying).core.rcc.answering.get .amplifier = .answering
      ∧ (after .busTransferTimeout replaying).core.rcc.bus.map (fun t => t.register) = some 0x0A := by decide +kernel

/-- A set CONTEXT value is read from the shadow map (R140). -/
theorem test_read_from_shadow :
    slotAfter (.stack .B) (.rfRead (.stack .B) 2 0 0x10) rfState = ⟨2, .ok, [41, 0]⟩
      ∧ ((after (.rfRead (.stack .B) 2 0 0x10) rfState).core.pif.get (.stack .B)).events
        = [⟨.bridgeDone, .ticket .B 41, 900000, 5, 0x2B44⟩] := by decide +kernel

theorem test_context_read :
    slotAfter .app (.contextRead .app 3 1 1) rfState
      = ⟨3, .ok, [2, 0, 0x10, 0, 0, 1, 0x2B, 0x44, 1, 0x2B, 0x44, 0, 0]⟩ := by decide +kernel

/-! ### RF power, supply and sleep (chapter 7) -/

theorem test_time_read :
    slotAfter (.stack .A) (.timeRead (.stack .A) 1) (atTime 100500 up)
      = ⟨1, .ok, [0x00, 0x01, 0x88, 0x94, 0xFA, 0x00]⟩ := by decide +kernel

theorem test_calibrate :
    (after (.calibrate .app 2 64002) up).env.step = 64002 ∧ (after (.calibrate .app 2 0) up).env.step = 63488
      ∧ (after (.calibrate .app 2 0xFFFF) up).env.step = 64512 := by decide +kernel

def asleep (k : Sleep) (fraction : Nat) : State :=
  withCore (fun c => { c with psc := { c.psc with sleep := k, fraction := fraction } }) up

/-- The sleep-clock table: 43 periods from fraction 0 leave the count 41 higher and the fraction 65024. -/
theorem test_sleep_clock :
    (after (.timelineClockAdvance 43) (asleep (.deep none) 0)).env.count = 41
      ∧ (after (.timelineClockAdvance 43) (asleep (.deep none) 0)).core.psc.fraction = 65024
      ∧ (after (.timelineClockAdvance 2) (asleep (.deep none) 62464)).core.psc.fraction = 59392 := by decide +kernel

theorem test_main_clock : (after (.timelineClockAdvance 600) up).env.count = 1 := by decide +kernel

/-- The sleep cycle: consent and an idle part settle down for DEEP, every device already OFF. -/
theorem test_consent_sleeps :
    (after (.sleepConsent (.stack .B) 3 1) (withCore (fun c => { c with psc := { c.psc with consent := ⟨true, false⟩ } })
      up)).core.psc.sleep = .deep none := by decide +kernel

theorem test_stay_awake :
    slotAfter .app (.stayAwake .app 4 1) up = ⟨4, .ok, [1, 0]⟩
      ∧ (after (.stayAwake .app 4 1) up).core.psc.stayAwake = true := by decide +kernel

theorem test_wake_time :
    (after .wakeTime (atTime 1019836 (asleep (.deep (some 1019836)) 0))).core.psc.sleep = .waking 1019900 := by
  decide +kernel

theorem test_settle_end :
    (after .settleEnd (atTime 1019900 (asleep (.waking 1019900) 0))).core.psc.sleep = .awake := by decide +kernel

/-- B's page at 1020000: device 0 is demanded at 1019900, device 3 at 1019964. -/
def pageAhead1 : State := withTable [granted ⟨6, 1⟩ .B .page 1020000 0 128] up

theorem test_demand_time :
    (after (.demandTime .transceiver) (atTime 1019900 pageAhead1)).core.power .transceiver = .rising 1019996
      ∧ (after (.demandTime .frontEnd) (atTime 1019900 pageAhead1)).core.power .frontEnd = .off := by decide +kernel

theorem test_fall_end :
    (after (.fallEnd .transceiver) (atTime 1000144
      (withCore (fun c => c.setPower .transceiver (.falling 1000144)) up))).core.power .transceiver = .off := by
  decide +kernel

/-- A line that leaves its taken level and comes back within 32 tu is not taken (R159). -/
theorem test_battery_line :
    (after (.battLineChange .low true) (atTime 50 up)).env.low = ⟨true, false, some 50⟩
      ∧ (after (.battLineChange .low false) (after (.battLineChange .low true) (atTime 50 up))).env.low
        = ⟨false, false, none⟩ := by decide +kernel

theorem test_supply_taken :
    kindsAfter .app .supplyStabilityTime (atTime 82 (after (.battLineChange .low true) (atTime 50 up))) = [.supply]
      ∧ (after .supplyStabilityTime (atTime 82 (after (.battLineChange .low true) (atTime 50 up)))).env.alert = true
      ∧ kindsAfter .app .supplyStabilityTime (atTime 81 (after (.battLineChange .low true) (atTime 50 up))) = [] := by
  decide +kernel

/-! ### Reset and start-up (chapter 10) -/

theorem test_reset_and_rise :
    (after .resetNRise (after .powerOnReset up)).env.load.phase = .reading
      ∧ (after .powerOnReset up).core = Core.initial := by decide +kernel

def feed (bytes : List Byte) (s : State) : State := bytes.foldl (fun s b => after (.configByteRead (some b)) s) s

/-- The load with clamps of the worked example, the unknown record as kind 0x0A. -/
def loadBytes : List Byte :=
  [0x5A, 7, 0x01, 1, 0x0D, 0x02, 4, 4, 1, 0, 80, 0x03, 1, 10, 0x09, 1, 0, 0x0A, 3, 1, 2, 3,
   0x08, 5, 0, 0x10, 0, 0x00, 0x01, 0x05, 4, 0, 8, 0x03, 0x84]

theorem test_load_with_clamps :
    (fun l : Load => (l.loaded, l.read, l.clamps, l.ignored)) (feed loadBytes loading).env.load = (true, 7, 2, 1)
      ∧ (fun i : Image => (i.delays, i.lightThreshold, i.deepThreshold, i.tuning)) (feed loadBytes loading).env.image
        = (⟨128, 32, 0, 2016⟩, 14, 900, some 0) := by decide +kernel

theorem test_bad_signature :
    (feed [0x5B] loading).env.load.phase = .ended ∧ (feed [0x5B] loading).env.load.cause = .badSignature := by
  decide +kernel

theorem test_coordinator_reset :
    slotAfter .app (.coordinatorReset .app 9) up = ⟨9, .ok, [1, 1]⟩
      ∧ (after (.coordinatorReset .app 9) up).core.ssv = ⟨⟨.detached, none⟩, ⟨.detached, none⟩⟩ := by decide +kernel

theorem test_config_read :
    (slotAfter (.stack .A) (.configRead (.stack .A) 1) up).payload.take 12
      = [1, 0, 0, 0, 0, 0, 1, 1, 1, 1, 0, 96] := by
  decide +kernel

/-! ### Witnesses of the obligations' hypotheses -/

theorem test_witness_StepRunsTheFront : up.pending = [] := rfl

def busyQueue : State := { up with pending := [.calibrate .app 1 64002] }

def queued (c : Instr) (s : State) : State := { s with pending := [c] }

/-- The part of the worked example about to take the page's RESERVE. -/
def exampleQueue : State := queued pageRequest example1

theorem test_witness_StepKeepsRanges : busyQueue.env.Inv ∧ ∃ t, step busyQueue = .next t := ⟨by decide, _, rfl⟩

theorem test_witness_StepKeepsQueueLaw :
    busyQueue.core.QueueLaw ∧ busyQueue.MonitorLaw ∧ silent.core.QueueLaw ∧ silent.MonitorLaw
      ∧ (∃ t, step busyQueue = .next t) ∧ ∃ t, step silent = .next t :=
  ⟨by decide, by decide, by decide, by decide, ⟨_, rfl⟩, _, rfl⟩

theorem test_witness_StepKeepsTableLaw : exampleQueue.core.TableLaw ∧ ∃ t, step exampleQueue = .next t :=
  ⟨by decide +kernel, _, rfl⟩

theorem test_witness_StepKeepsTableOrder :
    (exampleQueue.core.TableLaw ∧ exampleQueue.core.TableOrder ∧ exampleQueue.TimesNear
      ∧ namedStart pageRequest = some 100600
      ∧ (∀ c ∈ exampleQueue.pending.head?, nearOpt exampleQueue.env.count (namedStart c) = true)
      ∧ namedStart (.linkTransactionEnd (.stack .A) (sent (requestFrame 1 pageRequest))) = some 100600)
      ∧ ∃ t, step exampleQueue = .next t :=
  ⟨by decide +kernel, _, rfl⟩

theorem test_witness_StepKeepsSessionLaw :
    exampleQueue.SessionLaw ∧ waitingText.SessionLaw ∧ ∃ t, step exampleQueue = .next t :=
  ⟨by decide +kernel, by decide +kernel, _, rfl⟩

/-- A page window of A with a retune, a full accumulator and a serving record. -/
def measured : State :=
  queued (.sampleReport report) (withCore (fun c => { c with msu := { c.msu with
    view := some ⟨.A, .page, true, [], [⟨⟨1250, 301⟩, 2, 4, -1482⟩]⟩ } })
    (withCells .A [some (servedBy ⟨1250, 301⟩ (-8960) 0), some (neighbour ⟨1250, 302⟩ (-2560) 0)] up))

theorem test_witness_StepKeepsCellLaw : measured.core.CellLaw ∧ ∃ t, step measured = .next t :=
  ⟨by decide +kernel, _, rfl⟩

/-- A window of B in its preparation, with A not ATTACHED. -/
def preparingWindow : State :=
  queued (.detach (.stack .B) 1) (withCore (fun c => { c with ssv := ⟨⟨.lost, none⟩, ⟨.attached, none⟩⟩ })
    (after .preparationRequest (atTime 4996 (withTable [granted ⟨2, 1⟩ .B .measure 5000 0 160] up))))

theorem test_witness_StepKeepsUnattachedLaw :
    preparingWindow.core.TableLaw ∧ preparingWindow.core.UnattachedLaw ∧ preparingWindow.core.attached .A = false
      ∧ preparingWindow.core.rcc.prep.isSome = true ∧ ∃ t, step preparingWindow = .next t :=
  ⟨by decide +kernel, by decide +kernel, by decide +kernel, by decide +kernel, _, rfl⟩

/-- A replay write in flight, to a device that is ON, with a live value in another. -/
def replayQueue : State := queued .busTransferTimeout (withCore (fun c => c.setPower .transceiver .on) replaying)

theorem test_witness_StepKeepsLiveLaw :
    replayQueue.core.TableLaw ∧ replayQueue.core.UnattachedLaw ∧ replayQueue.LiveLaw
      ∧ replayQueue.core.rcc.bus.isSome = true ∧ ∃ t, step replayQueue = .next t :=
  ⟨by decide +kernel, by decide +kernel, by decide +kernel, by decide +kernel, _, rfl⟩

/-- In DEEP, with the wake time of the page that lies ahead. -/
def deepPage : State :=
  queued .wakeTime (withCore (fun c => c.setSleep (.deep (some 1019836))) (atTime 1019836 pageAhead1))

theorem test_witness_StepKeepsSleepLaw :
    deepPage.core.TableLaw ∧ deepPage.core.UnattachedLaw ∧ deepPage.SleepLaw ∧ deepPage.core.psc.sleep.kind = .deep
      ∧ ∃ t, step deepPage = .next t :=
  ⟨by decide +kernel, by decide +kernel, by decide +kernel, by decide +kernel, _, rfl⟩

/-- The shortest frame with one byte of filler and seven bits left over, and the longest, whose CRC byte closes the
transaction. -/
theorem test_witness_FrameCarriesRequest :
    (Instr.fetch .app 1).wf = true ∧ requestHead (.fetch .app 1) = some (.app, 1)
      ∧ (up.links.get .app).transaction.isSome = true ∧ (List.replicate 7 true).length < 8
      ∧ 5 + (up.links.get .app).slot.payload.length ≤ (requestFrame 1 (.fetch .app 1) ++ [0]).length
      ∧ (Instr.reserve (.stack .A) 1 4 false 0 0 64 0 0 0 0 none (nCells 9)).wf = true
      ∧ 5 + (up.links.get (.stack .A)).slot.payload.length
        ≤ (requestFrame 1 (.reserve (.stack .A) 1 4 false 0 0 64 0 0 0 0 none (nCells 9)) ++ []).length := by
  decide +kernel

theorem test_witness_WholeFrameConditions :
    crc ([0] ++ [0x42]) = 0
      ∧ wholeFrame (frameBytes 0x41 7 [0xFA, 0x02]) = some ⟨0x41, 7, [0xFA, 0x02]⟩
      ∧ (wholeFrame (frameBytes 0 0 (List.replicate 60 0))).isSome = true
      ∧ wholeFrame (frameBytes 0 0 (List.replicate 61 0)) = none := by decide +kernel

def closedLinks : State := { up with links := State.reset.links }

theorem test_witness_TransactionBegins :
    closedLinks.env.load.phase ≠ .notBegun ∧ (closedLinks.links.get .app).transaction = none := by decide

/-- Four bytes are too few for an empty payload's response; five are enough. -/
theorem test_witness_FrameChecks_unjudged :
    (List.replicate 7 true).length < 8 ∧ wholeBytes (sent [0x5A, 0x01]) = [0x5A, 0x01]
      ∧ up.env.load.phase ≠ .notBegun ∧ (up.links.get .app).transaction.isSome = true
      ∧ (wholeBytes (sent [0, 0, 0, 0])).length < 5 + (up.links.get .app).slot.payload.length
      ∧ 5 + (up.links.get .app).slot.payload.length ≤ (wholeBytes (sent [0, 0, 0, 0, 0])).length
      ∧ wholeFrame (wholeBytes (sent [0, 0, 0, 0, 0])) = none := by decide +kernel

def wakingLinks : State :=
  { up with links := ⟨⟨⟨0, .ok, []⟩, 0, some ⟨.deep, []⟩⟩, openLink, ⟨⟨0, .ok, []⟩, 0, some ⟨.waking, []⟩⟩⟩ }

theorem test_witness_FrameChecks :
    (up.links.get .app).transaction.isSome = true
      ∧ 5 + (up.links.get .app).slot.payload.length ≤ (wholeBytes (sent (frameBytes 0x05 1 [] ++ [0]))).length
      ∧ wholeFrame (wholeBytes (sent (frameBytes 0x05 1 [] ++ [0]))) = some ⟨0x05, 1, []⟩
      ∧ wholeFrame (wholeBytes (sent (frameBytes 0x41 1 [1]))) = some ⟨0x41, 1, [1]⟩
      ∧ loading.env.load.phase = .reading
      ∧ wakingLinks.env.load.phase = .ended ∧ wakingLinks.beganIn (.stack .A) = .deep ∧ wakingLinks.beganIn .app = .waking
      ∧ Ready up .app ∧ readRequest .app 1 0x05 [] = .unknown ∧ readRequest .app 1 0x41 [1] = .badLength := by
  decide +kernel

theorem test_witness_PermissionChecks :
    requestHead (.statusRead (.stack .A) 1) = some (.stack .A, 1)
      ∧ requestClass (.statusRead (.stack .A) 1) = some .app ∧ Permission.app.allows (.stack .A) = false
      ∧ Ready bare (.stack .A)
      ∧ requestHead (.timeRead (.stack .A) 1) = some (.stack .A, 1)
      ∧ requestClass (.timeRead (.stack .A) 1) = some .shared ∧ Permission.shared.allows (.stack .A) = true
      ∧ takenUnattached (.timeRead (.stack .A) 1) = false ∧ bare.core.attached .A = false
      ∧ requestClass (.withdraw .app 1 ⟨0, 0⟩) = some .stack ∧ Permission.stack.allows .app = false
      ∧ Ready up .app := by decide

theorem test_witness_PortRequests :
    Ready up .app ∧ Ready bare (.stack .B)
      ∧ (up.core.pif.get (.stack .A)).events.length = 0
      ∧ 6 < ((noisy 7).core.pif.get (.stack .A)).events.length
      ∧ 1 ≤ ((noisy 1).core.pif.get (.stack .A)).events.length
      ∧ ((noisy 6).core.pif.get (.stack .A)).events.length ≤ 6 := by decide

theorem test_witness_PortRequests_posting :
    (∀ x, Port.stack .A = .stack x → bare.core.attached x = false)
      ∧ (∀ x, Port.stack .A = .stack x → up.core.attached x = true) :=
  ⟨fun x h => by cases h; rfl, fun x h => by cases h; rfl⟩

theorem test_witness_StackTransitions :
    Ready up (.stack .A) ∧ up.core.attached .A = true ∧ bare.core.attached .A = false
      ∧ (bare.core.ssv.get .A).state = .detached ∧ (bare.core.ssv.get .B).state = .lost
      ∧ (up.core.ssv.get .A).state = .attached
      ∧ silent.env.load.phase ≠ .notBegun ∧ (silent.core.ssv.get .B).monitor = some 2094000
      ∧ atOrAfter silent.env.count 2094000 = true := by decide

/-- An ACTIVE window of B torn down with B, and left alone with A; the call of B, and none; a coverage lost, and none. -/
theorem test_witness_TeardownClears :
    StackState.lost ≠ .attached ∧ StackState.detached ≠ .attached
      ∧ Sub.B = Sub.A.other ∧ activeWindow.core.TableLaw ∧ activeWindow.core.msu.view.map (fun v => v.owner) = some .B
      ∧ (∀ r ∈ activeWindow.core.tla.table, r.owner = .A → r.state ≠ .active)
      ∧ example1.core.voiceSession.map (fun p => p.1.owner) = some .B ∧ up.core.voiceSession = none
      ∧ (setupCall.core.csc.get .B).coverage ≠ .noCell ∧ (up.core.csc.get .B).coverage = .noCell := by decide +kernel

theorem test_witness_PolicyTaken :
    Ready up .app
      ∧ ((2 : Byte), some Sub.B) ∈ [((0 : Byte), none), (1, some Sub.A), (2, some Sub.B)]
      ∧ 2 < (3 : Byte).toNat := by decide

def monitored (m : Option Time) : Core :=
  { (noisy 1).core with ssv := ⟨⟨.attached, m⟩, ⟨.attached, none⟩⟩ }

theorem test_witness_PolicyActs :
    (((monitored (some 9)).ssv.get .A).monitor.isSome = true → (64000 : Nat) ≠ 0)
      ∧ ((monitored (some 9)).ssv.get .A).monitor.isSome = true
      ∧ (((monitored none).ssv.get .A).monitor.isSome = true → (0 : Nat) ≠ 0)
      ∧ (monitored none).attached .A = true ∧ ((monitored none).pif.get (.stack .A)).events ≠ []
      ∧ (up.core.pif.get (.stack .A)).events = [] ∧ bare.core.attached .A = false
      ∧ (silent.core.ssv.get .B).monitor = some 2094000 ∧ up.core.attached .A = true := by decide

theorem test_witness_PartReads :
    Ready up .app ∧ Reads up .app ∧ Reads up (.stack .B)
      ∧ up.core.voiceSession = none
      ∧ setupCall.core.voiceSession.map (fun p => (p.1.owner, p.2.traffic.isSome)) = some (.B, false)
      ∧ example1.core.voiceSession.map (fun p => (p.1.owner, p.2.traffic.isSome)) = some (.B, true) :=
  ⟨by decide, ⟨by decide, trivial⟩, ⟨by decide, by decide⟩, by decide, by decide +kernel, by decide +kernel⟩

theorem test_witness_RecordReads :
    Reads example1 (.stack .B)
      ∧ (∃ r, example1.core.reservation ⟨7, 5⟩ = some r ∧ mayRead (.stack .B) r.owner = true)
      ∧ (∃ r, example1.core.session ⟨0, 1⟩ = some r ∧ mayRead (.stack .B) r.owner = true)
      ∧ (11 : Byte).toNat ≤ 11 ∧ actsFor (.stack .B) 0 = some .B
      ∧ (∃ m, rfState.core.rcc.shadow[(1 : Byte).toNat]? = some m) ∧ Reads rfState .app ∧ actsFor .app 1 = some .B :=
  ⟨⟨by decide +kernel, by decide +kernel⟩, ⟨_, rfl, rfl⟩, ⟨_, rfl, rfl⟩, by decide, rfl, ⟨_, rfl⟩,
    ⟨by decide +kernel, trivial⟩, rfl⟩

def callTraffic : Traffic := ⟨640, 160, 100000, some ⟨3, 14⟩, 0, 68000⟩

/-- A call ACTIVE and one in SETUP, the last of three texts, and a slot with a record and one without. -/
theorem test_witness_RecordReads_bytes :
    (liveCall 0 68000).body = .voice ⟨false, some callTraffic, 0⟩
      ∧ (⟨⟨0, 1⟩, .B, .voice ⟨false, none, 0⟩⟩ : Session).body = .voice ⟨false, none, 0⟩
      ∧ (waitingText.core.queue (sentText none).owner)[0]? = some (sentText none).handle
      ∧ ([⟨3, 1⟩, ⟨4, 1⟩, ⟨2, 7⟩] : List Handle)[2]? = some (sentText none).handle
      ∧ (∀ j, j < 2 → ([⟨3, 1⟩, ⟨4, 1⟩, ⟨2, 7⟩] : List Handle)[j]? ≠ some (sentText none).handle)
      ∧ cellAt (oneCell.core.cells .A).slots 11 = none
      ∧ cellAt (oneCell.core.cells .A).slots 0 = some (neighbour ⟨1250, 301⟩ (-6040) 360160) := by decide +kernel

theorem test_witness_ResetAndRise :
    State.reset.env.load.phase = .notBegun ∧ up.env.load.phase ≠ .notBegun
      ∧ Instr.fetch .app 1 ≠ .powerOnReset ∧ Instr.fetch .app 1 ≠ .resetNRise
      ∧ ∀ line level, Instr.fetch .app 1 ≠ .battLineChange line level :=
  ⟨rfl, by decide, by decide, by decide, fun _ _ h => by cases h⟩

/-- A load at a position, with a record begun. -/
def loadAt (position : Half) (stated read : Nat) (bytes : List Byte) : State :=
  { loading with env := { loading.env with load :=
    { loading.env.load with position := position, stated := stated, read := read, partialRecord := bytes } } }

/-- The end of the field's range is its last value (log entry 40). -/
theorem test_witness_LoadReads :
    up.env.load.phase ≠ .reading ∧ (loadAt 0 0 0 []).env.load.phase = .reading
      ∧ (5 : Half) = BitVec.ofNat 16 (min 65535 ((loadAt 4 1 0 []).env.load.position.toNat + 1))
      ∧ (65535 : Half) = BitVec.ofNat 16 (min 65535 ((loadAt 65535 1 0 []).env.load.position.toNat + 1))
      ∧ (loadAt 0 0 0 []).env.load.position = 0 ∧ (loadAt 1 0 0 []).env.load.position = 1
      ∧ (loadAt 1 0 0 []).env.load.read = 0 ∧ (loadAt 2 1 0 []).env.load.partialRecord.length = 0
      ∧ 2 ≤ (loadAt 2 1 0 []).env.load.position.toNat
      ∧ (loadAt 4 1 0 [0x07, 1]).env.load.partialRecord ++ [2] = 0x07 :: 1 :: [2]
      ∧ (loadAt 4 1 0 [0x07]).env.load.partialRecord ++ [1] = 0x07 :: 1 :: []
      ∧ (fun l : Load => l.read = l.stated)
        (({ (loadAt 4 1 0 [0x07, 1]).env.load with position := 5 } : Load).takeWhole 0x07 [2])
      ∧ (fun l : Load => l.read ≠ l.stated)
        (({ (loadAt 4 2 0 [0x07, 1]).env.load with position := 5 } : Load).takeWhole 0x07 [2])
      ∧ takeRecord 0x07 [8] Image.default = some ({ Image.default with blanking := 7 }, 1)
      ∧ takeRecord 0x0A [1, 2, 3] Image.default = none
      ∧ settleImage Image.default = (Image.default, 0) := by decide +kernel

/-- A map of n entries of one scope. -/
def mapOf (sc : Scope) (n : Nat) : Image :=
  { Image.default with map := (List.range n).map fun i => ⟨.transceiver, BitVec.ofNat 8 i, sc, none⟩ }

theorem test_witness_ImageRecords :
    (1 : Byte).toNat = Device.amplifier.number
      ∧ (∀ m ∈ (mapOf .context 23).map, ¬(m.device = .amplifier ∧ m.register = 0x10))
      ∧ ((mapOf .context 23).map.filter fun m => decide (m.scope = .context)).length < 24
      ∧ (∀ m ∈ (mapOf .common 15).map, ¬(m.device = .amplifier ∧ m.register = 0x10))
      ∧ ((mapOf .common 15).map.filter fun m => decide (m.scope = .common)).length < 16
      ∧ 24 ≤ ((mapOf .context 24).map.filter fun m => decide (m.scope = .context)).length
      ∧ 16 ≤ ((mapOf .common 16).map.filter fun m => decide (m.scope = .common)).length
      ∧ (0x09 : Byte).toNat ∈ [0x01, 0x03, 0x06, 0x07, 0x09] ∧ ([] : List Byte).length ≠ 1
      ∧ (0x04 : Byte).toNat = 0x04 ∧ ([0] : List Byte).length ≠ 2 ∧ (0x02 : Byte).toNat = 0x02
      ∧ ([0, 0, 0] : List Byte).length ≠ 4 ∧ (0x08 : Byte).toNat = 0x08
      ∧ ([0, 0, 0, 0] : List Byte).length ≠ 3 ∧ ([0, 0, 0, 0] : List Byte).length ≠ 5
      ∧ 3 < (4 : Byte).toNat ∧ 1 < (2 : Byte).toNat
      ∧ (mapOf .common 1).map.any (fun m => decide (m.device.number = (0 : Byte).toNat) && decide (m.register = 0)) = true
      ∧ (0 : Byte).toNat = 0 ∧ 9 < (10 : Byte).toNat := by decide +kernel

/-- Two devices that are not OFF, and a window that holds a line high. -/
theorem test_witness_CoordinatorReset :
    Ready up .app ∧ trapped.env.has .amplifier = true ∧ trapped.core.power .amplifier = .rising 900032
      ∧ replaying.core.power .amplifier = .on ∧ trapped.core.power .transceiver = .off
      ∧ (trapped.core.setPower .transceiver (.falling 5)).power .transceiver = .falling 5
      ∧ activeWindow.core.TableLaw ∧ activeWindow.core.tla.rxEn = true
      ∧ (∃ r ∈ activeWindow.core.tla.table, r.state = .active ∧ activeWindow.core.attached r.owner = true) := by
  decide +kernel

/-! #### The radio timeline -/

/-- The record a RESERVE asks for, one-shot, with no session and no cells. -/
def askedFor (k : Machine.Class) (emergency : Bool) (desired : Time) (slack length frequency : Half) (band : Byte) :
    Reservation :=
  { newRecord .A k desired (min 16383 slack.toNat) length.toNat frequency (band.setWidth 3) with
    emergency := emergency
    repeats := if (0 : BitVec 32).toNat = 0 then none else some ⟨(0 : BitVec 32).toNat, min 255 (0 : Half).toNat⟩
    session := none
    cells := [] }

/-- The checks of a RESERVE that come before its creation, all passed. -/
def passes (s : State) (cls : Byte) (k : Machine.Class) (desired : Time) (slack length : Half) (band : Byte) : Bool :=
  decide (Acts s .A) && decide (reservable (Class.ofCode cls) = some k)
    && !badReserve s.env.count k false desired (min 16383 slack.toNat) length.toNat band 0 none []
    && !badSession s.core .A none && decide (s.env.supply ≠ .low)

def crowded : State := withTable (List.replicate 32 (granted ⟨0, 1⟩ .A .measure 9000 0 64)) up

/-- B's call has no credit, and its last refill is now. -/
def spentCall : State := withSession (liveCall 0 100000) ⟨[], []⟩ example1

def madeFor (r : Reservation) (s : State) : Core × Creation :=
  createRecord s.env r (restartMonitor (.stack .A) s).core

theorem test_witness_ReserveCreates :
    passes up 0 .access 100 0 64 2 = true
      ∧ (∃ c h t, madeFor (askedFor .access false 100 0 64 1250 2) up = (c, .created h t))
      ∧ passes crowded 0 .access 100 0 64 2 = true
      ∧ (∃ c, madeFor (askedFor .access false 100 0 64 1250 2) crowded = (c, .tableFull))
      ∧ passes (atTime 1000 up) 0 .access 100 0 64 2 = true
      ∧ (∃ c, madeFor (askedFor .access false 100 0 64 1250 2) (atTime 1000 up) = (c, .tooLate))
      ∧ passes spentCall 2 .page 100640 0 128 2 = true
      ∧ (∃ c, madeFor (askedFor .page false 100640 0 128 1250 2) spentCall = (c, .conflict true)) :=
  ⟨by decide +kernel, ⟨_, _, _, rfl⟩, by decide +kernel, ⟨_, rfl⟩, by decide +kernel, ⟨_, rfl⟩, by decide +kernel, ⟨_, rfl⟩⟩

theorem test_witness_FirstPassEarliest :
    candidates example1.env.count 100700 200 = some (100700, 201)
      ∧ (104 : Nat) < 201
      ∧ (∀ q ∈ example1.core.tla.table, q.state = .seeking ∨ q.overlaps (100700 + tu 104) 8 = false)
      ∧ (∀ j, j < 104 → ∃ q ∈ example1.core.tla.table, q.state ≠ .seeking ∧ q.overlaps (100700 + tu j) 8 = true)
      ∧ roomFor example1.core .A = true
      ∧ candidates example1.env.count 100640 100 = some (100640, 101)
      ∧ (∀ j, j < 101 → ∃ q ∈ example1.core.tla.table, q.state ≠ .seeking ∧ q.overlaps (100640 + tu j) 8 = true) := by
  decide +kernel

/-- An ACCESS of priority 12, to be placed with some slack. -/
def access1 (desired : Time) (slack : Nat) : Reservation := granted ⟨20, 1⟩ .A .access desired slack 64

/-- An emergency call, with a MEASURE of priority 2 behind it. -/
def firm : State :=
  withTable [{ granted ⟨3, 14⟩ .B .voice 100640 0 160 with emergency := true }, granted ⟨7, 5⟩ .B .measure 100820 640 96]
    example1

/-- The first 24 candidates meet the emergency call, the others the MEASURE alone; with slack 20 there is none but the call's;
every row of the priority table. -/
theorem test_witness_SecondPassEarliest :
    candidates firm.env.count (access1 100780 60).desired (access1 100780 60).slack = some (100780, 61)
      ∧ (∀ j, j < 61 → overlapped firm.core.tla.table (100780 + tu j) (access1 100780 60).length ≠ [])
      ∧ verdict firm.env firm.core.tla.table (access1 100780 60) false (100780 + tu 24) = .yes
      ∧ (∀ j, j < 24 → verdict firm.env firm.core.tla.table (access1 100780 60) false (100780 + tu j) = .no)
      ∧ candidates firm.env.count (access1 100780 20).desired (access1 100780 20).slack = some (100780, 21)
      ∧ (access1 0 0).cls = .access ∧ (access1 0 0).emergency = false
      ∧ ({ access1 0 0 with emergency := true } : Reservation).emergency = true
      ∧ (granted ⟨0, 1⟩ .A .voice 0 0 64).cls = .voice ∧ (granted ⟨0, 1⟩ .A .page 0 0 64).cls = .page
      ∧ (granted ⟨0, 1⟩ .A .text 0 0 64).urgent = false
      ∧ ({ granted ⟨0, 1⟩ .A .text 0 0 64 with urgent := true } : Reservation).urgent = true
      ∧ (granted ⟨0, 1⟩ .A .measure 0 0 64).cls = .measure ∧ (granted ⟨0, 1⟩ .A .search 0 0 64).cls = .search := by
  decide +kernel

/-- The page of the worked example at the call's start; and one with slack, which reaches past the call. -/
def page1 (slack : Half) : Reservation := askedFor .page false 100640 slack 128 1250 2

/-- B's call of the first worked example with credit after the refill, with none, and in SETUP; and C lowered as in the credit
example. -/
theorem test_witness_TuneAwayConsulted :
    up.core.voiceSession = none
      ∧ setupCall.core.voiceSession = some (⟨⟨0, 1⟩, .B, .voice ⟨false, none, 0⟩⟩, ⟨false, none, 0⟩)
      ∧ example1.core.voiceSession = some (liveCall 0 68000, ⟨false, some callTraffic, 0⟩)
      ∧ (1 : Int) = Int.fdiv ((100000 : Time) - callTraffic.lastRefill).toInt 32000
      ∧ 1 = (min (2 : Int) (callTraffic.credit + 1)).toNat
      ∧ (0 : Int) = Int.fdiv ((100000 : Time) - 100000).toInt 32000 ∧ 0 = (min (2 : Int) ((0 : Nat) + 0)).toNat
      ∧ (-1 : Int) = Int.fdiv ((99999 : Time) - 100000).toInt 32000 ∧ 0 = (min (2 : Int) ((0 : Nat) + -1)).toNat
      ∧ Policy.default.creditMax = Policy.default.creditMax ∧ Policy.default.refill = Policy.default.refill
      ∧ Policy.default.creditMax ≠ ({ Policy.default with creditMax := 1 } : Policy).creditMax := by decide +kernel

/-- The page is asked for at its first candidate: allowed; refused, with a later candidate behind the call that needs no
consultation; and refused for good. -/
theorem test_witness_TuneAwayConsulted_placement :
    candidates example1.env.count (page1 200).desired (page1 200).slack = some (100640, 201)
      ∧ (∀ j, j < 201 → overlapped example1.core.tla.table (100640 + tu j) (page1 200).length ≠ [])
      ∧ verdict example1.env example1.core.tla.table (page1 200) false (100640 + tu 0) = .ask
      ∧ (consultTuneAway example1.env (100640 + tu 0) (page1 200).length example1.core).2 = true
      ∧ (consultTuneAway spentCall.env (100640 + tu 0) (page1 200).length spentCall.core).2 = false
      ∧ verdict spentCall.env (consultTuneAway spentCall.env 100640 128 spentCall.core).1.tla.table (page1 200) true
          (100640 + tu 164) = .yes
      ∧ (∀ j, j < 164 → 0 < j →
        verdict spentCall.env (consultTuneAway spentCall.env 100640 128 spentCall.core).1.tla.table (page1 200) true
          (100640 + tu j) ≠ .yes)
      ∧ candidates spentCall.env.count (page1 163).desired (page1 163).slack = some (100640, 164) := by decide +kernel

/-- Too late, just in time, and the ends of the ranges. -/
theorem test_witness_PlacementGrants_range :
    candidates (atTime 1000 up).env.count 100 0 = none ∧ (0 : Nat) ≤ 16383
      ∧ before ((100 : Time) + tu 903) (1000 + 4) = true
      ∧ before ((100 : Time) + tu 904) (1000 + 4) = false
      ∧ before ((2 : Time) ^ 24 - 1 + tu 16383) (0 + 4) = false := by decide

/-- R1 and R17: a desired start 2^31 + 3 tu from now is before now and not before now + 4; with a slack of 1 its last candidate is
before now + 4, and with none it is not. -/
theorem test_too_late_half_range :
    before ((2 : Time) ^ 31 + 1003) 1000 = true ∧ candidates 1000 ((2 : Time) ^ 31 + 1003) 1 = none
      ∧ candidates 1000 ((2 : Time) ^ 31 + 1003) 0 = some ((2 : Time) ^ 31 + 1003, 1)
      ∧ slotAfter (.stack .A) (.reserve (.stack .A) 1 2 false ((2 : Time) ^ 31 + 1003) 1 128 1250 2 0 0 none [])
          (atTime 1000 up) = ⟨1, .tooLate, []⟩ := by decide +kernel

theorem test_witness_PlacementGrants :
    roomFor crowded.core .A = false ∧ roomFor example1.core .A = true
      ∧ (choose (atTime 1000 up).env (access1 100 0) up.core).2 = .tooLate
      ∧ (choose firm.env (access1 100780 20) firm.core).2 = .conflict false
      ∧ (choose firm.env (access1 100780 60) firm.core).2 = .start 100804
      ∧ candidates example1.env.count 102000 0 = some (102000, 1)
      ∧ overlapped example1.core.tla.table 102000 64 = []
      ∧ (102000 : Time) ≠ example1.env.count + 4
      ∧ ({ access1 102000 0 with repeats := some ⟨640, 0⟩ } : Reservation).repeats = some ⟨640, 0⟩
      ∧ ({ access1 102000 0 with repeats := some ⟨640, 1⟩ } : Reservation).repeats = some ⟨640, 1⟩
      ∧ ({ access1 102000 0 with repeats := some ⟨640, 2⟩ } : Reservation).repeats = some ⟨640, 2⟩
      ∧ 2 ≤ (⟨640, 2⟩ : Repeats).remaining := by decide +kernel

/-- A repeating MEASURE of B with a lost count, before its odd-numbered occurrence. -/
def repeating (lost : Nat) : Reservation :=
  { granted ⟨7, 5⟩ .B .measure 100820 640 96 with repeats := some ⟨6400, 0⟩, lost := lost }

def lowSupply (s : State) : State := { s with env := { s.env with low := ⟨true, true, none⟩ } }

theorem test_witness_NextOccurrences :
    (access1 0 0).repeats = none ∧ (repeating 7).repeats.isSome = true
      ∧ (granted ⟨0, 1⟩ .A .page 0 0 64).cls = .page ∧ (granted ⟨0, 1⟩ .A .search 0 0 64).cls = .search
      ∧ (access1 0 0).cls ≠ .page ∧ (access1 0 0).cls ≠ .search
      ∧ ({ granted ⟨3, 14⟩ .B .voice 0 0 160 with session := some ⟨0, 1⟩ } : Reservation).session = some ⟨0, 1⟩
      ∧ example1.core.reservation ⟨1, 1⟩ = none
      ∧ (withTable [repeating 8] up).core.reservation ⟨7, 5⟩ = some (repeating 8) ∧ 8 ≤ (repeating 8).lost
      ∧ (withTable [repeating 7] up).core.reservation ⟨7, 5⟩ = some (repeating 7) ∧ (repeating 7).lost < 8
      ∧ ((repeating 7).occIndex + 1).toNat % 2 = 1 ∧ (lowSupply up).env.supply ≠ .normal ∧ up.env.supply = .normal
      ∧ (choose up.env (repeating 7).advance (withTable [repeating 7] up).core).2 = .start 107220
      ∧ (choose (atTime 200000 up).env (repeating 7).advance (withTable [repeating 7] up).core).2 = .tooLate
      ∧ (seekOne up.env ⟨⟨7, 5⟩, true⟩ (withTable [repeating 7] up).core).2 = []
      ∧ (repeating 7).state = .granted ∧ ({ repeating 7 with state := .active } : Reservation).state ≠ .granted := by
  decide +kernel

def threeStaged : Reservation :=
  { granted ⟨9, 200⟩ .A .measure 100500 200 64 with staged := List.replicate 3 ⟨.frontEnd, 4, 1⟩ }

theorem test_witness_WithdrawAndStage :
    Acts (withTable [threeStaged] up) .A
      ∧ (withTable [threeStaged] up).core.reservation ⟨9, 200⟩ = some threeStaged ∧ threeStaged.owner = .A
      ∧ threeStaged.cls = .measure ∧ Device.ofByte 3 = some .frontEnd ∧ up.env.has .frontEnd = true
      ∧ threeStaged.state = .granted ∧ threeStaged.staged.length < 4
      ∧ (withTable [{ threeStaged with state := .preparing }] up).core.reservation ⟨9, 200⟩
        = some { threeStaged with state := .preparing }
      ∧ ({ threeStaged with state := .preparing } : Reservation).state ≠ .granted := by decide +kernel

/-- A preparation of the window named and of none; a view of the window named and of another; a head that is examined and none. -/
theorem test_witness_WithdrawAndStage_views :
    preparingWindow.core.rcc.prep.map (fun p => p.handle) = some ⟨2, 1⟩ ∧ up.core.rcc.prep = none
      ∧ preparingWindow.core.rcc.view.map (fun v => v.handle) = some ⟨2, 1⟩ ∧ up.core.rcc.view = none
      ∧ ({ preparingWindow.core with rcc := { preparingWindow.core.rcc with view := none } }.headExaminable .A) = false
      ∧ (trapped.core.headExaminable .B) = true := by decide +kernel

theorem test_witness_PreparationAsked :
    example1.env.load.phase ≠ .notBegun
      ∧ duePreparation (atTime 100496 example1).env example1.core = some (granted ⟨9, 200⟩ .A .measure 100500 200 64)
      ∧ example1.core.reservation ⟨9, 200⟩ = some (granted ⟨9, 200⟩ .A .measure 100500 200 64)
      ∧ (trapped.core.bridge .A).queue = []
      ∧ (trapped.core.bridge .B).queue.head?.map (fun t => t.state) = some .waitingPower
      ∧ ((trapped.core.setBridge .B ⟨[⟨41, .read, .amplifier, 0x0A, none, .deferred, false, false, false, 0, false⟩], 41⟩).bridge
        .B).queue.head?.map (fun t => t.state) = some .deferred := by decide +kernel

def waitingWindow : State :=
  atTime 5000 (windowInView .B ⟨2, 1⟩
    (withTable [{ granted ⟨2, 1⟩ .B .measure 5000 0 160 with state := .preparing, waiting := true }] up))

def preparationOf (h : Handle) : Prep := ⟨.B, h, .measure, [], .staged, 0, none, false, [], []⟩

/-- A start awaited, reached and passed; and the end of a preparation in the window's last tu, at its end, for a window whose
start has not come, and for a window that is gone. -/
theorem test_witness_WindowStarts :
    waitingWindow.env.load.phase ≠ .notBegun
      ∧ (dueStart waitingWindow.env (withTable [{ granted ⟨2, 1⟩ .B .measure 5000 0 160 with state := .preparing }]
          waitingWindow).core).map (fun r => (r.handle, r.prepared)) = some (⟨2, 1⟩, none)
      ∧ (dueStart readyWindow.env readyWindow.core).map (fun r => (r.prepared, r.start)) = some (some false, 5000)
      ∧ readyWindow.env.count = 5000
      ∧ (dueStart (atTime 5001 readyWindow).env readyWindow.core).map (fun r => (r.prepared, r.start))
        = some (some false, 5000)
      ∧ (readyWindow.core.reservation ⟨2, 1⟩).isSome = true
      ∧ (waitingWindow.core.reservation (preparationOf ⟨2, 1⟩).handle).map (fun r => r.waiting) = some true
      ∧ before (atTime 5159 waitingWindow).env.count (5000 + tu 160) = true
      ∧ before (atTime 5160 waitingWindow).env.count (5000 + tu 160) = false
      ∧ (readyWindow.core.reservation (preparationOf ⟨2, 1⟩).handle).map (fun r => r.waiting) = some false
      ∧ up.core.reservation (preparationOf ⟨2, 1⟩).handle = none := by decide +kernel

/-- The window of `readyWindow` as one of class SEARCH, with its attempt placed, and as one of class PAGE. -/
def readyAs (k : Machine.Class) : State :=
  withCore (fun c => c.setSearch .B { c.csc.get .B with phase := .placed ⟨2, 1⟩ })
    (atTime 5000 (windowInView .B ⟨2, 1⟩
      (withTable [{ granted ⟨2, 1⟩ .B k 5000 0 160 with state := .preparing, prepared := some false }] up)))

theorem test_witness_WindowStarts_classes :
    (dueStart (readyAs .search).env (readyAs .search).core).map (fun r => (r.cls, r.prepared)) = some (.search, some false)
      ∧ ((readyAs .search).core.csc.get .B).phase = .placed ⟨2, 1⟩
      ∧ (dueStart (readyAs .page).env (readyAs .page).core).map (fun r => r.cls) = some .page
      ∧ (readyWindow.core.csc.get .B).phase ≠ .placed ⟨2, 1⟩ := by decide +kernel

/-- The next window's preparation begins at the end of the one before, with nothing to write and every device ON; then the
WINDOW_END, whose power-down check leaves the devices of the window in the view ON (R136, R158). -/
theorem test_next_window_keeps_power :
    ((after .windowEnd (after .preparationRequest (withCore
        (fun c => { c with psc := { c.psc with power := ⟨.on, .on, .on, .on⟩ } })
        (atTime 5160 (withTable [{ granted ⟨2, 1⟩ .B .measure 5000 0 160 with state := .active, prepared := some false },
          granted ⟨3, 1⟩ .A .measure 5164 0 64] up))))).core.psc.power) = ⟨.on, .on, .on, .on⟩ := by decide +kernel

theorem test_witness_WindowEnds :
    (dueEnd activeWindow.env activeWindow.core).map (fun r => (r.state, r.repeats)) = some (.active, none)
      ∧ (dueEnd (atTime 5160 waitingWindow).env waitingWindow.core).map (fun r => r.state) = some .preparing
      ∧ (repeating 0).repeats.isSome = true ∧ (access1 0 0).repeats = none
      ∧ (access1 0 0).state ≠ .active ∧ (access1 0 0).state ≠ .preparing := by decide +kernel

/-! #### Calls and texts -/

theorem test_witness_VoiceCommands_open :
    Acts (serving .B up) .B ∧ (serving .B up).core.voiceSession = none
      ∧ ((serving .B up).core.csc.get .B).coverage = .inService ∧ (serving .B up).env.supply ≠ .low
      ∧ sessionCount (serving .B up).core < 8 ∧ Acts up .A ∧ up.core.voiceSession = none := by decide +kernel

def connected : Reservation :=
  { newRecord .B .voice 200100 0 (160 : Half).toNat 1250 ((2 : Byte).setWidth 3) with
    emergency := false, repeats := some ⟨(640 : Half).toNat, 0⟩, session := some ⟨0, 1⟩ }

theorem test_witness_VoiceCommands_connect :
    Acts setupCall .B
      ∧ setupCall.core.session ⟨0, 1⟩ = some ⟨⟨0, 1⟩, .B, .voice ⟨false, none, 0⟩⟩
      ∧ badConnect setupCall.env.count 640 160 200100 2 = false
      ∧ ∃ c g start, createRecord setupCall.env connected (restartMonitor (.stack .B) setupCall).core
        = (c, .created g start) :=
  ⟨by decide +kernel, by decide +kernel, by decide, _, _, _, rfl⟩

/-- The longest and the shortest text, a queue with three texts, and a head with and without its deadline. -/
def threeTexts : State := withSession (sentText none) ⟨[⟨2, 7⟩, ⟨3, 1⟩, ⟨4, 1⟩], []⟩ (serving .A up)

theorem test_witness_TextCommands :
    Acts threeTexts .A ∧ 1 ≤ (16 : Byte).toNat ∧ (16 : Byte).toNat ≤ 16 ∧ 16 ≤ (3200 : Half).toNat
      ∧ (3200 : Half).toNat ≤ 3200 ∧ (7 : Byte).toNat ≤ 7 ∧ (threeTexts.core.queue .A).length < 4
      ∧ sessionCount threeTexts.core < 8
      ∧ Acts waitingText .A ∧ waitingText.core.session ⟨2, 7⟩ = some (sentText (some 584772))
      ∧ threeTexts.core.session ⟨2, 7⟩ = some (sentText none) ∧ (1 : Byte).toNat ≤ 1
      ∧ waitingText.env.load.phase ≠ .notBegun
      ∧ (waitingText.core.headText .A).map (fun p => p.2.deadline) = some (some 584772)
      ∧ atOrAfter (atTime 584772 waitingText).env.count 584772 = true := by decide +kernel

def bodyWith (urgent : Bool) (notBefore : Option Time) (retries : Nat) : TextBody :=
  ⟨.sending, 2, 0, 640, urgent, 1250, 2, retries, none, none, notBefore, false⟩

/-- The second place free and no other before it; an empty queue and one that is not; the last segment and one before it; a
text at the head of its queue and one behind it. -/
theorem test_witness_TextCommands_sessions :
    setupCall.core.smg.sessions[1]? = some none ∧ (∀ j, j < 1 → (setupCall.core.smg.sessions[j]?).join.isSome = true)
      ∧ up.core.queue .A = [] ∧ threeTexts.core.queue .A ≠ []
      ∧ ({ bodyWith false none 0 with done := 1 } : TextBody).done + 1 = 2 ∧ (bodyWith false none 0).done + 1 ≠ 2
      ∧ (threeTexts.core.queue (sentText none).owner).head? = some (sentText none).handle
      ∧ (threeTexts.core.queue .A).head? ≠ some ⟨3, 1⟩ := by decide +kernel

theorem test_witness_SegmentRules :
    (bodyWith false (some 521320) 1).notBefore = some 521320
      ∧ atOrAfter 521320 (waitingText.env.count + 4) = true
      ∧ before 521000 (waitingText.env.count + 4) = true
      ∧ (bodyWith true none 0).notBefore = none ∧ (bodyWith true none 0).urgent = true
      ∧ (∀ r ∈ waitingText.core.tla.table, pageAhead waitingText.env .A r = false)
      ∧ textState.core.tla.table = [] ++ ({ granted ⟨4, 2⟩ .A .page 520000 0 128 with repeats := some ⟨40960, 0⟩ }) :: []
      ∧ pageAhead textState.env .A { granted ⟨4, 2⟩ .A .page 520000 0 128 with repeats := some ⟨40960, 0⟩ } = true
      ∧ (bodyWith false none 2).retries = 2 := by decide +kernel

/-- A's head with a state, a segment reservation and a deadline, with or without service. -/
def headWith (state : TextState) (record : Option Handle) (deadline : Option Time) (s : State) : State :=
  withSession ⟨⟨2, 7⟩, .A, .text { bodyWith false none 0 with state := state, record := record, deadline := deadline }⟩
    ⟨[⟨2, 7⟩], []⟩ s

/-- A's head is in a state, with a segment reservation and a deadline. -/
def headIs (state : TextState) (record : Option Handle) (deadline : Option Time) (s : State) : Bool :=
  (s.core.headText .A).any fun p =>
    decide (p.2.state = state) && decide (p.2.record = record) && decide (p.2.deadline = deadline)

def segmentWindow (state : OccState) : State :=
  withTable [{ granted ⟨9, 1⟩ .A .text 5000 0 640 with session := some ⟨2, 7⟩, state := state }] up

/-- A segment that is placed, and one without room. -/
theorem test_witness_SegmentRules_placement :
    (createRecord up.env (segmentRecord up.env up.core (sentText none) (bodyWith false none 0)) up.core).2 = .created ⟨0, 1⟩ 4
      ∧ (createRecord up.env (segmentRecord up.env up.core (sentText none) (bodyWith false none 0)) crowded.core).2
        = .tableFull := by decide +kernel

/-- A head that waits for room, is held, gains and loses eligibility with its window GRANTED, with its window begun, without
one, and with a deadline. -/
theorem test_witness_SegmentRules_head :
    (up.core.headText .A).isNone = true
      ∧ headIs .sending none none (headWith .sending none none (serving .A up)) = true
      ∧ eligible up.env (serving .A up).core .A false = true ∧ eligible up.env up.core .A false = false
      ∧ headIs .held none none (headWith .held none none (serving .A up)) = true
      ∧ headIs .sending (some ⟨9, 1⟩) none (headWith .sending (some ⟨9, 1⟩) none (segmentWindow .granted)) = true
      ∧ ((segmentWindow .granted).core.reservation ⟨9, 1⟩).map (fun r => r.state) = some .granted
      ∧ ((segmentWindow .active).core.reservation ⟨9, 1⟩).map (fun r => r.state) = some .active
      ∧ headIs .sending none (some 9) (headWith .sending none (some 9) up) = true
      ∧ headIs .queued none none (headWith .queued none none up) = true := by decide +kernel

/-- Missed pages below and at three, with the notice given already; and the records that end: a segment of a text, a starved
record of a call, and one of neither. -/
theorem test_witness_SessionNotices :
    (up.core.smg.missed.get .A).starved = false
      ∧ (2 : Nat) < 3
      ∧ 3 ≤ min 255 (((up.core.setMissed .A ⟨2, false⟩).smg.missed.get .A).count + 1)
      ∧ ((up.core.setMissed .A ⟨255, true⟩).smg.missed.get .A).starved = true
      ∧ Machine.Class.measure ≠ .text ∧ Machine.Class.measure ≠ .voice ∧ EndReason.withdrawn ≠ .starved
      ∧ example1.core.session ⟨0, 1⟩ = some (liveCall 0 68000)
      ∧ up.core.textSession ⟨2, 7⟩ = none
      ∧ ((headWith .sending (some ⟨9, 1⟩) none up).core.textSession ⟨2, 7⟩).map (fun p => p.2.record) = some (some ⟨9, 1⟩)
      ∧ ((headWith .sending none none up).core.textSession ⟨2, 7⟩).map (fun p => p.2.record) = some none := by
  decide +kernel

/-! #### Cells, handover and search -/

def fullTable : List (Option Cell) :=
  (List.range 12).map fun i => some (neighbour ⟨1250, BitVec.ofNat 16 i⟩ (-6040) 360160)

def fullCells : State := withCells .A fullTable up

theorem test_witness_CellCommands :
    Acts oneCell .A ∧ (1023 : Half).toNat ≤ 1023
      ∧ slotOf (oneCell.core.cells .A).slots ⟨1250, 301⟩ = some 0
      ∧ cellAt (oneCell.core.cells .A).slots 0 = some (neighbour ⟨1250, 301⟩ (-6040) 360160)
      ∧ slotOf (oneCell.core.cells .A).slots ⟨1250, 1023⟩ = none ∧ freeSlot (oneCell.core.cells .A).slots = some 1
      ∧ slotOf (fullCells.core.cells .A).slots ⟨1250, 1023⟩ = none ∧ freeSlot (fullCells.core.cells .A).slots = none
      ∧ (neighbour ⟨1250, 301⟩ (-6040) 360160).role = .neighbour
      ∧ (servedBy ⟨1250, 301⟩ (-6040) 360160).role = .serving
      ∧ slotOf (withCells .A [some (servedBy ⟨1250, 301⟩ (-6040) 360160)] up |>.core.cells .A).slots ⟨1250, 301⟩ = some 0 := by
  decide +kernel

def viewing (k : Machine.Class) : State :=
  withCore (fun c => { c with msu := { c.msu with view := some ⟨.A, k, true, [⟨1250, 301⟩], []⟩ } }) oneCell

theorem test_witness_SampleAttribution :
    (report ++ [true]).length ≠ 38
      ∧ oneCell.env.load.phase ≠ .notBegun
      ∧ (sampleOfBits report).map (fun s => s.valid) = some true
      ∧ (sampleOfBits (report.take 37 ++ [false])).map (fun s => s.valid) = some false
      ∧ oneCell.core.msu.view = none
      ∧ (viewing .text).core.msu.view.map (fun v => v.cls) = some .text
      ∧ (viewing .search).core.msu.view.map (fun v => v.cls) = some .search
      ∧ (viewing .page).core.msu.view.map (fun v => v.cls) = some .page
      ∧ cellOf (up.core.cells .A).slots ⟨1250, 301⟩ = none
      ∧ (cellOf ((viewing .measure).core.cells .A).slots ⟨1250, 301⟩).isSome = true
      ∧ (accumulatorOf [] ⟨1250, 301⟩).blanked < Image.default.blanking
      ∧ Image.default.blanking ≤ (⟨⟨1250, 301⟩, 2, 3, -1110⟩ : Accumulator).blanked
      ∧ (⟨⟨1250, 301⟩, 2, 3, -1110⟩ : Accumulator).n < 4
      ∧ 4 ≤ (⟨⟨1250, 301⟩, 2, 4, -1482⟩ : Accumulator).n := by decide +kernel

/-- The fields of a report, with a level of either sign. -/
theorem test_witness_SampleAttribution_bits :
    (bitsOf 16 1250).length = 16 ∧ (bitsOf 10 301).length = 10 ∧ (bitsOf 11 (2048 - 370)).length = 11
      ∧ (bitsOf 11 (2048 - 370)).head? = some true ∧ (bitsOf 11 370).head? = some false
      ∧ bitsToNat (bitsOf 11 370) = 370 := by decide +kernel

/-- Raw levels at and just beyond the ends of the clamp (R79). -/
theorem test_saturation :
    ((noteSaturation .A (-561) up.core).msu.tables.get .A).flags = ⟨false, true, false, false⟩
      ∧ ((noteSaturation .A (-159) up.core).msu.tables.get .A).flags = ⟨true, false, false, false⟩
      ∧ (-560 : Int) ≤ -560 ∧ (-560 : Int) ≤ -160 ∧ (-561 : Int) < -560 ∧ (-160 : Int) < -159 := by decide +kernel

/-- The ends of the clamped range, a fresh level and a stale one; and a serving record with and without a level, or none. -/
theorem test_witness_LevelArithmetic :
    (1 : Nat) ≤ 4 ∧ (-560 : Int) * 4 ≤ -2240 ∧ (-2240 : Int) ≤ -160 * 4
      ∧ (-560 : Int) ≤ -560 ∧ (-560 : Int) ≤ -160
      ∧ (⟨-6080, 300000⟩ : Level).staleAt 81920 381920 = false ∧ (⟨-6080, 300000⟩ : Level).staleAt 81920 381921 = true
      ∧ (-8960 : Int) ≤ -6080 ∧ (-6080 : Int) ≤ -2560 ∧ (0 : Int) ≤ 160
      ∧ servingCell (up.core.cells .A).slots = none
      ∧ servingCell (withCells .A [some (servedBy ⟨1250, 301⟩ (-6050) 0)] up |>.core.cells .A).slots
        = some (servedBy ⟨1250, 301⟩ (-6050) 0)
      ∧ ({ servedBy ⟨1250, 301⟩ 0 0 with level := none } : Cell).level = none := by decide +kernel

/-- A window whose accumulator has samples of a record, one that has none, and no window. -/
theorem test_witness_LevelArithmetic_views :
    measured.core.msu.view.map (fun v => v.accs) = some [⟨⟨1250, 301⟩, 2, 4, -1482⟩]
      ∧ (cellAt (measured.core.cells .A).slots 0).map (fun r => r.key) = some ⟨1250, 301⟩ ∧ 1 ≤ 4
      ∧ (viewing .measure).core.msu.view.map (fun v => v.accs) = some [] ∧ up.core.msu.view = none := by decide +kernel

theorem test_witness_HandoverCommands :
    Acts (serving .A oneCell) .A ∧ (1023 : Half).toNat ≤ 1023
      ∧ -2048 ≤ (0xF800 : Half).toInt ∧ (0x07FF : Half).toInt ≤ 2047
      ∧ ((serving .A oneCell).core.csc.get .A).coverage = .inService
      ∧ (oneCell.core.csc.get .A).coverage ≠ .inService ∧ Acts oneCell .A
      ∧ held.env.load.phase ≠ .notBegun ∧ (held.core.hoe.get .B).holdEnd = some 7
      ∧ atOrAfter held.env.count 7 = true ∧ atOrAfter (atTime 6 held).env.count 7 = false
      ∧ (held.core.hoe.get .A).holdEnd = none := by decide +kernel

/-- No call; a call of the other subscription; one in SETUP; one without a record; and one with its VOICE record. -/
theorem test_witness_HandoverCommands_rebase :
    up.core.voiceSession = none
      ∧ example1.core.voiceSession = some (liveCall 0 68000, ⟨false, some callTraffic, 0⟩)
      ∧ (liveCall 0 68000).owner ≠ .A ∧ (⟨false, none, 0⟩ : Voice).traffic = none
      ∧ (liveCall 0 68000).owner = .B ∧ (5 : Time) ≠ 0 ∧ callTraffic.record = some ⟨3, 14⟩
      ∧ ({ callTraffic with record := none } : Traffic).record = none := by decide +kernel

theorem test_witness_ServingMechanism :
    (up.core.cells .A).slots.length = 12 ∧ (fullCells.core.cells .A).slots.length = 12
      ∧ (makeServing up.env .A ⟨640, 5⟩ fullCells.core).2.inserted = true
      ∧ (makeServing up.env .A ⟨1250, 5⟩ fullCells.core).2.inserted = false
      ∧ (makeServing up.env .A ⟨1250, 5⟩ fullCells.core).2.changed = true
      ∧ (cellAt (fullCells.core.cells .A).slots 11).isSome = true := by decide +kernel

/-- A full table with two records last updated furthest before now, and with two EMPTY ones or none. -/
def fullWith (empties : Bool) : List (Option Cell) :=
  (List.range 12).map fun i =>
    let r := neighbour ⟨1250, BitVec.ofNat 16 i⟩ (-6040) (if i = 6 ∨ i = 9 then 350000 else 360160)
    some (if empties && (i == 4 || i == 8) then { r with level := none } else r)

def evictedFrom (empties : Bool) : Option CellKey :=
  (makeServing (atTime 400000 up).env .A ⟨640, 5⟩ (withCells .A (fullWith empties) up).core).2.evicted

/-- A key in the table; the lowest free slot; and a full table, with an EMPTY neighbour and with VALID ones alone (R73). -/
theorem test_witness_ServingMechanism_slots :
    slotOf (fullCells.core.cells .A).slots ⟨1250, 5⟩ = some 5
      ∧ slotOf (oneCell.core.cells .A).slots ⟨640, 5⟩ = none ∧ (oneCell.core.cells .A).slots[1]? = some none
      ∧ (cellAt (oneCell.core.cells .A).slots 0).isSome = true
      ∧ (fullWith true).all (fun o => o.any fun r => decide (r.key ≠ ⟨640, 5⟩)) = true
      ∧ (cellAt (fullWith true) 4).map (fun r => r.level) = some none
      ∧ ((fullWith true).take 4).all (fun o => o.any fun r => r.level.isSome) = true
      ∧ (fullWith false).all (fun o => o.any fun r => r.level.isSome) = true
      ∧ ((400000 : Time) - 360160).toInt < ((400000 : Time) - 350000).toInt
      ∧ evictedFrom true = some ⟨1250, 4⟩ ∧ evictedFrom false = some ⟨1250, 6⟩ := by decide +kernel

theorem test_witness_ConditionsJudged :
    (-7040 : Int) ≤ -7040 ∧ (-7041 : Int) < -7040 ∧ 1 ≤ 10240
      ∧ (-7040 : Int) + 64 ≤ -6976 ∧ (-6977 : Int) < -7040 + 64
      ∧ atOrAfter (3010240 : Time) 3000000 = true ∧ 10240 ≤ ((3010240 : Time) - 3000000).toNat
      ∧ ((3010239 : Time) - 3000000).toNat < 10240
      ∧ (neighbour ⟨1310, 77⟩ 0 0).entry = none ∧ (256 : Int) ≤ 256 ∧ (256 : Int) < 257
      ∧ ({ neighbour ⟨1310, 77⟩ 0 0 with entry := some 3000000 } : Cell).entry = some 3000000
      ∧ (192 : Int) ≤ 256 - 64 ∧ (256 : Int) - 64 < 193 := by decide

/-- The neighbour of chapter 4 beside its serving cell, with a free slot between them. -/
def walked : State :=
  atTime 400000 (withCells .A [some (servedBy ⟨1250, 301⟩ (-6108) 400000), none,
    some { neighbour ⟨1310, 77⟩ (-5812) 400000 with entry := some 389760 }] up)

theorem test_witness_ConditionsJudged_walk :
    (walked.core.hoe.get .A).holdEnd = none ∧ servingReference up.env up.core .A = none
      ∧ servingReference walked.env walked.core .A = some (⟨1250, 301⟩, -6108)
      ∧ (judgeWeak 400000 10240 (64 * -110) (-6108) .clear).2 = none
      ∧ (judgeSlots walked.env .A (walked.core.hoe.get .A) 81920 (-6108) (walked.core.cells .A).slots).2.map Event.kind
        = [.hoCandidate]
      ∧ (servedBy ⟨1250, 301⟩ 0 0).role = .serving ∧ (neighbour ⟨1310, 77⟩ 0 0).role = .neighbour
      ∧ (judgeBetter 400000 10240 (32 * 8) (-5812 + 32 * 0 - -6108)
          { neighbour ⟨1310, 77⟩ (-5812) 400000 with entry := some 389760 }).2 = true
      ∧ (⟨0, 0⟩ : Level).staleAt 81920 81921 = true ∧ (⟨-5812, 400000⟩ : Level).staleAt 81920 400000 = false := by
  decide +kernel

theorem test_witness_SearchCommands :
    Acts verdictDue .B ∧ (verdictDue.core.csc.get .B).coverage = .near
      ∧ Acts lossOfService .B ∧ (lossOfService.core.csc.get .B).coverage = .inService
      ∧ (verdictDue.core.csc.get .B).phase = .awaiting 832324 800324
      ∧ (1023 : Half).toNat ≤ 1023 ∧ (7 : Byte).toNat ≤ 7
      ∧ (lossOfService.core.csc.get .B).phase = .idle
      ∧ Ready verdictDue .app ∧ Sub.ofByte 1 = some .B ∧ verdictDue.core.attached .B = true
      ∧ (verdictDue.core.csc.get .B).coverage ≠ .inService ∧ Ready lossOfService .app
      ∧ atOrAfter (atTime 832324 verdictDue).env.count 832324 = true
      ∧ (verdictDue.core.setSearch .B ⟨.near, .unplaced 900000, 2, 640, 3, false⟩ |>.csc.get .B).phase = .unplaced 900000
      ∧ atOrAfter (atTime 900000 up).env.count 900000 = true := by decide +kernel

theorem test_witness_SearchLadder :
    (⟨.near, .listening ⟨10, 3⟩ (some (⟨640, 12⟩, -452)) 32767, 1, 640, 3, false⟩ : Search).phase
        = .listening ⟨10, 3⟩ (some (⟨640, 12⟩, -452)) 32767
      ∧ (-452 : Int) < -430 ∧ (-452 : Int) ≤ -452
      ∧ up.env.supply = .normal
      ∧ ({ up.env with low := ⟨true, true, none⟩ } : Env).supply ≠ .normal := by decide

/-- An attempt that is placed and one without room; the last attempt of a stage and one before it; and an attempt with its
record placed. -/
theorem test_witness_SearchLadder_attempts :
    (beginAttempt up.env .B 1 4 up.core).2 = some (⟨0, 1⟩, 4)
      ∧ (beginAttempt up.env .A 1 4 crowded.core).2 = none
      ∧ nextStage .near 10 = some .wide ∧ nextStage .near 9 = none
      ∧ (up.core.csc.get .B).coverage = .noCell ∧ (up.core.csc.get .B).coverage ≠ .near
      ∧ ((beginAttempt up.env .B 1 4 up.core).1.csc.get .B).phase = .placed ⟨0, 1⟩
      ∧ ((beginAttempt up.env .B 1 4 up.core).1.reservation ⟨0, 1⟩).isSome = true
      ∧ (up.core.csc.get .B).phase = .idle := by decide +kernel

/-! #### RF contexts, power and sleep -/

def fourQueued : State :=
  withCore (fun c => c.setBridge .B
    ⟨List.replicate 4 ⟨1, .read, .transceiver, 0x10, some .context, .queued, false, false, false, 0, false⟩, 40⟩) rfState

def ready (s : State) : State := { s with links := up.links }

theorem test_witness_BridgeCommands :
    Acts (ready trapped) .B ∧ Device.ofByte 1 = some .amplifier ∧ trapped.env.has .amplifier = true
      ∧ (trapped.core.bridge .B).queue.length < 4 ∧ (trapped.core.bridge .B).queue ≠ []
      ∧ (rfState.core.bridge .B).queue = []
      ∧ Acts fourQueued .B ∧ 4 ≤ (fourQueued.core.bridge .B).queue.length
      ∧ replaying.env.load.phase ≠ .notBegun ∧ replaying.core.rcc.bus.isSome = true := by decide +kernel

def txn (kind : TxnKind) (scope : Option Scope) (reg : Byte) : Txn :=
  ⟨41, kind, .transceiver, reg, scope, .queued, false, false, false, 0, false⟩

/-- A's window in the view, foreign to B, with a transaction at the head of B's queue. -/
def foreignView (t : Txn) : Core :=
  { rfState.core with rcc := { rfState.core.rcc with
      view := some ⟨.A, ⟨9, 200⟩, true⟩, bridges := ⟨⟨[], 0⟩, ⟨[t], 41⟩⟩ } }

/-- A head of B with no window in the view. -/
def clearView (t : Txn) : Core :=
  { rfState.core with rcc := { rfState.core.rcc with bridges := ⟨⟨[], 0⟩, ⟨[t], 41⟩⟩ } }

def ownWrite : Txn := txn (.write 5) (some .context) 0x10

theorem test_witness_HeadExamination :
    (foreignView ownWrite).foreign .B = true ∧ (foreignView ownWrite).foreign .A = false
      ∧ ownValue rfState.env (foreignView ownWrite) .B .transceiver 0x10 = some 0x2B44
      ∧ ownValue rfState.env (foreignView ownWrite) .A .transceiver 0x10 = none
      ∧ ((foreignView ownWrite).bridge .B).queue = ownWrite :: []
      ∧ finding rfState.env .B ownWrite (foreignView ownWrite) = .absorb 5
      ∧ finding rfState.env .B (txn .read (some .context) 0x10) (foreignView (txn .read (some .context) 0x10))
        = .fromShadow 0x2B44
      ∧ finding rfState.env .B (txn .read none 0x22) (foreignView (txn .read none 0x22)) = .defer
      ∧ finding rfState.env .B ownWrite (clearView ownWrite) = .toDevice
      ∧ (examineHead rfState.env .B (foreignView ownWrite)).2 = true
      ∧ (examineHead rfState.env .B (clearView ownWrite)).2 = false := by decide +kernel

/-- A device that is not ON; one that is, with a replay write pending and with none; a trapped head and one that is not. -/
theorem test_witness_HeadExamination_device :
    (clearView ownWrite).power ownWrite.device ≠ .on
      ∧ replaying.core.power .amplifier = .on
      ∧ (∃ p ∈ replaying.core.rcc.replay, p.device = .amplifier)
      ∧ ((clearView ownWrite).setPower .transceiver .on).power ownWrite.device = .on
      ∧ (∀ p ∈ (clearView ownWrite).rcc.replay, p.device ≠ ownWrite.device)
      ∧ ownWrite.trapped = false ∧ ({ ownWrite with trapped := true } : Txn).trapped = true := by decide +kernel

/-- COORDINATOR_RESET with A's window in the view and a deferred read of an OFF device at the head of B's queue: the device is
not raised by A's teardown (R154, R216). -/
theorem test_coordinator_reset_raises_nothing :
    (after (.coordinatorReset .app 1)
        (withTable [{ granted ⟨9, 200⟩ .A .measure 899900 0 160 with state := .active, prepared := some false }]
          { rfState with core := foreignView { txn .read none 0x22 with state := .deferred } })).core.psc.power
      = ⟨.off, .off, .off, .off⟩ := by decide +kernel

/-- A head that waits for the device, and an empty queue; a test of a head as the statement asks for. -/
theorem test_witness_HeadExamination_waits :
    ((trapped.core.bridge .B).queue.head?.map fun t => (t.state, t.device)) = some (.waitingPower, .amplifier)
      ∧ (trapped.core.bridge .A).queue = [] ∧ (rfState.core.bridge .B).queue = []
      ∧ ∃ waits : Core → Sub → Bool, ∀ k x, waits k x = true ↔
        ∃ t, (k.bridge x).queue.head? = some t ∧ t.state = .waitingPower ∧ t.device = .amplifier := by
  refine ⟨by decide +kernel, by decide +kernel, by decide +kernel, fun k x => k.headWaitsFor x .amplifier, fun k x => ?_⟩
  unfold Core.headWaitsFor
  rcases h : (k.bridge x).queue with _ | ⟨t, rest⟩ <;> simp [h]

def transfer1 (kind : TxnKind) (left : Bool) : Transfer :=
  ⟨kind, .amplifier, 0x08, .replay, none, true, false, false, left, false⟩

theorem test_witness_TransferEnds_live :
    rfState.core.mapIndex rfState.env .amplifier 0x08 = some 0
      ∧ rfState.core.rcc.shadow[0]? = some ⟨⟨.amplifier, 0x08, .common, some 0x0155⟩, ⟨none, none⟩, some 0x0155, none⟩
      ∧ rfState.core.mapIndex rfState.env .amplifier 0x0A = none
      ∧ rfState.core.mapIndex rfState.env .transceiver 0x10 = some 1
      ∧ (transfer1 .read true).deviceLeft = true ∧ (transfer1 (.write 5) false).deviceLeft = false
      ∧ (transfer1 (.write 5) false).kind = .write 5 ∧ (transfer1 .read false).kind = .read
      ∧ BusOutcome.dataNak ≠ .done
      ∧ Device.amplifier ≠ .transceiver := by decide +kernel

/-- What belongs to each cause of a transfer: an answer check, a trapped head of its device, a window in the view, a
preparation, and a head in flight. -/
def inFlight : Core := (clearView ownWrite).setHead .B { ownWrite with state := .inFlight }

theorem test_witness_TransferEnds_work :
    (transfer1 (.write 5) false).check = true ∧ BusOutcome.addressNak ≠ .done
      ∧ (replaying.core.bridge .B).queue.map (fun t => (t.trapped, t.device)) = [(true, .amplifier)]
      ∧ (replaying.core.bridge .A).queue = []
      ∧ (foreignView ownWrite).rcc.view = some ⟨.A, ⟨9, 200⟩, true⟩ ∧ rfState.core.rcc.view = none
      ∧ rfState.core.scopeOf rfState.env .transceiver 0x10 = some .context
      ∧ rfState.core.scopeOf rfState.env .amplifier 0x08 ≠ some .context
      ∧ preparingWindow.core.rcc.prep.isSome = true ∧ rfState.core.rcc.prep = none
      ∧ (inFlight.bridge .B).queue = { ownWrite with state := .inFlight } :: []
      ∧ (∀ t ∈ ((clearView ownWrite).bridge .B).queue.head?, t.state ≠ .inFlight) := by decide +kernel

/-- The transfer of the one replay write that is left, and one of another register of that device. -/
theorem test_witness_TransferEnds_replay :
    replaying.core.rcc.replay.map (fun p => (p.entry, p.device)) = [(0, .amplifier)]
      ∧ replaying.core.mapIndex replaying.env (transfer1 .read false).device (transfer1 .read false).register = some 0
      ∧ replaying.core.mapIndex replaying.env .amplifier 0x0A = none := by decide +kernel

def headOf (x : Sub) (t : Txn) (last : Sub) (c : Core) : Core :=
  { c.setBridge x ⟨[t], 41⟩ with rcc := { (c.setBridge x ⟨[t], 41⟩).rcc with lastServed := last } }

def readyHead (released : Bool) : Txn := { ownWrite with state := .ready, released := released }

def series (begun : Bool) : Txn := { ownWrite with state := .restarting, trapped := true, begun := begun }

/-- A preparation that writes and one that waits; a replay write; released heads alone and together; a series begun beside a
ready head; ready heads alone and together; and none. -/
theorem test_witness_ArbiterDecides :
    (preparingWindow.core.rcc.prep.map fun p => p.step) = some .awaitingPower
      ∧ (preparationOf ⟨2, 1⟩).step ≠ .awaitingPower
      ∧ (trapped.core.rcc.replay = [] ∧ replaying.core.rcc.replay.length = 1)
      ∧ chooseStack (headOf .A (readyHead true) .B (headOf .B (readyHead false) .B rfState.core)) = some .A
      ∧ chooseStack (headOf .A (readyHead true) .A (headOf .B (readyHead true) .A rfState.core)) = some .B
      ∧ chooseStack (headOf .A (readyHead false) .B (headOf .B (series true) .B rfState.core)) = some .B
      ∧ chooseStack (headOf .A (readyHead false) .B (headOf .B (series false) .B rfState.core)) = some .A
      ∧ chooseStack (headOf .B (readyHead false) .B rfState.core) = some .B
      ∧ chooseStack (clearView ownWrite) = none := by decide +kernel

/-- The amplifier and the transceiver ON: B's CONTEXT value to write, the COMMON value to restore, a staged write, the replay
write that is still to be made and one that is not, and a series with an entry to restore and with none. -/
def onBoth : Core := ((clearView ownWrite).setPower .transceiver .on).setPower .amplifier .on

def unknownLive : Core := leavesOn .transceiver onBoth

theorem test_witness_ArbiterDecides_writes :
    (unknownLive.rcc.shadow[1]?).map (needsContext rfState.env unknownLive .B) = some true
      ∧ (unknownLive.rcc.shadow[0]?).map (needsContext rfState.env unknownLive .B) = some false
      ∧ (unknownLive.rcc.shadow[1]?).map (fun m => m.own.get .B) = some (some 0x2B44)
      ∧ (unknownLive.rcc.shadow[0]?).map (needsCommon rfState.env unknownLive) = some true
      ∧ (unknownLive.rcc.shadow[1]?).map (needsCommon rfState.env unknownLive) = some false
      ∧ (onBoth.rcc.shadow[1]?).map (needsContext rfState.env onBoth .B) = some false
      ∧ ({ preparationOf ⟨2, 1⟩ with staged := [⟨.frontEnd, 4, 1⟩] } : Prep).staged[0]? = some ⟨.frontEnd, 4, 1⟩
      ∧ (preparationOf ⟨2, 1⟩).staged.length ≤ (preparationOf ⟨2, 1⟩).position
      ∧ (unknownLive.rcc.shadow[0]?).map (fun m => (m.live, m.common)) = some (none, some 0x0155)
      ∧ (unknownLive.rcc.shadow[1]?).map (fun m => m.common) = some none
      ∧ (unknownLive.rcc.shadow[1]?).map (fun m => m.entry.device) = some ownWrite.device
      ∧ (series false).position ≤ 1 ∧ unknownLive.foreign .B = false ∧ (foreignView (series false)).foreign .B = true
      ∧ finding rfState.env .B (series true) onBoth = .toDevice
      ∧ finding rfState.env .B { series true with kind := .read } onBoth = .fromShadow 0x2B44
      ∧ finding rfState.env .B (readyHead false) onBoth = .toDevice ∧ onBoth.power ownWrite.device = .on
      ∧ (∀ q ∈ onBoth.rcc.replay, q.device ≠ ownWrite.device) ∧ rfState.core.power ownWrite.device ≠ .on := by
  decide +kernel

theorem test_witness_PowerRequests :
    Ready up .app ∧ Acts up .B
      ∧ onOff 0 = some false ∧ onOff 1 = some true ∧ 1 < (2 : Byte).toNat := by decide

def falling (s : State) : State := withCore (fun c => c.setPower .transceiver (.falling 1000144)) (atTime 1000144 s)

def settling (k : Target) (s : State) : Core := s.core.setSleep (.settlingDown k none)

/-- An OFF device that is wanted and one that is not; wake times beyond a target's threshold, within it, and reached. -/
theorem test_witness_PowerRequests_wake :
    wanted (atTime 1019900 pageAhead1).env pageAhead1.core .transceiver = true
      ∧ wanted (atTime 1019900 pageAhead1).env pageAhead1.core .frontEnd = false
      ∧ pageAhead1.core.power .transceiver = .off ∧ up.env.has .transceiver = true
      ∧ earliest [5, 3, (4 : Time)] = some 3
      ∧ (settling .light pageAhead1).psc.sleep = .settlingDown .light none
      ∧ wakeFor (atTime 1019804 pageAhead1).env pageAhead1.core .light = some 1019900
      ∧ atOrAfter (1019900 : Time) 1019804 = true ∧ 96 ≤ ((1019900 : Time) - 1019804).toNat
      ∧ ¬96 ≤ ((1019900 : Time) - 1019805).toNat
      ∧ wakeFor up.env up.core .deep = none
      ∧ atOrAfter (1019900 : Time) 1019900 = true ∧ before (1019899 : Time) 1019900 = true
      ∧ wakeFor (atTime 1019836 pageAhead1).env pageAhead1.core .deep = some 1019836 := by decide +kernel

/-- A device that goes FALLING at a window end, one that is needed soon, and the operations that are triggers. -/
theorem test_witness_PowerRequests_triggers :
    (powerDownCheck up.env (up.core.setPower .transceiver .on) .transceiver).power .transceiver = .falling 16
      ∧ (powerDownCheck (atTime 1019900 pageAhead1).env (pageAhead1.core.setPower .transceiver .on) .transceiver).power
        .transceiver = .on
      ∧ (powerDownCheck up.env { up.core.setPower .transceiver .on with
          rcc := { up.core.rcc with view := some ⟨.A, ⟨3, 1⟩, false⟩ } } .transceiver).power .transceiver = .on
      ∧ (∀ r ∈ readyWindow.core.reservation (preparationOf ⟨2, 1⟩).handle, r.waiting = false)
      ∧ (trapped.core.bridge .B).queue ≠ [] ∧ replaying.core.rcc.bus.isSome = true
      ∧ ((noisy 1).core.pif.get (.stack .A)).events ≠ [] := by decide +kernel

theorem test_witness_DeviceAndSleepEvents :
    trapped.env.load.phase ≠ .notBegun
      ∧ trapped.core.power .amplifier = .rising 900032
      ∧ atOrAfter (atTime 900032 trapped).env.count 900032 = true
      ∧ (falling up).core.power .transceiver = .falling 1000144
      ∧ wanted (falling up).env (falling up).core .transceiver = false
      ∧ wanted (falling (withTable [granted ⟨6, 1⟩ .B .page 1000200 0 128] up)).env
          (falling (withTable [granted ⟨6, 1⟩ .B .page 1000200 0 128] up)).core .transceiver = true
      ∧ pageAhead1.env.has .transceiver = true
      ∧ demandTimeOf pageAhead1.env pageAhead1.core .transceiver = some 1019900
      ∧ pageAhead1.core.power .transceiver = .off
      ∧ (pageAhead1.core.setPower .transceiver .on).power .transceiver ≠ .off
      ∧ (asleep (.light (some 7)) 0).core.psc.sleep.wake = some 7
      ∧ (asleep (.settlingDown .deep (some 7)) 0).core.psc.sleep.wake = some 7
      ∧ (asleep (.deep (some 7)) 0).core.psc.sleep.wake = some 7
      ∧ (asleep (.waking 7) 0).core.psc.sleep = .waking 7 ∧ atOrAfter (7 : Time) 7 = true := by decide +kernel

/-- The amplifier enters ON behind the transceiver and before the front end, at one tick. -/
theorem test_witness_DeviceAndSleepEvents_replay :
    (rfState.core.rcc.shadow.map fun m => (m.entry.device, m.entry.scope, m.common.isSome))
        = [(.amplifier, .common, true), (.transceiver, .context, false)]
      ∧ (∀ p ∈ [(⟨0, .transceiver, 900000⟩ : Replay)], p.since = rfState.env.count → p.device.number ≤ Device.amplifier.number)
      ∧ (∀ p ∈ [(⟨2, .frontEnd, 900000⟩ : Replay)].head?, p.since = rfState.env.count
        ∧ Device.amplifier.number < p.device.number)
      ∧ (∀ p ∈ ([] : List Replay).head?, p.since = rfState.env.count ∧ Device.amplifier.number < p.device.number) := by
  decide +kernel

theorem test_witness_ClockAdvance :
    up.env.load.phase ≠ .notBegun ∧ up.core.psc.sleep.source = .main
      ∧ (asleep (.waking 7) 1024).core.psc.sleep.source = .sleep
      ∧ Ready up .app ∧ 64002 = max 63488 (min 64512 (64002 : Half).toNat)
      ∧ ∃ t, exec (.timelineClockAdvance 600) up = .next t :=
  ⟨by decide, by decide, by decide, by decide, by decide, _, rfl⟩

def lowSince (t : Time) : State := { up with env := { up.env with low := ⟨true, false, some t⟩ } }

theorem test_witness_SupplyLines :
    up.env.load.phase ≠ .notBegun
      ∧ ({ up.env with warn := up.env.warn.settle up.env.count, low := up.env.low.settle up.env.count } : Env).supply
        = up.env.supply
      ∧ ({ (atTime 82 (lowSince 50)).env with
            warn := (lowSince 50).env.warn.settle 82, low := (lowSince 50).env.low.settle 82 } : Env).supply
        ≠ (atTime 82 (lowSince 50)).env.supply
      ∧ (⟨true, false, none⟩ : SupplyLine).changed = none
      ∧ atOrAfter (82 : Time) 50 = true ∧ 32 ≤ ((82 : Time) - 50).toNat ∧ ((81 : Time) - 50).toNat < 32 := by decide

/-- Both stacks consent: nothing is placed, or a page far enough for DEEP, or one far enough for LIGHT alone. -/
def consenting (s : State) : State :=
  withCore (fun c => { c with psc := { c.psc with consent := ⟨true, true⟩ } }) s

theorem test_witness_SleepEntry :
    maySleep up.env (consenting up).core = true ∧ maySleep up.env up.core = false
      ∧ wakeFor (atTime 1000128 pageAhead1).env (consenting pageAhead1).core .deep = some 1019836
      ∧ atOrAfter (1019836 : Time) 1000128 = true ∧ 640 ≤ ((1019836 : Time) - 1000128).toNat
      ∧ maySleep (atTime 1019300 pageAhead1).env (consenting pageAhead1).core = true
      ∧ ((1019836 : Time) - 1019300).toNat < 640 := by decide +kernel


/-! ### Witnesses of the clauses of the third review -/

/-- B's PAGE window ACTIVE and in the view, register 0x10 of device 0 at B's own value, and B's write to it in flight. -/
def heldWindow : State :=
  queued .busTransferTimeout (withCore (fun c => { c with
      rcc := { c.rcc with
        shadow := rfMap
        view := some ⟨.B, ⟨2, 1⟩, true⟩
        bus := some ⟨.write 0x2B45, .transceiver, 0x10, .own .B, some .B, false, false, false, false, false⟩ }
      tla := { c.tla with band := 2, subSel := .B, rxEn := true }
      psc := { c.psc with power := ⟨.on, .on, .on, .on⟩ } })
    (atTime 5100 (withTable [{ granted ⟨2, 1⟩ .B .page 5000 0 160 with state := .active, prepared := some false }] up)))

theorem test_witness_StepKeepsContextLaw :
    heldWindow.env.Inv ∧ heldWindow.core.TableLaw ∧ heldWindow.core.UnattachedLaw ∧ heldWindow.LiveLaw
      ∧ heldWindow.ContextLaw ∧ (heldWindow.core.rcc.shadow.map fun m => m.valueOf heldWindow.env .B) = [none, some 0x2B44]
      ∧ (heldWindow.core.tla.rxEn || heldWindow.core.tla.txEn) = true ∧ ∃ t, step heldWindow = .next t :=
  ⟨by decide +kernel, by decide +kernel, by decide +kernel, by decide +kernel, by decide +kernel, by decide +kernel,
    by decide +kernel, _, rfl⟩

/-- The write fails: the live value is UNKNOWN, and the occurrence is DEGRADED (R136). -/
theorem test_failed_write_degrades :
    (after .busTransferTimeout heldWindow).core.rcc.shadow.map (fun m => m.live) = [none, none]
      ∧ (after .busTransferTimeout heldWindow).core.tla.table.map (fun r => r.degraded) = [true] := by decide +kernel

theorem test_witness_RecordReads_refused :
    Reads up .app ∧ Reads up (.stack .A) ∧ up.core.reservation ⟨9, 9⟩ = none ∧ up.core.session ⟨7, 9⟩ = none
      ∧ example1.core.reservation ⟨3, 14⟩ ≠ none ∧ mayRead (.stack .A) .B = false
      ∧ (setupCall.core.session ⟨0, 1⟩).map (fun n => n.owner) = some .B
      ∧ 11 < (12 : Byte).toNat ∧ actsFor .app 2 = none ∧ rfState.core.rcc.shadow.length ≤ (2 : Byte).toNat := by
  decide +kernel

theorem test_witness_CoordinatorReset_torn :
    heldWindow.core.attached .B = true ∧ bare.core.attached .A = false ∧ heldWindow.core.TableLaw
      ∧ heldWindow.core.UnattachedLaw ∧ heldWindow.core.tla.table ≠ [] ∧ heldWindow.core.rcc.bus ≠ none :=
  ⟨by decide +kernel, by decide +kernel, by decide +kernel, by decide +kernel, by decide +kernel, by decide +kernel⟩

theorem test_witness_ReserveCreates_refused :
    Acts up .A ∧ reservable (Class.ofCode 1) = none ∧ reservable (Class.ofCode 0) = some .access
      ∧ badReserve 0 .page false 100 0 7 2 0 none [] = true
      ∧ badReserve 0 .access false 100 0 8 7 0 (some ⟨7, 9⟩) [] = false ∧ badSession up.core .A (some ⟨7, 9⟩) = true
      ∧ badSession up.core .A none = false ∧ (lowSupply up).env.supply = .low ∧ Acts (lowSupply up) .A := by
  decide +kernel

/-- The bounds of R37's BAD_PARAM conditions, each met and each just missed. -/
theorem test_reserve_bounds :
    badReserve 0 .page false 16777216 0 8 7 0 none [] = true ∧ badReserve 0 .page false 16777215 0 8 7 0 none [] = false
      ∧ badReserve 0 .page false 5 9 8 7 20 none [] = true ∧ badReserve 0 .page false 5 9 8 7 21 none [] = false
      ∧ badReserve 0 .page false 5 9 8 7 4194304 none [] = false ∧ badReserve 0 .page false 5 9 8 7 4194305 none [] = true
      ∧ badReserve 0 .page false 5 0 8 8 0 none [] = true
      ∧ badReserve 0 .measure false 5 0 8 7 0 none [⟨1, 1023⟩] = false
      ∧ badReserve 0 .measure false 5 0 8 7 0 none [⟨1, 1024⟩] = true
      ∧ badReserve 0 .measure false 5 0 8 7 0 none [] = true ∧ badReserve 0 .page true 5 0 8 7 0 none [] = true := by
  decide +kernel

/-- A record of each kind that a WITHDRAW or a STAGE refuses. -/
theorem test_witness_WithdrawAndStage_refused :
    Acts example1 .B ∧ example1.core.reservation ⟨9, 9⟩ = none
      ∧ (example1.core.reservation ⟨3, 14⟩).map (fun r => (r.owner, r.cls)) = some (.B, .voice) ∧ Sub.B ≠ .A
      ∧ Device.ofByte 4 = none ∧ Device.ofByte 3 = some .frontEnd
      ∧ ((withTable [{ granted ⟨2, 1⟩ .B .page 5000 0 160 with staged := List.replicate 4 ⟨.frontEnd, 1, 2⟩ }] up).core.reservation
        ⟨2, 1⟩).map (fun r => (r.owner, r.state, r.staged.length)) = some (.B, .granted, 4) := by decide +kernel

/-- The start − 4 tu of the one occurrence, a tu before and at it; no window to start, and none to end. -/
theorem test_witness_dues :
    (duePreparation (atTime 1019996 pageAhead1).env pageAhead1.core).map (fun r => r.handle) = some ⟨6, 1⟩
      ∧ duePreparation (atTime 1019995 pageAhead1).env pageAhead1.core = none
      ∧ atOrAfter (1019996 : Time) (1020000 - 4) = true ∧ atOrAfter (1019995 : Time) (1020000 - 4) = false
      ∧ dueStart (atTime 4999 readyWindow).env readyWindow.core = none
      ∧ dueStart (atTime 5160 readyWindow).env readyWindow.core = none
      ∧ dueStart readyWindow.env (withCore (fun c => { c with rcc := { c.rcc with view := none } }) readyWindow).core = none
      ∧ dueEnd (atTime 5159 activeWindow).env activeWindow.core = none
      ∧ (readyWindow.core.tla.table.map fun r => (r.state, r.waiting, r.start, r.length)) = [(.preparing, false, 5000, 160)]
      ∧ (activeWindow.core.tla.table.map fun r => (r.state, r.start, r.length)) = [(.active, 5000, 160)]
      ∧ up.env.load.phase ≠ .notBegun := by decide +kernel

theorem test_witness_VoiceCommands_refused :
    Acts setupCall .A ∧ Acts setupCall .B ∧ setupCall.core.voiceSession.isSome = true
      ∧ up.core.voiceSession = none ∧ (up.core.csc.get .A).coverage ≠ .inService
      ∧ ((serving .A (lowSupply up)).core.csc.get .A).coverage = .inService ∧ (lowSupply up).env.supply = .low
      ∧ sessionCount (withCore (fun c => { c with smg := { c.smg with
          sessions := List.replicate 8 (some (sentText none)) } }) up).core = 8
      ∧ (withCore (fun c => { c with smg := { c.smg with
          sessions := List.replicate 8 (some (sentText none)) } }) up).core.voiceSession = none
      ∧ setupCall.core.session ⟨7, 9⟩ = none ∧ (setupCall.core.session ⟨0, 1⟩).map (fun n => n.owner) = some .B
      ∧ (waitingText.core.session ⟨2, 7⟩).map (fun n => (n.owner, n.body.text?.isSome)) = some (.A, true)
      ∧ ((example1.core.session (liveCall 0 0).handle).bind fun n => n.body.voice?).map (fun v => v.traffic.isSome) = some true
      ∧ badConnect 0 159 8 5 7 = true ∧ badConnect 0 2561 8 5 7 = true ∧ badConnect 0 160 156 5 7 = false
      ∧ badConnect 0 160 157 5 7 = true ∧ badConnect 0 160 7 5 7 = true ∧ badConnect 0 160 8 5 8 = true
      ∧ badConnect 0 160 8 16777216 7 = true ∧ badConnect 0 160 8 16777215 7 = false := by decide +kernel

/-- A VOICE_CONNECT that finds the table full, its anchor in the past, and the time taken by a call's window. -/
theorem test_witness_VoiceCommands_placement :
    (createRecord crowded.env { newRecord .A .voice 9000 0 160 1250 2 with repeats := some ⟨640, 0⟩ } crowded.core).2
        = .tableFull
      ∧ (createRecord (atTime 9000 up).env { newRecord .A .voice 9003 0 160 1250 2 with repeats := some ⟨640, 0⟩ }
        up.core).2 = .tooLate
      ∧ (createRecord (atTime 5000 activeWindow).env
        { newRecord .A .voice 5100 0 160 1250 2 with repeats := some ⟨640, 0⟩ } activeWindow.core).2 = .conflict false := by
  decide +kernel

theorem test_witness_TextCommands_refused :
    Acts up .A ∧ (17 : Byte).toNat > 16 ∧ (15 : Half).toNat < 16 ∧ (3201 : Half).toNat > 3200
      ∧ 4 ≤ ((withCore (fun c => c.setQueue .A [⟨0, 1⟩, ⟨1, 1⟩, ⟨2, 1⟩, ⟨3, 1⟩]) up).core.queue .A).length
      ∧ (up.core.queue .A).length < 4
      ∧ 8 ≤ sessionCount (withCore (fun c => { c with smg := { c.smg with
          sessions := List.replicate 8 (some (sentText none)) } }) up).core
      ∧ Acts waitingText .A ∧ Acts waitingText .B ∧ (waitingText.core.session ⟨2, 7⟩).map (fun n => n.owner) = some .A
      ∧ waitingText.core.session ⟨7, 9⟩ = none ∧ 1 < (2 : Byte).toNat
      ∧ ((setupCall.core.session ⟨0, 1⟩).bind fun n => n.body.voice?).isSome = true := by decide +kernel

theorem test_witness_requests_refused :
    Acts up .A ∧ 1023 < (1024 : Half).toNat ∧ slotOf (up.core.cells .A).slots ⟨1250, 301⟩ = none
      ∧ (-2049 : Half).toInt < -2048 ∧ 2047 < (2048 : Half).toInt ∧ (2047 : Half).toInt = 2047
      ∧ Ready bare .app ∧ Sub.ofByte 0 = some .A ∧ bare.core.attached .A = false ∧ 1 < (2 : Byte).toNat
      ∧ (∀ d, Device.ofByte 4 = some d → up.env.has d = false) := by
  refine ⟨by decide +kernel, by decide, by decide +kernel, by decide, by decide, by decide, by decide +kernel, by decide,
    by decide +kernel, by decide, ?_⟩
  intro d h
  exact absurd h (by cases d <;> decide)

/-- Tickets in a queue of two, and one that has completed; a transfer in flight; sixteen bits that are a value. -/
theorem test_witness_BridgeCommands_bits :
    ticketPosition (up.core.setBridge .B ⟨[txn .read none 1, { txn .read none 2 with ticket := 42 }], 42⟩) .B 42 = 2
      ∧ ticketPosition up.core .B 42 = 0 ∧ replaying.core.rcc.bus.isSome = true ∧ replaying.env.load.phase ≠ .notBegun
      ∧ List.ofFn (fun i : Fin 16 => (0x2B44 : Half).getLsbD (15 - i))
        = [false, false, true, false, true, false, true, true, false, true, false, false, false, true, false, false] := by
  decide +kernel

/-- No call, a call in SETUP, and one that is ACTIVE with its credit. -/
theorem test_witness_PolicyTaken_credit :
    up.core.voiceSession = none
      ∧ setupCall.core.voiceSession = some (⟨⟨0, 1⟩, .B, .voice ⟨false, none, 0⟩⟩, ⟨false, none, 0⟩)
      ∧ example1.core.voiceSession = some (liveCall 0 68000, ⟨false, some callTraffic, 0⟩) := by decide +kernel

/-- A chip select that is low already. -/
theorem test_witness_TransactionBegins_again :
    up.env.load.phase ≠ .notBegun ∧ (up.links.get .app).transaction = some ⟨.awake, []⟩ := by decide

/-- What follows at one moment from a core, as far as `n` things. -/
def followed (s : State) (n : Nat) : Core := (fun c => (settleStep s.env c).getD c)^[n] s.core

def instantOn (s : State) : State :=
  { s with env := { s.env with image := { s.env.image with delays := ⟨0, 0, 0, 0⟩, offSettle := 0 } } }

/-- A preparation that awaits the OFF transceiver, which has no delay. -/
def awaitingOff : State :=
  instantOn (withCore (fun c => { c with rcc := { c.rcc with
    prep := some ⟨.B, ⟨2, 1⟩, .page, [], .awaitingPower, 0, none, false, [.transceiver], [.transceiver]⟩ } }) up)

/-- The transceiver rises, enters ON, and the preparation goes to its writes: three things in the order of the step. -/
theorem test_witness_SleepEntry_run :
    (∀ k : Fin 3, settleStep awaitingOff.env (followed awaitingOff k) = some (followed awaitingOff (k + 1)))
      ∧ (followed awaitingOff 1).power .transceiver = .rising 0 ∧ (followed awaitingOff 2).power .transceiver = .on
      ∧ ((followed awaitingOff 3).rcc.prep.map fun p => p.step) = some .context := by decide +kernel

/-- A core that is at rest: nothing follows. -/
theorem test_witness_SleepEntry_rest : settleStep up.env up.core = none := by decide +kernel

def mayNap : Core := { (consenting up).core with evaluate := true }

theorem test_witness_SleepEntry_atOnce :
    powerStep up.env mayNap = none ∧ busStep up.env mayNap = none ∧ mayNap.evaluate = true ∧ maySleep up.env mayNap = true
      ∧ (∀ d, up.env.has d = true → mayNap.power d = .off)
      ∧ (settleStep up.env mayNap).isSome = true ∧ (settle up.env mayNap).psc.sleep = .deep none
      ∧ (settling .deep (falling up)).power .transceiver ≠ .off ∧ (falling up).env.has .transceiver = true
      ∧ ({ up.core with notices := [.pageLost .A] }).notices = [.pageLost .A] := by
  refine ⟨by decide +kernel, by decide +kernel, rfl, by decide +kernel, fun d _ => by cases d <;> rfl, by decide +kernel,
    by decide +kernel, by decide +kernel, by decide, rfl⟩

/-- The amplifier, with no delay, enters ON; the transceiver, with no off-settle time, ends its fall, wanted or not. -/
theorem test_witness_DeviceAndSleepEvents_atOnce :
    (powerStep awaitingOff.env awaitingOff.core).map (fun c => c.power .transceiver) = some (.rising 0)
      ∧ (powerStep awaitingOff.env (up.core.setPower .amplifier (.rising 0))).map (fun c => c.power .amplifier) = some .on
      ∧ (powerStep awaitingOff.env (up.core.setPower .transceiver (.falling 0))).map (fun c => c.power .transceiver)
        = some .off
      ∧ (powerStep awaitingOff.env (awaitingOff.core.setPower .transceiver (.falling 0))).map
        (fun c => c.power .transceiver) = some (.rising 0)
      ∧ (asleep (.deep none) 9).core.psc.sleep.kind = .deep ∧ (asleep (.light none) 0).core.psc.sleep.kind = .light := by
  decide +kernel

theorem test_witness_ArbiterDecides_idle :
    (awaitingOff.core.setPower .transceiver .on).rcc.bus = none
      ∧ (busStep awaitingOff.env (awaitingOff.core.setPower .transceiver .on)).map
        (fun c => c.rcc.prep.map fun p => p.step) = some (some .context)
      ∧ awaitingOff.core.power .transceiver ≠ .on ∧ busStep awaitingOff.env awaitingOff.core = none
      ∧ replaying.core.rcc.bus.isSome = true ∧ busStep replaying.env replaying.core = none := by decide +kernel

theorem test_witness_HeadExamination_values :
    (foreignView (txn .read none 0x22)).rcc.view.isSome = true
      ∧ rfState.core.mapIndex rfState.env .transceiver 0x10 = some 1 ∧ rfState.core.rcc.shadow[1]?.isSome = true
      ∧ (rfState.core.rcc.shadow[1]?.map fun m => m.entry.scope) = some .context
      ∧ (rfState.core.rcc.shadow[0]?.map fun m => m.entry.scope) = some .common
      ∧ rfState.core.mapIndex rfState.env .transceiver 0x77 = none := by decide +kernel

theorem test_witness_CellCommands_accumulator :
    (viewing .page).core.msu.view.isSome = true ∧ up.core.msu.view = none := by decide +kernel
end Sys2Proof.Tests
end

/-! PROOFS. The first pass of a placement (R18): what the search over candidates finds, and what a placement that removes
nothing does to the reservation table. -/

namespace Sys2Proof.Machine

/-! ### The search over the candidates (R17, R18) -/

theorem add_one_add_tu (t : Time) (k : Nat) : t + 1 + tu k = t + tu (k + 1) := by
  rw [add_assoc, add_comm 1]
  exact congrArg (t + ·) (BitVec.ofNat_add k 1).symm

/-- Where one candidate fails and a later one is sought, the candidates are counted from the next one. -/
theorem firstWhere_succ {ok : Time → Bool} {t : Time} (h : ok (t + tu 0) = false) (n : Nat) :
    firstWhere ok (n + 1) t = firstWhere ok n (t + 1) := by
  have h0 : ok t = false := by simpa [tu] using h
  simp [firstWhere, h0]

theorem firstWhere_eq_some {ok : Time → Bool} {n k : Nat} {t : Time} (hk : k < n) (hok : ok (t + tu k) = true)
    (earlier : ∀ j, j < k → ok (t + tu j) = false) : firstWhere ok n t = some (t + tu k) := by
  induction n generalizing k t with
  | zero => omega
  | succ n ih =>
    cases k with
    | zero =>
      have h0 : t + tu 0 = t := by simp [tu]
      rw [h0] at hok ⊢
      simp [firstWhere, hok]
    | succ k =>
      rw [← add_one_add_tu] at hok ⊢
      rw [firstWhere_succ (earlier 0 (by omega))]
      refine ih (by omega) hok fun j hj => ?_
      rw [add_one_add_tu]
      exact earlier (j + 1) (by omega)

theorem firstWhere_eq_none {ok : Time → Bool} {n : Nat} {t : Time} (fails : ∀ j, j < n → ok (t + tu j) = false) :
    firstWhere ok n t = none := by
  induction n generalizing t with
  | zero => rfl
  | succ n ih =>
    rw [firstWhere_succ (fails 0 (by omega))]
    refine ih fun j hj => ?_
    rw [add_one_add_tu]
    exact fails (j + 1) (by omega)

/-! ### The occurrences a candidate overlaps (R17) -/

theorem mem_overlapped {table : List Reservation} {t : Time} {length : Nat} {q : Reservation} :
    q ∈ overlapped table t length ↔ q ∈ table ∧ q.state ≠ .seeking ∧ q.overlaps t length = true := by
  simp [overlapped, Reservation.placed]

theorem overlapped_eq_nil {table : List Reservation} {t : Time} {length : Nat}
    (free : ∀ q ∈ table, q.state = .seeking ∨ q.overlaps t length = false) : overlapped table t length = [] := by
  refine List.eq_nil_iff_forall_not_mem.mpr fun q hq => ?_
  obtain ⟨hmem, hplaced, hover⟩ := mem_overlapped.mp hq
  rcases free q hmem with hs | ho
  · exact hplaced hs
  · simp [hover] at ho

theorem overlapped_isEmpty_eq_false {table : List Reservation} {t : Time} {length : Nat}
    (met : ∃ q ∈ table, q.state ≠ .seeking ∧ q.overlaps t length = true) : (overlapped table t length).isEmpty = false := by
  obtain ⟨q, hq⟩ := met
  exact List.isEmpty_eq_false_iff.mpr (List.ne_nil_of_mem (mem_overlapped.mpr hq))

/-! ### The choice (R18) -/

section
variable {e : Env} {r : Reservation} {c : Core} {first : Time} {n : Nat}

theorem choose_first_pass {k : Nat} (hc : candidates e.count r.desired r.slack = some (first, n)) (hk : k < n)
    (free : overlapped c.tla.table (first + tu k) r.length = [])
    (met : ∀ j, j < k → (overlapped c.tla.table (first + tu j) r.length).isEmpty = false) :
    choose e r c = (c, .start (first + tu k)) := by
  have hfirst : firstWhere (fun t => (overlapped c.tla.table t r.length).isEmpty) n first = some (first + tu k) :=
    firstWhere_eq_some hk (by simp [free]) met
  simp [choose, hc, hfirst]

theorem choose_second_pass (hc : candidates e.count r.desired r.slack = some (first, n))
    (met : ∀ j, j < n → (overlapped c.tla.table (first + tu j) r.length).isEmpty = false) :
    choose e r c = secondPass e r first n c := by
  have hfirst : firstWhere (fun t => (overlapped c.tla.table t r.length).isEmpty) n first = none :=
    firstWhere_eq_none met
  simp [choose, hc, hfirst]

/-- A creation that meets no occurrence removes none and seeks none anew. -/
theorem createRecord_of_free {t : Time} (room : roomFor c r.owner = true) (hchoose : choose e r c = (c, .start t))
    (free : overlapped c.tla.table t r.length = []) :
    createRecord e r c =
      (placeAt e { r with handle := newHandle c.tla } t (c.takeHandle (newHandle c.tla)),
        .created (newHandle c.tla) t) := by
  simp [createRecord, room, hchoose, free, repeatingTodo, seekAll, seekFuel]

end

/-! ### The handle of a new record (R11, R12) -/

theorem table_lt_of_roomFor {c : Core} {x : Sub} (room : roomFor c x = true) : c.tla.table.length < 48 := by
  obtain ⟨hroom, -⟩ := Bool.and_eq_true_iff.mp room
  exact of_decide_eq_true hroom

/-- A table of fewer than 48 records leaves an index below 48 untaken. -/
theorem exists_free_index {table : List Reservation} (h : table.length < 48) :
    ∃ i < 48, ∀ q ∈ table, q.handle.index.toNat ≠ i := by
  by_contra hall
  push Not at hall
  have hsub : List.range 48 ⊆ table.map fun q => q.handle.index.toNat := fun i hi =>
    List.mem_map.mpr (hall i (List.mem_range.mp hi))
  have hle := (List.nodup_range.subperm hsub).length_le
  simp at hle
  omega

/-- The index of a new record is below 48 and no record's. -/
theorem freeIndex_spec {table : List Reservation} (h : table.length < 48) :
    freeIndex table < 48 ∧ ∀ q ∈ table, q.handle.index.toNat ≠ freeIndex table := by
  obtain ⟨i, hi, hfree⟩ := exists_free_index h
  obtain ⟨j, hj⟩ : ∃ j, lowestFree (fun i => table.any fun r => decide (r.handle.index.toNat = i)) Config.tableSize
      = some j := by
    refine Option.isSome_iff_exists.mp (List.find?_isSome.mpr ⟨i, List.mem_range.mpr hi, ?_⟩)
    simpa using hfree
  have hindex : freeIndex table = j := by simp [freeIndex, hj]
  rw [hindex]
  exact ⟨List.mem_range.mp (List.mem_of_find?_eq_some hj), by simpa using List.find?_some hj⟩

theorem newHandle_fresh {tla : Tla} (h : tla.table.length < 48) : ∀ q ∈ tla.table, q.handle ≠ newHandle tla := by
  obtain ⟨hlt, hfree⟩ := freeIndex_spec h
  intro q hq heq
  refine hfree q hq ?_
  rw [heq]
  simp only [newHandle, BitVec.toNat_ofNat]
  omega

/-! ### The table: a record's place, and a change of it (R12) -/

theorem mem_insertByStart {q r : Reservation} {l : List Reservation} : q ∈ insertByStart r l ↔ q = r ∨ q ∈ l := by
  induction l with
  | nil => simp [insertByStart]
  | cons a rest ih =>
    simp only [insertByStart]
    split
    · simp
    · simp only [List.mem_cons, ih]
      exact or_left_comm

/-- A record whose handle no record holds takes its place, and all others stay. -/
theorem mem_putRecord_of_fresh {c : Core} {q r : Reservation} (fresh : ∀ p ∈ c.tla.table, p.handle ≠ r.handle) :
    q ∈ (c.putRecord r).tla.table ↔ q = r ∨ q ∈ c.tla.table := by
  simp only [Core.putRecord, Core.setTable_table, mem_insertByStart, List.mem_filter, decide_eq_true_eq]
  exact or_congr_right (and_iff_left_of_imp (fresh q))

theorem reservation_putRecord_of_fresh {c : Core} {r : Reservation} (fresh : ∀ p ∈ c.tla.table, p.handle ≠ r.handle) :
    (c.putRecord r).reservation r.handle = some r := by
  have hr : r ∈ (c.putRecord r).tla.table := (mem_putRecord_of_fresh fresh).mpr (.inl rfl)
  obtain ⟨q, hq⟩ : ∃ q, (c.putRecord r).reservation r.handle = some q :=
    Option.isSome_iff_exists.mp (List.find?_isSome.mpr ⟨r, hr, by simp⟩)
  have hhandle : q.handle = r.handle := by simpa using List.find?_some hq
  rcases (mem_putRecord_of_fresh fresh).mp (List.mem_of_find?_eq_some hq) with rfl | hmem
  · exact hq
  · exact absurd hhandle (fresh q hmem)

theorem mem_editReservation_of_ne {c : Core} {h : Handle} {f : Reservation → Reservation} {q : Reservation}
    (hq : q ∈ c.tla.table) (hne : q.handle ≠ h) : q ∈ (c.editReservation h f).tla.table :=
  List.mem_map.mpr ⟨q, hq, if_neg hne⟩

/-- What a handle names is read from the Timeline Arbiter's record alone. -/
theorem reservation_of_tla_eq {c d : Core} (htla : d.tla = c.tla) (h : Handle) : d.reservation h = c.reservation h := by
  simp [Core.reservation, htla]

/-! ### What a notice and a preparation leave of the table (R23, R28) -/

@[simp] theorem tableNotice_tla (e : Env) (c : Core) : (tableNotice e c).tla = c.tla := by
  obtain ⟨p, b, h⟩ := tableNotice_frame e c
  rw [h]

@[simp] theorem forceAwake_tla (c : Core) : (forceAwake c).tla = c.tla := by
  obtain ⟨p, h⟩ := forceAwake_frame c
  rw [h]

@[simp] theorem examine_tla (e : Env) (x : Sub) (c : Core) : (examine e x c).tla = c.tla := (examine_frame e x c).1

@[simp] theorem examineIfHeld_tla (e : Env) (x : Sub) (c : Core) : (examineIfHeld e x c).tla = c.tla := by
  unfold examineIfHeld
  split
  · exact examine_tla e x c
  · rfl

@[simp] theorem viewPreparing_tla (e : Env) (x : Sub) (h : Handle) (c : Core) : (viewPreparing e x h c).tla = c.tla := by
  simp only [viewPreparing]
  split <;> simp

@[simp] theorem beginPreparation_tla (e : Env) (r : Reservation) (c : Core) : (beginPreparation e r c).tla = c.tla := by
  simp [beginPreparation]

/-- A preparation asked for changes the state of its own record in the table, and nothing more of the Timeline
Arbiter's. -/
theorem askPreparation_tla (e : Env) (h : Handle) (c : Core) :
    (askPreparation e h c).tla = (c.editReservation h fun r => { r with state := .preparing }).tla := by
  have hawake : ((forceAwake c).editReservation h fun r => { r with state := .preparing }).tla
      = (c.editReservation h fun r => { r with state := .preparing }).tla := by simp [Core.editReservation]
  simp only [askPreparation]
  split
  · exact hawake
  · rw [beginPreparation_tla, hawake]

/-! ### A placement under a handle no record holds (R18, R28) -/

section
variable {e : Env} {r : Reservation} {t : Time} {c : Core}

theorem tu_guardGap : tu Config.guardGap = 4 := rfl

theorem placeAt_tla_of_ne (ht : t ≠ e.count + 4) : (placeAt e r t c).tla = (c.putRecord (r.grant t)).tla := by
  have hplace : placeAt e r t c = tableNotice e (c.putRecord (r.grant t)) := if_neg (by rwa [tu_guardGap])
  rw [hplace, tableNotice_tla]

theorem placeAt_tla_of_eq (ht : t = e.count + 4) :
    (placeAt e r t c).tla =
      ((c.putRecord (r.grant t)).editReservation r.handle fun q => { q with state := .preparing }).tla := by
  have hplace : placeAt e r t c = askPreparation e r.handle (tableNotice e (c.putRecord (r.grant t))) :=
    if_pos (by rwa [tu_guardGap])
  simp only [hplace, askPreparation_tla, Core.editReservation, tableNotice_tla]

/-- The record placed is the one granted, in the state PREPARING when its preparation is asked for at once. -/
theorem reservation_placeAt (fresh : ∀ q ∈ c.tla.table, q.handle ≠ r.handle) :
    (placeAt e r t c).reservation r.handle = some
      (if t = e.count + 4 then { r.grant t with state := .preparing } else r.grant t) := by
  have hput : (c.putRecord (r.grant t)).reservation r.handle = some (r.grant t) :=
    reservation_putRecord_of_fresh (r := r.grant t) fresh
  by_cases ht : t = e.count + 4
  · rw [reservation_of_tla_eq (placeAt_tla_of_eq ht), if_pos ht,
      editReservation_same _ _ (fun q => { q with state := .preparing }) fun _ => rfl, hput]
    rfl
  · rw [reservation_of_tla_eq (placeAt_tla_of_ne ht), if_neg ht, hput]

theorem mem_placeAt_of_mem (fresh : ∀ q ∈ c.tla.table, q.handle ≠ r.handle) {q : Reservation} (hq : q ∈ c.tla.table) :
    q ∈ (placeAt e r t c).tla.table := by
  have hput : q ∈ (c.putRecord (r.grant t)).tla.table :=
    (mem_putRecord_of_fresh (r := r.grant t) fresh).mpr (.inr hq)
  by_cases ht : t = e.count + 4
  · rw [placeAt_tla_of_eq ht]
    exact mem_editReservation_of_ne hput (fresh q hq)
  · rwa [placeAt_tla_of_ne ht]

end

/-! ### The statement -/

/-- Settles O31: the search finds the earliest free candidate, and the creation there is a placement with no victim, under a
handle that no record of the table holds. -/
theorem firstPassEarliest : Obligations.FirstPassEarliest := by
  unfold Obligations.FirstPassEarliest
  intro e r c first n hc
  refine ⟨fun k hk hfree hmet => ?_, fun hmet =>
    choose_second_pass hc fun j hj => overlapped_isEmpty_eq_false (hmet j hj)⟩
  have free := overlapped_eq_nil hfree
  have hchoose : choose e r c = (c, .start (first + tu k)) :=
    choose_first_pass hc hk free fun j hj => overlapped_isEmpty_eq_false (hmet j hj)
  refine ⟨hchoose, fun h d made room hh hcreate => ?_⟩
  subst hh
  have fresh := newHandle_fresh (table_lt_of_roomFor room)
  obtain ⟨rfl, -⟩ := Prod.mk.inj ((createRecord_of_free room hchoose free).symm.trans hcreate)
  refine ⟨⟨_, reservation_placeAt fresh, ?_, fun ht => ?_, fun ht => ?_⟩, fun q hq => mem_placeAt_of_mem fresh hq⟩
  · split <;> rfl
  · rw [if_neg ht]
    rfl
  · rw [if_pos ht]

end Sys2Proof.Machine

/-! PROOFS. The silence limit and the monitor (R182, R183, R185): what a changed limit does to a monitor at once, and the limit
that a restart and a start use. -/

namespace Sys2Proof.Machine

/-! ### The monitor written (R182) -/

theorem Core.setMonitor_ssv_self (c : Core) (x : Sub) (m : Option Time) :
    (c.setMonitor x m).ssv.get x = { c.ssv.get x with monitor := m } :=
  Pair.get_set_self ..

/-! ### A changed limit (R185) -/

section
variable {now : Time} {x : Sub} {was will : Nat} {c : Core}

theorem limitPolicy_zero : limitPolicy now x was 0 c = c.setMonitor x none := if_pos rfl

/-- The third row of R185's table: the one change of a limit that starts a monitor. -/
theorem limitPolicy_starts (hwill : will ≠ 0) (hwas : was = 0) (attached : c.attached x = true)
    (queued : (c.pif.get (.stack x)).events ≠ []) :
    limitPolicy now x was will c = c.setMonitor x (some (now + tu will)) := by
  unfold limitPolicy
  rw [if_neg hwill, if_pos ⟨hwas, attached, queued⟩]

/-- Where one of the conditions of a start fails, a limit that is not 0 waits for the next restart or start. -/
theorem limitPolicy_stands (hwill : will ≠ 0)
    (h : was ≠ 0 ∨ c.attached x = false ∨ (c.pif.get (.stack x)).events = []) : limitPolicy now x was will c = c := by
  have nostart : ¬ (was = 0 ∧ c.attached x = true ∧ (c.pif.get (.stack x)).events ≠ []) := by
    rintro ⟨hwas, attached, queued⟩
    rcases h with h | h | h
    · exact h hwas
    · exact Bool.false_ne_true (h.symm.trans attached)
    · exact queued h
  unfold limitPolicy
  rw [if_neg hwill, if_neg nostart]

end

/-! ### A restart and a start (R182, R183) -/

theorem restartMonitor_of_running {x : Sub} {s : State} {t : Time} (running : (s.core.ssv.get x).monitor = some t) :
    restartMonitor (.stack x) s =
      s.setCore (s.core.setMonitor x (some (s.env.count + tu (s.env.policy.limits.get x)))) := by
  simp only [restartMonitor, running]

theorem startMonitor_of_attached {e : Env} {x : Sub} {c : Core} (attached : c.attached x = true) :
    startMonitor e x c =
      if e.policy.limits.get x = 0 then c else c.setMonitor x (some (e.count + tu (e.policy.limits.get x))) := by
  by_cases hlimit : e.policy.limits.get x = 0 <;> simp [startMonitor, attached, hlimit]

/-! ### The statement -/

/-- Settles O23: the rows of R185's table are the branches of the change, and a monitor that runs had a limit that is not 0, so
that no change of the limit starts it again. -/
theorem policyActs : Obligations.PolicyActs := by
  unfold Obligations.PolicyActs
  refine ⟨fun now x was will c law => ⟨?_, ?_, limitPolicy_starts, limitPolicy_stands⟩, fun x t s running => ?_,
    fun e x c attached => ?_⟩
  · rintro rfl
    exact limitPolicy_zero
  · exact fun hwill running => limitPolicy_stands hwill (.inl (law running))
  · rw [restartMonitor_of_running running, State.setCore_core, Core.setMonitor_ssv_self]
  · rw [startMonitor_of_attached attached]
    split
    · rfl
    · rw [Core.setMonitor_ssv_self]

end Sys2Proof.Machine

/-! PROOFS. The machine: the front of the queue, the values power-on reset leaves, and how a request that is taken is answered. -/

namespace Sys2Proof.Machine

/-! ### The queue of commands -/

/-- Settles O1: a step is `exec` of the front, by its definition. -/
theorem stepRunsTheFront : Obligations.StepRunsTheFront := by
  unfold Obligations.StepRunsTheFront
  exact ⟨fun _ _ _ => rfl, fun s h => by simp [step, h]⟩

/-! ### Power-on reset (R210) -/

/-- Settles O3: every value of `State.reset` is written out, and each law speaks of records that are not there or of the
default items. -/
theorem resetValues : Obligations.ResetValues := by
  unfold Obligations.ResetValues
  refine ⟨rfl, rfl, rfl, rfl, rfl, rfl, rfl, rfl, rfl, fun x => by cases x <;> rfl, rfl, rfl, fun x => by cases x <;> rfl,
    fun x => by cases x <;> rfl, rfl, rfl, rfl, rfl, rfl, rfl, rfl, rfl, rfl, fun d => by cases d <;> rfl,
    fun d => by cases d <;> rfl, rfl, rfl, rfl, rfl, rfl, rfl, rfl, rfl, ?_, ?_, rfl, rfl, rfl, rfl, rfl, rfl, rfl, rfl, rfl,
    by decide, by decide, by decide, by decide, by decide, by decide, by decide, by decide, by decide, by decide, by decide⟩
  · rintro (x | _)
    · cases x <;> rfl
    · rfl
  · rintro (x | _)
    · cases x <;> rfl
    · rfl

/-! ### A request that is taken (R188, R198) -/

section
variable {x : Sub} {seq : Byte} {needs : Bool} {payload : List Byte} {status : Status}

/-- A stack request of an ATTACHED stack is accepted as its own handling has it. -/
theorem takeRequest_stack_accept {s t : State} (h : Acts s x) {run : Sub → State → Answer}
    (hrun : run x (restartMonitor (.stack x) s) = accept t payload) :
    takeRequest (.stack x) seq ⟨needs, .stack run⟩ s = .next (t.replied (.stack x) seq payload) := by
  obtain ⟨hready, hattached⟩ := h
  simp [takeRequest_ready hready, Request.judge, hattached, hrun, accept, State.replied]

theorem takeRequest_stack_refuse {s t : State} (h : Acts s x) {run : Sub → State → Answer}
    (hrun : run x (restartMonitor (.stack x) s) = refuse status t) :
    takeRequest (.stack x) seq ⟨needs, .stack run⟩ s = .next (t.turnedAway (.stack x) seq status) := by
  obtain ⟨hready, hattached⟩ := h
  simp [takeRequest_ready hready, Request.judge, hattached, hrun, refuse, State.turnedAway]

/-- A stack request that needs no ATTACHED stack is taken in every stack state. -/
theorem takeRequest_any_accept {s t : State} (h : Ready s (.stack x)) {run : Sub → State → Answer}
    (hrun : run x (restartMonitor (.stack x) s) = accept t payload) :
    takeRequest (.stack x) seq ⟨false, .stack run⟩ s = .next (t.replied (.stack x) seq payload) := by
  simp [takeRequest_ready h, Request.judge, hrun, accept, State.replied]

theorem takeRequest_app_accept {s t : State} (h : Ready s .app) {run : SleepKind → State → Answer}
    (hrun : run (s.beganIn .app) s = accept t payload) :
    takeRequest .app seq ⟨needs, .app run⟩ s = .next (t.replied .app seq payload) := by
  simp [takeRequest_ready h, Request.judge, hrun, accept, State.replied]

theorem takeRequest_app_refuse {s t : State} (h : Ready s .app) {run : SleepKind → State → Answer}
    (hrun : run (s.beganIn .app) s = refuse status t) :
    takeRequest .app seq ⟨needs, .app run⟩ s = .next (t.turnedAway .app seq status) := by
  simp [takeRequest_ready h, Request.judge, hrun, refuse, State.turnedAway]

/-- A shared request is handled alike on every port where it is taken. -/
theorem judge_shared {t : State} {port : Port} {began : SleepKind} {run : Port → State → Answer}
    (h : ∀ x, port = .stack x → needs = true → t.core.attached x = true) :
    (⟨needs, .shared run⟩ : Request).judge port began t = run port t := by
  rcases port with x | _
  · cases hn : needs
    · simp [Request.judge]
    · simp [Request.judge, h x rfl hn]
  · rfl

theorem takeRequest_shared_accept {s t : State} {port : Port} (h : Reads s port) {run : Port → State → Answer}
    (hrun : run port (restartMonitor port s) = accept t payload) :
    takeRequest port seq ⟨needs, .shared run⟩ s = .next (t.replied port seq payload) := by
  obtain ⟨hready, hattached⟩ := h
  rw [takeRequest_ready hready, judge_shared (by rintro x rfl -; simpa using hattached), hrun]
  rfl

theorem takeRequest_shared_refuse {s t : State} {port : Port} (h : Reads s port) {run : Port → State → Answer}
    (hrun : run port (restartMonitor port s) = refuse status t) :
    takeRequest port seq ⟨needs, .shared run⟩ s = .next (t.turnedAway port seq status) := by
  obtain ⟨hready, hattached⟩ := h
  rw [takeRequest_ready hready, judge_shared (by rintro x rfl -; simpa using hattached), hrun]
  rfl

/-- A shared request that needs no ATTACHED stack is taken in every stack state. -/
theorem takeRequest_open_accept {s t : State} {port : Port} (h : Ready s port) {run : Port → State → Answer}
    (hrun : run port (restartMonitor port s) = accept t payload) :
    takeRequest port seq ⟨false, .shared run⟩ s = .next (t.replied port seq payload) := by
  rw [takeRequest_ready h, judge_shared (by simp), hrun]
  rfl

end

end Sys2Proof.Machine

/-! PROOFS. The links: the CRC and the whole frame, the bits of a transaction, the frame that carries a request, and the first
checks of a whole frame (R193 to R201). -/

namespace Sys2Proof.Machine

/-! ### The CRC (R196) -/

/-- The register after eight shifts. -/
def crcShifts (r : Byte) : Byte := crcShift^[8] r

theorem crc_append (bytes : List Byte) (b : Byte) : crc (bytes ++ [b]) = crcShifts (crc bytes ^^^ b) := by
  simp [crc, crcByte, crcShifts]

/-- No shift loses a register that is not 0. -/
theorem crcShift_eq_zero : ∀ r : Byte, crcShift r = 0#8 ↔ r = 0#8 := by decide

theorem crcShifts_eq_zero (r : Byte) : crcShifts r = 0#8 ↔ r = 0#8 := by simp [crcShifts, crcShift_eq_zero]

/-- Exactly the CRC of a run of bytes closes it to 0. -/
theorem crc_append_eq_zero (bytes : List Byte) (b : Byte) : crc (bytes ++ [b]) = 0 ↔ b = crc bytes := by
  rw [crc_append]
  exact (crcShifts_eq_zero _).trans (BitVec.xor_eq_zero_iff.trans eq_comm)

/-! ### Whole frames (R195) -/

theorem wholeFrame_isSome (received : List Byte) : (wholeFrame received).isSome = true ↔
    4 ≤ received.length ∧ (byteAt received 2).toNat ≤ 60 ∧ 4 + (byteAt received 2).toNat ≤ received.length
      ∧ crc (received.take (4 + (byteAt received 2).toNat)) = 0 := by
  unfold wholeFrame
  split
  · rename_i code seq n rest
    have htake : (code :: seq :: n :: rest).take (4 + n.toNat) = code :: seq :: n :: rest.take (n.toNat + 1) := by
      rw [show 4 + n.toNat = n.toNat + 1 + 1 + 1 + 1 by omega]
      rfl
    have hn : byteAt (code :: seq :: n :: rest) 2 = n := rfl
    rw [hn, htake]
    split
    · rename_i h
      simp only [Config.requestMax] at h
      simp only [Option.isSome_some, List.length_cons, true_iff]
      exact ⟨by omega, h.1, by omega, h.2.2⟩
    · rename_i h
      simp only [Config.requestMax, not_and] at h
      simp only [Option.isSome_none, Bool.false_eq_true, List.length_cons, false_iff, not_and]
      exact fun _ h60 hlen => h h60 (by omega)
  · rename_i hshort
    match received, hshort with
    | [], _ => simp
    | [_], _ => simp
    | [_, _], _ => simp
    | a :: b :: c :: rest, h => exact absurd rfl (h a b c rest)

/-- What a whole frame holds, and that the filler behind it is not read. -/
theorem wholeFrame_fields {received : List Byte} {f : WholeFrame} (h : wholeFrame received = some f) :
    f = ⟨byteAt received 0, byteAt received 1, (received.drop 3).take (byteAt received 2).toNat⟩
      ∧ ∀ filler, wholeFrame (received ++ filler) = some f := by
  unfold wholeFrame at h
  split at h
  · rename_i code seq n rest
    split at h
    · rename_i hwhole
      obtain ⟨h60, hlen, hcrc⟩ := hwhole
      obtain rfl := Option.some.inj h
      refine ⟨rfl, fun filler => ?_⟩
      have h1 : (rest ++ filler).take (n.toNat + 1) = rest.take (n.toNat + 1) := List.take_append_of_le_length hlen
      have h2 : (rest ++ filler).take n.toNat = rest.take n.toNat := List.take_append_of_le_length (by omega)
      have h3 : n.toNat + 1 ≤ (rest ++ filler).length := by
        rw [List.length_append]
        omega
      simp only [wholeFrame, List.cons_append, h1, h2]
      exact if_pos ⟨h60, h3, hcrc⟩
    · cases h
  · cases h

/-- Settles O15. -/
theorem wholeFrameConditions : Obligations.WholeFrameConditions := by
  unfold Obligations.WholeFrameConditions
  refine ⟨rfl, fun bytes b => ?_, crc_append_eq_zero, wholeFrame_isSome, fun received f h => wholeFrame_fields h⟩
  have hshift : (fun r : Byte => if r.getLsbD 7 then (r <<< 1) ^^^ 0x2F else r <<< 1) = crcShift := by
    funext r
    simp [crcShift, BitVec.msb_eq_getLsbD_last]
  rw [hshift, crc_append, crcShifts]

/-! ### Bits and bytes (R193) -/

theorem wholeBytes_short {bits : List Bool} (h : bits.length < 8) : wholeBytes bits = [] := by
  unfold wholeBytes
  split
  · simp at h
    omega
  · rfl

/-- Bits left over after the last whole byte are discarded. -/
theorem wholeBytes_bitsOfBytes (bytes : List Byte) {leftover : List Bool} (h : leftover.length < 8) :
    wholeBytes (bitsOfBytes bytes ++ leftover) = bytes := by
  induction bytes with
  | nil => exact wholeBytes_short h
  | cons b bytes ih =>
    have hcons : bitsOfBytes (b :: bytes) ++ leftover = bitsOfByte b ++ (bitsOfBytes bytes ++ leftover) := by
      simp [bitsOfBytes]
    rw [hcons, wholeBytes_cons, ih]

theorem bits_of_eight : ∀ b7 b6 b5 b4 b3 b2 b1 b0 : Bool,
    bitsOfByte (BitVec.ofNat 8 (bitsToNat [b7, b6, b5, b4, b3, b2, b1, b0])) = [b7, b6, b5, b4, b3, b2, b1, b0] := by
  decide

/-- Every run of bits is that of its whole bytes, with fewer than eight left over. -/
theorem exists_leftover (bits : List Bool) :
    ∃ leftover, leftover.length < 8 ∧ bits = bitsOfBytes (wholeBytes bits) ++ leftover := by
  induction bits using wholeBytes.induct with
  | case1 b7 b6 b5 b4 b3 b2 b1 b0 rest ih =>
    obtain ⟨leftover, hshort, hrest⟩ := ih
    refine ⟨leftover, hshort, ?_⟩
    have hcons : bitsOfBytes (wholeBytes (b7 :: b6 :: b5 :: b4 :: b3 :: b2 :: b1 :: b0 :: rest))
        = [b7, b6, b5, b4, b3, b2, b1, b0] ++ bitsOfBytes (wholeBytes rest) := by
      simp [wholeBytes, bitsOfBytes, bits_of_eight]
    rw [hcons, List.append_assoc, ← hrest]
    rfl
  | case2 bits hshort =>
    have hlt : bits.length < 8 := by
      match bits, hshort with
      | [], _ | [_], _ | [_, _], _ | [_, _, _], _ | [_, _, _, _], _ | [_, _, _, _, _], _ | [_, _, _, _, _, _], _
      | [_, _, _, _, _, _, _], _ => simp
      | b7 :: b6 :: b5 :: b4 :: b3 :: b2 :: b1 :: b0 :: rest, h => exact absurd rfl (h b7 b6 b5 b4 b3 b2 b1 b0 rest)
    exact ⟨bits, hlt, by simp [wholeBytes_short hlt, bitsOfBytes]⟩

/-! ### The end of a transaction (R194, R197, R198) -/

theorem execLinkTransactionEnd_eq {port : Port} {bits : List Bool} {s : State} (running : s.env.load.phase ≠ .notBegun)
    (begun : (s.links.get port).transaction.isSome = true) :
    exec (.linkTransactionEnd port bits) s = .next (endTransaction port (wholeBytes bits) s) := by
  obtain ⟨t, ht⟩ := Option.isSome_iff_exists.mp begun
  change execLinkTransactionEnd port bits s = _
  rw [execLinkTransactionEnd, onEvent_runs running, ht]

/-- A whole frame at the end of a transaction that shifted the slot out is judged. -/
theorem execLinkTransactionEnd_whole {port : Port} {bits : List Bool} {f : WholeFrame} {s : State}
    (running : s.env.load.phase ≠ .notBegun) (begun : (s.links.get port).transaction.isSome = true)
    (shifted : 5 + (s.links.get port).slot.payload.length ≤ (wholeBytes bits).length)
    (whole : wholeFrame (wholeBytes bits) = some f) :
    exec (.linkTransactionEnd port bits) s = .next (takeFrame port f.seq (askedBy port f) s) := by
  rw [execLinkTransactionEnd_eq running begun]
  simp [endTransaction, Slot.responseLength, not_lt.mpr shifted, whole]

/-- The answer to a frame that the first checks turn away. -/
theorem takeFrame_turnedAway {port : Port} {seq : Byte} {a : Asked} {s : State} {status : Status}
    (h : answerFrame port (s.beganIn port) a (restartMonitor port s) = refuse status (restartMonitor port s)) :
    takeFrame port seq a s = (restartMonitor port s).turnedAway port seq status := by
  simp [takeFrame, h, refuse, State.turnedAway]

theorem answerFrame_ready {port : Port} {a : Asked} {s : State} (h : Ready s port) :
    answerFrame port (s.beganIn port) a (restartMonitor port s) = match a with
      | .unknown => refuse .unknownRequest (restartMonitor port s)
      | .badLength => refuse .badLength (restartMonitor port s)
      | .request r => r.judge port (s.beganIn port) (restartMonitor port s) := by
  obtain ⟨hphase, -, hdeep, hwaking⟩ := h
  cases a <;> simp [answerFrame, hphase, hdeep, hwaking]

/-- The codes of the index (R209). -/
theorem readRequest_unknown_iff (port : Port) (seq code : Byte) (p : List Byte) : readRequest port seq code p = .unknown ↔
    code.toNat ∉ [0x00, 0x01, 0x02, 0x03, 0x04, 0x08, 0x09, 0x0A, 0x0B, 0x10, 0x11, 0x12, 0x13, 0x18, 0x19, 0x1A, 0x1B,
      0x1C, 0x1D, 0x1E, 0x20, 0x21, 0x22, 0x23, 0x24, 0x28, 0x29, 0x2A, 0x30, 0x31, 0x32, 0x33, 0x38, 0x39, 0x3A, 0x40,
      0x41, 0x42, 0x43] := by
  have exactly_known : ∀ n i, exactly n p i ≠ .unknown := fun n i => by
    unfold exactly
    split <;> simp
  have reserve_known : readReserve port seq p ≠ .unknown := by
    unfold readReserve
    split <;> simp
  unfold readRequest
  generalize code.toNat = n
  split
  case h_40 => simp_all
  all_goals simp [exactly_known, reserve_known]

/-- Settles O17. -/
theorem frameChecks : Obligations.FrameChecks := by
  unfold Obligations.FrameChecks
  refine ⟨fun bytes leftover h => wholeBytes_bitsOfBytes bytes h, exists_leftover, fun port bits s running begun =>
    ⟨fun short => ?_, fun shifted broken => ?_⟩, fun port bits f s begun shifted whole => ⟨fun reading => ?_,
    fun ended asleep => ?_, fun ready unknown => ?_, fun ready bad => ?_⟩, readRequest_unknown_iff⟩
  · rw [execLinkTransactionEnd_eq running begun]
    simp [endTransaction, Slot.responseLength, short, State.dropTransaction, State.setLink]
  · rw [execLinkTransactionEnd_eq running begun]
    simp [endTransaction, Slot.responseLength, not_lt.mpr shifted, broken, frameError, State.setLink, byteAt, saturate]
  · rw [execLinkTransactionEnd_whole (by simp [reading]) begun shifted whole,
      takeFrame_turnedAway (status := .notReady) (by simp [answerFrame, reading])]
  · rw [execLinkTransactionEnd_whole (by simp [ended]) begun shifted whole,
      takeFrame_turnedAway (status := .waking) (by rcases asleep with h | h <;> simp [answerFrame, ended, h])]
  · rw [execLinkTransactionEnd_whole (by simp [ready.1]) begun shifted whole,
      takeFrame_turnedAway (status := .unknownRequest) (by simp [answerFrame_ready ready, askedBy, unknown])]
  · rw [execLinkTransactionEnd_whole (by simp [ready.1]) begun shifted whole,
      takeFrame_turnedAway (status := .badLength) (by simp [answerFrame_ready ready, askedBy, bad])]

end Sys2Proof.Machine

/-! PROOFS. Requests and the frames that carry them (R188, R195, R198, R209, R219), and the beginning of a transaction (R171,
R193, R200, R201). -/

namespace Sys2Proof.Machine

/-! ### The index of requests (R209) -/

/-- Every command with a port and a sequence byte is a request of its class, carried out by the handling of the index. -/
theorem request_of_head {c : Instr} {port : Port} {seq : Byte} (h : requestHead c = some (port, seq)) :
    ∃ r, requestOf c = some r ∧ (∀ s, exec c s = takeRequest port seq r s)
      ∧ requestClass c = some r.handling.permission
      ∧ (takenUnattached c || decide (r.handling.permission = .app) || r.needsAttached) = true := by
  cases c <;> cases h <;> exact ⟨_, rfl, fun _ => rfl, rfl, rfl⟩

theorem judge_not_allowed {r : Request} {port : Port} (h : r.handling.permission.allows port = false) (began : SleepKind)
    (s : State) : r.judge port began s = refuse .notPermitted s := by
  rcases r with ⟨needs, run | run | run⟩ <;> rcases port with x | _ <;>
    simp_all [Request.judge, Handling.permission, Permission.allows]

theorem judge_not_attached {r : Request} {x : Sub} {s : State} (h : r.handling.permission.allows (.stack x) = true)
    (needs : r.needsAttached = true) (unattached : s.core.attached x = false) (began : SleepKind) :
    r.judge (.stack x) began s = refuse .notAttached s := by
  rcases r with ⟨needs, run | run | run⟩ <;> simp_all [Request.judge, Handling.permission, Permission.allows]

/-- Settles O18: every request of the index meets the same two checks. -/
theorem permissionChecks : Obligations.PermissionChecks := by
  unfold Obligations.PermissionChecks
  intro c port seq p s head cls ready
  obtain ⟨r, -, hexec, hcls, hneeds⟩ := request_of_head head
  obtain rfl : r.handling.permission = p := Option.some.inj (hcls.symm.trans cls)
  refine ⟨fun refused => ?_, ?_⟩
  · rw [hexec, takeRequest_ready ready, judge_not_allowed refused]
    rfl
  · rintro x rfl allowed needs unattached
    have happ : r.handling.permission ≠ .app := fun h => by simp [h, Permission.allows] at allowed
    rw [hexec, takeRequest_ready ready, judge_not_attached allowed (by simpa [needs, happ] using hneeds) (by simpa using unattached)]
    rfl

/-! ### The fields of a frame (R219) -/

theorem half_of_bytes (h : Half) : (h.extractLsb' 8 8 ++ h.extractLsb' 0 8 : BitVec 16) = h := by
  apply BitVec.eq_of_getLsbD_eq
  intro i hi
  simp only [BitVec.getLsbD_append, BitVec.getLsbD_extractLsb']
  by_cases h8 : i < 8
  · simp [h8]
  · simp [h8, show i - 8 < 8 by omega, show 8 + (i - 8) = i by omega]

theorem word_of_bytes (w : BitVec 32) :
    ((w.extractLsb' 24 8 ++ w.extractLsb' 16 8 : BitVec 16) ++ (w.extractLsb' 8 8 ++ w.extractLsb' 0 8 : BitVec 16)
      : BitVec 32) = w := by
  apply BitVec.eq_of_getLsbD_eq
  intro i hi
  simp only [BitVec.getLsbD_append, BitVec.getLsbD_extractLsb']
  by_cases h8 : i < 8
  · simp [h8, show i < 16 by omega]
  · by_cases h16 : i < 16
    · simp [h8, h16, show i - 8 < 8 by omega, show 8 + (i - 8) = i by omega]
    · by_cases h24 : i - 16 < 8
      · simp [h16, h24, show 16 + (i - 16) = i by omega]
      · simp [h16, h24, show i - 16 - 8 < 8 by omega, show 24 + (i - 16 - 8) = i by omega]

@[simp] theorem byteAt_zero (b : Byte) (p : List Byte) : byteAt (b :: p) 0 = b := rfl

@[simp] theorem byteAt_succ (b : Byte) (p : List Byte) (i : Nat) : byteAt (b :: p) (i + 1) = byteAt p i := by
  simp [byteAt]

@[simp] theorem halfAt_zero (h : Half) (p : List Byte) : halfAt (h.extractLsb' 8 8 :: h.extractLsb' 0 8 :: p) 0 = h :=
  half_of_bytes h

@[simp] theorem halfAt_succ (b : Byte) (p : List Byte) (i : Nat) : halfAt (b :: p) (i + 1) = halfAt p i := by
  simp [halfAt]

@[simp] theorem wordAt_zero (w : BitVec 32) (p : List Byte) :
    wordAt (w.extractLsb' 24 8 :: w.extractLsb' 16 8 :: w.extractLsb' 8 8 :: w.extractLsb' 0 8 :: p) 0 = w :=
  word_of_bytes w

@[simp] theorem wordAt_succ (b : Byte) (p : List Byte) (i : Nat) : wordAt (b :: p) (i + 1) = wordAt p i := by
  simp [wordAt]

theorem byteAt_append (p q : List Byte) (i : Nat) : byteAt (p ++ q) (p.length + i) = byteAt q i := by
  simp [byteAt, List.getElem?_append_right]

theorem keyAt_append (p q : List Byte) (k : CellKey) : keyAt (p ++ bytesKey k ++ q) p.length = k := by
  have h : ∀ i, byteAt (p ++ bytesKey k ++ q) (p.length + i) = byteAt (bytesKey k ++ q) i := fun i => by
    rw [List.append_assoc, byteAt_append]
  have h0 := h 0
  have h1 := h 1
  have h2 := h 2
  have h3 := h 3
  simp only [Nat.add_zero] at h0
  simp only [keyAt, halfAt, Nat.add_assoc, Nat.reduceAdd, h0, h1, h2, h3]
  simp [bytesKey, bytes16, half_of_bytes]

theorem cellsAt_append (p : List Byte) (cells : List CellKey) :
    cellsAt (p ++ (cells.map bytesKey).flatten) p.length cells.length = cells := by
  induction cells generalizing p with
  | nil => rfl
  | cons k cells ih =>
    have hassoc : p ++ ((k :: cells).map bytesKey).flatten = p ++ bytesKey k ++ (cells.map bytesKey).flatten := by simp
    have hlen : p.length + 4 = (p ++ bytesKey k).length := by simp [bytesKey, bytes16]
    rw [List.length_cons, cellsAt, hassoc, keyAt_append, hlen, ih]

theorem length_flatten_bytesKey (cells : List CellKey) : (cells.map bytesKey).flatten.length = 4 * cells.length := by
  induction cells with
  | nil => rfl
  | cons k cells ih =>
    simp [bytesKey, bytes16, ih]
    omega

/-! ### The frame that carries a request (R195, R219) -/

theorem wholeFrame_frameBytes {code seq : Byte} {payload : List Byte} (h : payload.length ≤ 60) (filler : List Byte) :
    wholeFrame (frameBytes code seq payload ++ filler) = some ⟨code, seq, payload⟩ := by
  have hn : (BitVec.ofNat 8 payload.length).toNat = payload.length := by
    simp
    omega
  have hcrc : crc (([code, seq, BitVec.ofNat 8 payload.length] ++ payload)
      ++ [crc ([code, seq, BitVec.ofNat 8 payload.length] ++ payload)]) = 0 := (crc_append_eq_zero _ _).mpr rfl
  have hbare : wholeFrame (frameBytes code seq payload) = some ⟨code, seq, payload⟩ := by
    have htake : (payload ++ [crc ([code, seq, BitVec.ofNat 8 payload.length] ++ payload)]).take (payload.length + 1)
        = payload ++ [crc ([code, seq, BitVec.ofNat 8 payload.length] ++ payload)] :=
      List.take_of_length_le (by simp)
    simp only [wholeFrame, frameBytes, List.cons_append, List.nil_append, hn] at htake hcrc ⊢
    rw [htake]
    simp [Config.requestMax, h, hcrc]
  exact (wholeFrame_fields hbare).2 filler

/-- Behind the 22 bytes of a RESERVE's fields stand its cells. -/
theorem readReserve_cells (port : Port) (seq : Byte) {p : List Byte} {cells : List CellKey} (hp : p.length = 22)
    (h : cells.length ≤ 9) :
    readReserve port seq (p ++ (cells.map bytesKey).flatten)
      = let q := p ++ (cells.map bytesKey).flatten
        .request (.reserve port seq (byteAt q 0) (flagAt q 1) (wordAt q 2) (halfAt q 6) (halfAt q 8) (halfAt q 10)
          (byteAt q 12) (wordAt q 13) (halfAt q 17) (if presentAt q 19 then some (handleAt q 20) else none) cells) := by
  have hlen : (p ++ (cells.map bytesKey).flatten).length = 22 + 4 * cells.length := by
    rw [List.length_append, length_flatten_bytesKey, hp]
  have hcells : cellsAt (p ++ (cells.map bytesKey).flatten) 22 cells.length = cells := hp ▸ cellsAt_append p cells
  have hcount : (22 + 4 * cells.length - 22) / 4 = cells.length := by omega
  simp only [readReserve, hlen, hcount, hcells]
  rw [if_pos (by omega)]

/-- A RESERVE payload is read as the fields it was built from. -/
theorem readReserve_of_payload (port : Port) (seq cls : Byte) (emergency : Bool) (desired : Time)
    (slack length frequency : Half) (band : Byte) (period : BitVec 32) (count : Half) (session : Option Handle)
    {cells : List CellKey} (h : cells.length ≤ 9) :
    readReserve port seq ([cls] ++ yesNo emergency ++ bytes32 desired ++ bytes16 slack ++ bytes16 length
      ++ bytes16 frequency ++ [band] ++ bytes32 period ++ bytes16 count ++ handleOrNone session
      ++ (cells.map bytesKey).flatten)
      = .request (.reserve port seq cls emergency desired slack length frequency band period count session cells) := by
  rw [readReserve_cells port seq (by cases session <;> rfl) h]
  cases session <;>
    simp [bytes16, bytes32, yesNo, handleOrNone, orNone, bytesHandle, flagAt, presentAt, handleAt]

theorem requestPayload_length {c : Instr} {code : Byte} {payload : List Byte} (wf : c.wf = true)
    (hp : requestPayload c = some (code, payload)) : payload.length ≤ 60 := by
  cases c with
  | reserve port seq cls emergency desired slack length frequency band period count session cells =>
    have hcells : cells.length ≤ 9 := of_decide_eq_true wf
    have hlen := length_flatten_bytesKey cells
    cases hp
    cases session <;> simp [bytes16, bytes32, yesNo, handleOrNone, orNone, bytesHandle, hlen] <;> omega
  | _ => cases hp <;> simp [bytes16, bytes32, bytesHandle, bytesKey, yesNo]

/-- The frame of a well-formed request is read as that request. -/
theorem readRequest_of_payload {c : Instr} {port : Port} {seq code : Byte} {payload : List Byte} (wf : c.wf = true)
    (head : requestHead c = some (port, seq)) (hp : requestPayload c = some (code, payload)) :
    readRequest port seq code payload = .request c := by
  cases c with
  | reserve port seq cls emergency desired slack length frequency band period count session cells =>
    cases head; cases hp
    exact readReserve_of_payload port seq cls emergency desired slack length frequency band period count session
      (of_decide_eq_true wf)
  | _ =>
    cases head <;> cases hp <;>
    simp [readRequest, exactly, bytes16, bytes32, bytesHandle, bytesKey, yesNo, handleAt, keyAt, flagAt]

/-- What the frame of a request asks for is that request's handling. -/
theorem askedBy_of_payload {c : Instr} {port : Port} {seq code : Byte} {payload : List Byte} {r : Request}
    (wf : c.wf = true) (head : requestHead c = some (port, seq)) (hp : requestPayload c = some (code, payload))
    (hr : requestOf c = some r) : askedBy port ⟨code, seq, payload⟩ = .request r := by
  simp [askedBy, readRequest_of_payload wf head hp, hr]

theorem requestPayload_isSome {c : Instr} {port : Port} {seq : Byte} (head : requestHead c = some (port, seq)) :
    ∃ code payload, requestPayload c = some (code, payload) := by
  cases c <;> cases head <;> exact ⟨_, _, rfl⟩

/-- Settles O14: a request's frame is whole, is read as the request it was built from, and is judged as the command is. -/
theorem frameCarriesRequest : Obligations.FrameCarriesRequest := by
  unfold Obligations.FrameCarriesRequest
  intro c port seq filler leftover s wf head begun short shifted
  obtain ⟨r, hr, hexec, -, -⟩ := request_of_head head
  obtain ⟨code, payload, hp⟩ := requestPayload_isSome head
  obtain ⟨t, ht⟩ := Option.isSome_iff_exists.mp begun
  rw [hexec]
  by_cases hheld : s.env.load.phase = .notBegun
  · rw [takeRequest_held hheld]
    change execLinkTransactionEnd port _ s = _
    rw [execLinkTransactionEnd, onEvent_held hheld]
  · have hbytes := wholeBytes_bitsOfBytes (requestFrame seq c ++ filler) short
    have hframe : requestFrame seq c = frameBytes code seq payload := by simp [requestFrame, hp]
    rw [execLinkTransactionEnd_whole hheld begun (by rw [hbytes]; exact shifted)
      (by rw [hbytes, hframe]; exact wholeFrame_frameBytes (requestPayload_length wf hp) filler),
      askedBy_of_payload wf head hp hr]
    simp [takeRequest, State.held, hheld, State.ensureBegun, ht]

end Sys2Proof.Machine

/-! PROOFS. The beginning of a transaction and what leaves the part (R171, R193, R199 to R201), and the Port Interface's
requests with the posting of events (R182, R202, R203, R206 to R208). -/

namespace Sys2Proof.Machine

/-! ### The bits of a response (R193) -/

theorem getElem_bitsOfByte (b : Byte) {i : Nat} (h : i < 8) : (bitsOfByte b)[i]? = some (b.getLsbD (7 - i)) := by
  rcases (by omega : i = 0 ∨ i = 1 ∨ i = 2 ∨ i = 3 ∨ i = 4 ∨ i = 5 ∨ i = 6 ∨ i = 7) with
    rfl | rfl | rfl | rfl | rfl | rfl | rfl | rfl <;> rfl

/-- Bit `i` of a run of bytes is bit `7 - i % 8` of byte `i / 8`. -/
theorem getElem_bitsOfBytes (p : List Byte) (i : Nat) :
    (bitsOfBytes p)[i]? = (p[i / 8]?).map fun b => b.getLsbD (7 - i % 8) := by
  induction p generalizing i with
  | nil => simp [bitsOfBytes]
  | cons b p ih =>
    have hcons : bitsOfBytes (b :: p) = bitsOfByte b ++ bitsOfBytes p := by simp [bitsOfBytes]
    have hlen : (bitsOfByte b).length = 8 := rfl
    rw [hcons]
    by_cases h : i < 8
    · rw [List.getElem?_append_left (by omega), getElem_bitsOfByte b h]
      simp [show i / 8 = 0 by omega, show i % 8 = i by omega]
    · rw [List.getElem?_append_right (by omega), hlen, ih, show (i - 8) / 8 = i / 8 - 1 by omega,
        show (i - 8) % 8 = i % 8 by omega, show i / 8 = i / 8 - 1 + 1 by omega]
      simp

/-- The response leaves the part bit by bit, with filler bytes of 0x00 behind it. -/
theorem shiftedOut_eq (t : Transaction) (n : Nat) :
    t.shiftedOut n = (bitsOfBytes (t.response ++ List.replicate n 0)).take n := by
  apply List.ext_getElem?
  intro i
  by_cases h : i < n
  · rw [List.getElem?_take_of_lt h, getElem_bitsOfBytes]
    simp only [Transaction.shiftedOut, List.getElem?_map, List.getElem?_range h, Option.map_some, Transaction.bitOut]
    by_cases hr : i / 8 < t.response.length
    · simp [List.getElem?_append_left hr, hr]
    · rw [List.getElem?_append_right (by omega), List.getElem?_replicate]
      simp [show i / 8 - t.response.length < n by omega, hr]
  · simp [Transaction.shiftedOut, h]

/-! ### Summary bytes (R200, R201) -/

/-- The fields of a stack port's summary byte do not meet. -/
theorem stackBits (pending dropped inService : Bool) (st : StackState) (k : SleepKind) :
    let b := bitAt 7 pending ||| bitAt 6 dropped ||| BitVec.ofNat 8 (16 * st.code) ||| bitAt 3 inService ||| BitVec.ofNat 8 k.code
    b.getLsbD 7 = pending ∧ b.getLsbD 6 = dropped ∧ (b.extractLsb' 4 2).toNat = st.code ∧ b.getLsbD 3 = inService
      ∧ (b.extractLsb' 0 3).toNat = k.code := by
  cases st <;> cases k <;> revert pending dropped inService <;> decide

/-- Those of the Application Port's. -/
theorem appBits : ∀ pending dropped lostA lostB alert call : Bool,
    let b := bitAt 7 pending ||| bitAt 6 dropped ||| bitAt 5 lostA ||| bitAt 4 lostB ||| bitAt 3 alert ||| bitAt 2 call
    b.getLsbD 7 = pending ∧ b.getLsbD 6 = dropped ∧ b.getLsbD 5 = lostA ∧ b.getLsbD 4 = lostB ∧ b.getLsbD 3 = alert
      ∧ b.getLsbD 2 = call ∧ (b.extractLsb' 0 2).toNat = 0 := by
  decide

/-! ### The beginning of a transaction (R171, R193) -/

/-- What a transaction that begins leaves of the sleep state. -/
theorem transactionWakes_eq (e : Env) (c : Core) : transactionWakes e c = { c with psc := { c.psc with
    sleep := match c.psc.sleep with
      | .awake => .awake
      | .settlingDown _ _ => .awake
      | .light _ => .awake
      | .deep _ => .waking (e.count + tu e.image.clockSettle)
      | .waking t => .waking t } } := by
  rcases c with ⟨tla, smg, msu, hoe, csc, rcc, psc, ssv, pif, notices, evaluate⟩
  rcases psc with ⟨power, sleep⟩
  cases sleep <;> rfl

/-- Settles O16. -/
theorem transactionBegins : Obligations.TransactionBegins := by
  unfold Obligations.TransactionBegins
  refine ⟨fun port s running idle => ?_, fun port s t running busy => ?_, fun _ _ => rfl, shiftedOut_eq, fun _ => rfl,
    fun e c x => stackBits _ _ _ _ _, fun e c => appBits _ _ _ _ _ _⟩
  · change execLinkTransactionBegin port s = _
    rw [execLinkTransactionBegin, onEvent_runs running]
    simp only [State.ensureBegun, idle, State.beginTransaction, transactionWakes_eq]
    rfl
  · change execLinkTransactionBegin port s = _
    rw [execLinkTransactionBegin, onEvent_runs running]
    simp only [State.ensureBegun, busy]

/-! ### The Port Interface's requests (R206 to R208) -/

theorem eventPayload_length (q : EventQueue) : (eventPayload q).length = 6 + 15 * min 6 q.events.length := by
  have hbytes : ∀ ev : Event, ev.bytes.length = 15 := fun ev => by
    rcases ev with ⟨kind, subject, time, value1, value2⟩
    cases subject <;> rfl
  have hflat : ∀ l : List Event, ((l.map Event.bytes).flatten).length = 15 * l.length := fun l => by
    induction l with
    | nil => rfl
    | cons ev l ih =>
      simp [hbytes, ih]
      omega
  simp only [eventPayload, List.length_append, hflat, List.length_take, Config.eventReadMax]
  simp [nat16, bytes16]

/-- A read of a queue that empties it, and one that does not. -/
theorem readQueue_eq (port : Port) (c : Core) : readQueue port c =
    if (c.pif.get port).events ≠ [] ∧ (c.pif.get port).events.length ≤ 6 then
      queueEmptied port { c with pif := c.pif.set port ⟨(c.pif.get port).events.drop 6, 0⟩ }
    else { c with pif := c.pif.set port ⟨(c.pif.get port).events.drop 6, 0⟩ } := by
  simp [readQueue, EventQueue.read, Config.eventReadMax, List.drop_eq_nil_iff]

theorem queueEmptied_pif (port : Port) (c : Core) : (queueEmptied port c).pif = c.pif := by
  cases port <;> rfl

theorem queueEmptied_ssv (port : Port) (c : Core) (x : Sub) : (queueEmptied port c).ssv.get x =
    if port = .stack x then { c.ssv.get x with monitor := none } else c.ssv.get x := by
  rcases port with y | _
  · cases x <;> cases y <;> rfl
  · rfl

theorem queueEmptied_evaluate (port : Port) (c : Core) : (queueEmptied port c).evaluate = true := by
  cases port <;> rfl

/-- What a record does to the queue it joins. -/
theorem join_eq (q : EventQueue) (ev : Event) : q.join ev =
    if q.events.length < 16 then ⟨q.events ++ [ev], q.overflow⟩ else ⟨q.events, min 255 (q.overflow + 1)⟩ := by
  simp [EventQueue.join, Config.queueSize, saturate, Nat.min_comm]

theorem post_detached {e : Env} {x : Sub} {ev : Event} {c : Core} (h : c.attached x = false) :
    post e (.stack x) ev c = c := by simp [post, h]

theorem post_taken_pif {e : Env} {port : Port} {ev : Event} {c : Core}
    (h : ∀ x, port = .stack x → c.attached x = true) :
    (post e port ev c).pif = c.pif.set port ((c.pif.get port).join ev) := by
  rcases port with x | _
  · simp only [post, h x rfl, if_true]
    split
    · unfold startMonitor
      split <;> rfl
    · rfl
  · rfl

theorem post_taken_ssv {e : Env} {port : Port} {ev : Event} {c : Core}
    (h : ∀ x, port = .stack x → c.attached x = true) (x : Sub) :
    (post e port ev c).ssv.get x =
      if port = .stack x ∧ (c.pif.get port).events = [] ∧ e.policy.limits.get x ≠ 0 then
        { c.ssv.get x with monitor := some (e.count + tu (e.policy.limits.get x)) }
      else c.ssv.get x := by
  rcases port with y | _
  · have hy : Core.attached { c with pif := c.pif.set (.stack y) ((c.pif.get (.stack y)).join ev) } y = true := h y rfl
    by_cases hempty : (c.pif.get (.stack y)).events = []
    · by_cases hlimit : e.policy.limits.get y = 0
      · simp only [post, h y rfl, hempty, startMonitor, hy, hlimit]
        cases x <;> cases y <;> simp_all
      · simp only [post, h y rfl, hempty, startMonitor, hy]
        cases x <;> cases y <;> simp_all [Core.setMonitor, Pair.get, Pair.set]
    · simp [post, h y rfl, hempty]
  · rfl

/-- Settles O19. -/
theorem portRequests : Obligations.PortRequests := by
  unfold Obligations.PortRequests
  refine ⟨fun port seq s ready => ⟨?_, ?_, ?_⟩, fun _ _ => rfl, fun port c => ⟨?_, fun h => ?_, fun h1 h6 => ?_⟩,
    fun q => ⟨eventPayload_length q, ?_⟩, fun ev => ?_, fun n k h => ?_, fun e port ev c => ⟨?_, fun h => ⟨?_, ?_⟩, ?_⟩⟩
  · exact takeRequest_open_accept ready rfl
  · rw [← restartMonitor_pif port s]
    exact takeRequest_open_accept ready rfl
  · have hcounts : ∀ q, linkCounts (restartMonitor port s) q = linkCounts s q := fun q => by simp [linkCounts]
    simp only [← hcounts]
    exact takeRequest_open_accept ready rfl
  · rw [readQueue_eq]
    split
    · rw [queueEmptied_pif]
    · rfl
  · have hnot : ¬ ((c.pif.get port).events ≠ [] ∧ (c.pif.get port).events.length ≤ 6) := by
      rintro ⟨hne, hle⟩
      have := List.length_pos_of_ne_nil hne
      omega
    rw [readQueue_eq, if_neg hnot]
    exact ⟨rfl, rfl⟩
  · have hyes : (c.pif.get port).events ≠ [] ∧ (c.pif.get port).events.length ≤ 6 :=
      ⟨List.ne_nil_of_length_pos h1, h6⟩
    rw [readQueue_eq, if_pos hyes]
    exact ⟨queueEmptied_evaluate _ _, queueEmptied_ssv port _⟩
  · simp [eventPayload, EventQueue.read, Config.eventReadMax, nat16]
  · rcases ev with ⟨kind, subject, time, value1, value2⟩
    cases subject with
    | none => rfl
    | _ x => cases x <;> rfl
  · match n, h with
    | 0, h | 1, h | 2, h | 3, h | 4, h | 5, h | 6, h | 7, h | 8, h | 9, h | 10, h | 11, h | 12, h | 13, h | 14, h | 15, h
    | 16, h | 17, h | 18, h | 19, h | 20, h | 21, h => cases h; rfl
  · rintro x rfl h
    exact post_detached h
  · rw [post_taken_pif h, join_eq]
  · exact post_taken_ssv h
  · rcases post_cases e port ev c with h | h | ⟨x, m, -, h⟩ <;> rw [h]
    rfl

end Sys2Proof.Machine

/-! PROOFS. The Subscription Supervisor's requests, and the reads of the part's own state (R161, R173, R178, R181, R184 to R192,
R218). -/

namespace Sys2Proof.Machine

/-! ### Stack transitions (R178, R181, R184) -/

theorem clearConsent_eq (x : Sub) (c : Core) : clearConsent x c = { c with
    psc := { c.psc with consent := c.psc.consent.set x false }
    evaluate := c.evaluate || c.psc.consent.get x } := by
  unfold clearConsent
  cases h : c.psc.consent.get x <;> simp [Core.trigger]

/-- Settles O20. -/
theorem stackTransitions : Obligations.StackTransitions := by
  unfold Obligations.StackTransitions
  refine ⟨fun x seq s ready => ⟨?_, ?_⟩, fun e x was c => ⟨fun h => ?_, fun h => ?_⟩, fun e x c => ⟨fun h => ?_, fun h => ?_,
    fun h => ?_⟩, clearConsent_eq, fun x t s running monitor due => ?_⟩
  · rintro t rfl
    refine takeRequest_any_accept ready ?_
    simp only [restartMonitor_state, restartMonitor_env]
    rfl
  · refine takeRequest_any_accept ready ?_
    simp only [restartMonitor_state]
    rfl
  · simp [attachStack, detachFirst, h, postStack, Event.now, value16, saturate]
  · simp [attachStack, detachFirst, h, postStack, Event.now]
    rfl
  · simp [detachStack, h]
  · simp [detachStack, h, postStack, Event.now]
    rfl
  · simp [detachStack, h, postStack, Event.now]
    rfl
  · change execSilenceMonitorExpiry x s = _
    rw [execSilenceMonitorExpiry, onEvent_runs running]
    simp only [State.react, takeSilence, monitor, reachedOpt, reached, due, if_true]
    rfl

/-! ### POLICY_SET (R185 to R187, R191) -/

theorem creditInForce_none {c : Core} (h : c.voiceSession = none) : creditInForce c = none := by simp [creditInForce, h]

theorem creditInForce_some {c : Core} {n : Session} {v : Voice} (h : c.voiceSession = some (n, v)) :
    creditInForce c = v.traffic.map Traffic.credit := by simp [creditInForce, h]

/-- The three preferred codes. -/
theorem preferredOf_eq {pref : Byte} {who : Option Sub}
    (h : (pref, who) ∈ [((0 : Byte), none), (1, some Sub.A), (2, some Sub.B)]) :
    preferredOf pref = some who ∧ BitVec.ofNat 8 (preferredCode who) = pref := by
  simp only [List.mem_cons, Prod.mk.injEq, List.not_mem_nil, or_false] at h
  rcases h with ⟨rfl, rfl⟩ | ⟨rfl, rfl⟩ | ⟨rfl, rfl⟩ <;> exact ⟨rfl, rfl⟩

theorem preferredOf_none {pref : Byte} (h : 2 < pref.toNat) : preferredOf pref = none := by
  have h0 : pref ≠ 0 := by rintro rfl; simp at h
  have h1 : pref ≠ 1 := by rintro rfl; simp at h
  have h2 : pref ≠ 2 := by rintro rfl; simp at h
  rw [preferredOf, if_neg h0, if_neg h1, if_neg h2]

/-- Settles O22. -/
theorem policyTaken : Obligations.PolicyTaken := by
  unfold Obligations.PolicyTaken
  refine ⟨fun seq pref credit refill a b who p s ready hpref hp => ?_, fun c => ⟨creditInForce_none, fun n v h =>
    ⟨fun ht => ?_, fun tr ht => ?_⟩⟩, fun seq pref credit refill a b s ready big => ?_, fun _ _ _ _ => rfl⟩
  · obtain ⟨hwho, hcode⟩ := preferredOf_eq hpref
    have hpolicy : takenPolicy who credit refill a b = p := by
      rw [hp]
      simp [takenPolicy, takenLimit, clamp]
    have hp' : preferredCode p.preferred = preferredCode who := by rw [hp]
    refine takeRequest_app_accept ready ?_
    simp only [hwho, hpolicy, policyBytes, bytes8, hp', hcode]
    cases creditInForce (applyPolicy s.env.count s.env.policy p s.core) <;> rfl
  · rw [creditInForce_some h, ht]
    rfl
  · rw [creditInForce_some h, ht]
    rfl
  · refine takeRequest_app_refuse ready ?_
    simp only [preferredOf_none big]

/-! ### The reads of the part's own state (R161, R173, R192, R218) -/

theorem voiceCode_none {c : Core} (h : c.voiceSession = none) (x : Sub) : voiceCode c x = 0 := by simp [voiceCode, h]

theorem voiceCode_some {c : Core} {n : Session} {v : Voice} (h : c.voiceSession = some (n, v)) (x : Sub) :
    voiceCode c x = if n.owner = x then (if v.traffic.isSome then 2 else 1) else 0 := by simp [voiceCode, h]

/-- Settles O24. -/
theorem partReads : Obligations.PartReads := by
  unfold Obligations.PartReads
  refine ⟨fun seq s ready => takeRequest_app_accept ready rfl, fun port seq s reads => ⟨?_, ?_⟩, fun began e c => ?_,
    fun e c x => ?_, fun c x => ⟨fun h => voiceCode_none h x, fun n v h => ⟨fun ho => ?_, fun ho ht => ?_, fun ho ht => ?_⟩⟩,
    fun l i => ?_⟩
  · refine takeRequest_shared_accept reads ?_
    simp only [restartMonitor_env]
    rfl
  · refine takeRequest_shared_accept reads ?_
    simp only [restartMonitor_env]
  · have hpref : bytes8 (preferredCode e.policy.preferred) = [match e.policy.preferred with
        | none => 0
        | some .A => 1
        | some .B => 2] := by
      rcases e.policy.preferred with _ | _ | _ <;> rfl
    rw [statusBytes, hpref]
    simp only [List.append_assoc]
    rfl
  · rw [subStatus, headState]
    cases (c.ssv.get x).monitor <;> rcases c.headText x with _ | ⟨n, t⟩ <;>
      simp [bytes8, yesNo, timeOrNone, orNone, bytes32]
  · simp [voiceCode_some h, ho]
  · simp [voiceCode_some h, ho, ht]
  · simp [voiceCode_some h, ho, ht]
  · simp only [configBytes, scopeCount, List.countP_eq_length_filter]
    cases l.loaded <;> cases i.tuning <;> simp [bytes8, yesNo, nat16, orNone, Device.all, Quad.get] <;>
      exact ⟨rfl, rfl, rfl, rfl⟩

end Sys2Proof.Machine

/-! PROOFS. The reads of one record, with the bytes they answer (R40, R69, R85, R90, R92, R150, R219). -/

namespace Sys2Proof.Machine

/-! ### Who may read -/

theorem mayRead_stack (x y : Sub) : mayRead (.stack y) x = true ↔ y = x := by
  simp [mayRead, eq_comm]

theorem actsFor_app_none (sub : Byte) : actsFor .app sub = none ↔ 1 < sub.toNat := by
  simp only [actsFor, Sub.ofByte]
  generalize sub.toNat = n
  match n with
  | 0 | 1 | n + 2 => simp

theorem actsFor_app_some (sub : Byte) (x : Sub) : actsFor .app sub = some x ↔ sub = if x = .A then 0 else 1 := by
  have h : ∀ b : Byte, Sub.ofByte b = some .A ↔ b = 0 := by decide
  have h' : ∀ b : Byte, Sub.ofByte b = some .B ↔ b = 1 := by decide
  cases x
  · simpa [actsFor] using h sub
  · simpa [actsFor] using h' sub

/-! ### The bytes of a record (R219) -/

@[simp] theorem restartMonitor_reservation (port : Port) (s : State) (h : Handle) :
    (restartMonitor port s).core.reservation h = s.core.reservation h := by simp [Core.reservation]

@[simp] theorem restartMonitor_session (port : Port) (s : State) (h : Handle) :
    (restartMonitor port s).core.session h = s.core.session h := by simp [Core.session]

@[simp] theorem restartMonitor_cells (port : Port) (s : State) (x : Sub) :
    (restartMonitor port s).core.cells x = s.core.cells x := by simp [Core.cells]

theorem reservationBytes_eq (r : Reservation) : reservationBytes r =
    [if r.owner = .A then 0 else 1, BitVec.ofNat 8 r.cls.code] ++ yesNo r.urgent ++ yesNo r.emergency
      ++ [BitVec.ofNat 8 r.state.code] ++ yesNo r.late ++ yesNo r.degraded
      ++ bytes32 r.start ++ bytes32 r.desired ++ bytes16 (BitVec.ofNat 16 r.slack) ++ bytes16 (BitVec.ofNat 16 r.length)
      ++ bytes16 r.frequency ++ [BitVec.ofNat 8 r.band.toNat]
      ++ (match r.repeats with
        | none => [0, 0, 0, 0, 0, 0]
        | some p => bytes32 (BitVec.ofNat 32 p.period) ++ [1, BitVec.ofNat 8 p.remaining])
      ++ bytes16 r.occIndex ++ [BitVec.ofNat 8 r.lost] ++ handleOrNone r.session
      ++ [BitVec.ofNat 8 r.staged.length, BitVec.ofNat 8 r.cells.length]
      ++ (r.cells.map fun k => bytes16 k.frequency ++ bytes16 k.identity).flatten := by
  have hkey : (r.cells.map bytesKey) = r.cells.map fun k => bytes16 k.frequency ++ bytes16 k.identity := rfl
  have howner : BitVec.ofNat 8 (Sub.code r.owner) = if r.owner = .A then 0 else 1 := by cases r.owner <;> rfl
  have hnone : repeatBytes none = [0, 0, 0, 0, 0, 0] := rfl
  have hsome : ∀ p : Repeats, repeatBytes (some p) = bytes32 (BitVec.ofNat 32 p.period) ++ [1, BitVec.ofNat 8 p.remaining] :=
    fun _ => rfl
  have hrepeats : repeatBytes r.repeats = match r.repeats with
      | none => [0, 0, 0, 0, 0, 0]
      | some p => bytes32 (BitVec.ofNat 32 p.period) ++ [1, BitVec.ofNat 8 p.remaining] := by
    cases r.repeats <;> simp only [hnone, hsome]
  unfold reservationBytes
  simp only [hkey, howner, hrepeats, bytes8, nat16, List.append_assoc, List.cons_append, List.nil_append]

/-- The place of the first entry equal to a handle. -/
theorem queuePlace_of_first {q : List Handle} {h : Handle} {i : Nat} (here : q[i]? = some h)
    (first : ∀ j, j < i → q[j]? ≠ some h) : queuePlace q h = i + 1 := by
  obtain ⟨hlt, hi⟩ := List.getElem?_eq_some_iff.mp here
  have : q.findIdx (fun g => decide (g = h)) = i := by
    rw [List.findIdx_eq hlt]
    refine ⟨by simpa using hi, fun j hj => ?_⟩
    have := first j hj
    rw [List.getElem?_eq_getElem (by omega)] at this
    simpa using this
  rw [queuePlace, this]

theorem contextBytes_eq (e : Env) (c : Core) (x : Sub) (i : Nat) (m : ShadowEntry) : contextBytes e c x i m =
    [BitVec.ofNat 8 c.rcc.shadow.length, BitVec.ofNat 8 m.entry.device.number, m.entry.register,
        if m.entry.scope = .context then 0 else 1]
      ++ yesNo (decide (c.rcc.tuning = some i))
      ++ (if m.entry.scope = .context then halfOrNone (m.own.get x)
        else halfOrNone m.common ++ halfOrNone m.entry.initial)
      ++ halfOrNone m.live
      ++ (if e.has m.entry.device then
          (match c.power m.entry.device with
            | .off => [0]
            | .rising _ => [1]
            | .on => [2]
            | .falling _ => [3]) ++ yesNo (decide (c.rcc.answering.get m.entry.device = .notAnswering))
        else [0, 0]) := by
  rw [contextBytes, powerBytes]
  cases m.entry.scope <;> cases c.power m.entry.device <;> rfl

theorem cellReadBytes_some (now : Time) (t : CellTable) (slot : Nat) {r : Cell} (h : cellAt t.slots slot = some r) :
    cellReadBytes now t slot = [BitVec.ofNat 8 (cellCount t.slots), 1] ++ bytes16 r.key.frequency
      ++ bytes16 r.key.identity ++ [if r.role = .serving then 0 else 1, BitVec.ofInt 8 r.offset] ++ yesNo r.barred
      ++ (match r.level with
        | none => [0, 0, 0, 0, 0, 0, 0, BitVec.ofNat 8 r.updates, 0]
        | some l => [1] ++ bytes16 (BitVec.ofInt 16 l.value) ++ bytes32 l.updated ++ [BitVec.ofNat 8 r.updates]
            ++ yesNo (l.staleAt t.stale now))
      ++ timeOrNone r.entry ++ yesNo r.reported := by
  have hrole : bytes8 r.role.code = [if r.role = .serving then 0 else 1] := by cases r.role <;> rfl
  rw [cellReadBytes, h]
  simp only [cellBytes, hrole]
  cases r.level <;> simp [bytes8, bytesKey, yesNo, nat16, nat32, signed16, bytes16, bytes32]

theorem sessionBytes_voice {s : State} {n : Session} {v : Voice} (h : n.body = .voice v) : sessionBytes s n =
    [if n.owner = .A then 0 else 1, 0, if v.traffic.isSome then 1 else 0] ++ voiceBytes s.env.unstated v := by
  have howner : bytes8 (Sub.code n.owner) = [if n.owner = .A then 0 else 1] := by cases n.owner <;> rfl
  rw [sessionBytes, howner, h]
  cases ht : v.traffic <;> simp [sessionCodes, bytes8, ht]

theorem sessionBytes_text {s : State} {n : Session} {t : TextBody} (h : n.body = .text t) : sessionBytes s n =
    [if n.owner = .A then 0 else 1, 1, BitVec.ofNat 8 t.state.code]
      ++ textBytes (queuePlace (s.core.queue n.owner) n.handle) t := by
  have howner : bytes8 (Sub.code n.owner) = [if n.owner = .A then 0 else 1] := by cases n.owner <;> rfl
  rw [sessionBytes, howner, h]
  simp [sessionCodes, bytes8]

/-! ### The reads (R40, R69, R90, R92, R150) -/

/-- Settles O25. -/
theorem recordReads : Obligations.RecordReads := by
  unfold Obligations.RecordReads
  refine ⟨fun port seq s reads => ⟨fun h r hr may => ?_, fun h r hr may => ?_, fun sub slot x hslot hx => ?_,
    fun sub entry x m hm hx => ?_, fun h => ⟨fun hr => ?_, fun hr => ?_, fun r hr may => ?_, fun n hr may => ?_⟩,
    fun sub at_ => ⟨fun bad => ?_, fun bad => ?_, fun bad => ?_⟩, fun sub x hx => ?_⟩,
    fun x y sub => ⟨rfl, mayRead_stack x y, rfl, actsFor_app_none sub, actsFor_app_some sub x⟩,
    ⟨fun _ => rfl, fun _ => rfl, fun _ => rfl, rfl, fun _ => rfl, rfl, fun _ => rfl, rfl, fun _ => rfl⟩,
    reservationBytes_eq, fun s n who hwho => ⟨fun v t hb ht => ?_, fun v hb ht => ?_, fun t i hb here first => ?_⟩,
    fun now t slot => ⟨fun h => ?_, fun r h => cellReadBytes_some now t slot h⟩, contextBytes_eq, fun _ _ => rfl⟩
  · refine takeRequest_shared_accept reads ?_
    simp [hr, may]
  · refine takeRequest_shared_accept reads ?_
    simp [hr, may, sessionBytes, Core.queue]
  · refine takeRequest_shared_accept reads ?_
    simp [hx, not_lt.mpr hslot]
  · refine takeRequest_shared_accept reads ?_
    simp [hm, hx, contextBytes, powerBytes, Core.power]
  · refine takeRequest_shared_refuse reads ?_
    simp [hr]
  · refine takeRequest_shared_refuse reads ?_
    simp [hr]
  · refine takeRequest_shared_refuse reads ?_
    simp [hr, may]
  · refine takeRequest_shared_refuse reads ?_
    simp [hr, may]
  · refine takeRequest_shared_refuse reads ?_
    rcases bad with h | h <;> simp [h]
  · refine takeRequest_shared_refuse reads ?_
    rcases bad with h | h <;> simp [h]
  · refine takeRequest_shared_refuse reads ?_
    simp [bad]
  · refine takeRequest_shared_accept reads ?_
    rcases port with y | _ <;> simp [hx]
  · rw [sessionBytes_voice hb, hwho, voiceBytes, ht]
    rfl
  · refine ⟨(absentField s.env.unstated 0).setWidth 16, (absentField s.env.unstated 1).setWidth 16,
      absentField s.env.unstated 2, absentField s.env.unstated 4, (absentField s.env.unstated 3).setWidth 8, ?_⟩
    rw [sessionBytes_voice hb, hwho, voiceBytes, ht]
    rfl
  · rw [sessionBytes_text hb, hwho, queuePlace_of_first here first]
    rfl
  · simp [cellReadBytes, h, bytes8, yesNo]

end Sys2Proof.Machine

/-! PROOFS. Reset and start-up: the reset and the rise of RESET_N, the reads of the configuration memory, and the records of
the image (R159, R210 to R215, R220). -/

namespace Sys2Proof.Machine

/-! ### Power-on reset and the rise of RESET_N (R210, R212) -/

/-- What an event command does while RESET_N is high. -/
def eventOf : Instr → Option (State → State)
  | .linkTransactionBegin port => some fun s => s.ensureBegun port
  | .linkTransactionEnd port received => some fun s =>
    match (s.links.get port).transaction with
    | none => s
    | some _ => endTransaction port (wholeBytes received) s
  | .preparationRequest => some fun s => s.react takePreparation
  | .windowStart => some fun s => s.react takeStart
  | .windowEnd => some fun s => s.react takeEnd
  | .sampleReport bits => some fun s => s.setCore (takeSample bits s.env s.core)
  | .holdExpiry x => some fun s => s.setCore (takeHoldExpiry x s.env s.core)
  | .searchResultDeadline x => some fun s => s.react (takeSearchDeadline x)
  | .searchDueTime x => some fun s => s.react (takeSearchDue x)
  | .textResultDeadline x => some fun s => s.react (takeResultDeadline x)
  | .busTransferEnd slots returned => some fun s => s.react fun e c => endTransfer e ⟨slots, false, returned⟩ c
  | .busTransferTimeout => some fun s => s.react fun e c => endTransfer e ⟨⟨false, false⟩, true, []⟩ c
  | .riseEnd d => some fun s => s.react (takeRiseEnd d)
  | .fallEnd d => some fun s => s.react (takeFallEnd d)
  | .demandTime d => some fun s => s.react (takeDemand d)
  | .wakeTime => some fun s => s.react takeWake
  | .settleEnd => some fun s => s.react takeSettleEnd
  | .timelineClockAdvance periods => some (advanceClock periods)
  | .supplyStabilityTime => some takeSupply
  | .silenceMonitorExpiry x => some fun s => s.react (takeSilence x)
  | _ => none

theorem exec_event {c : Instr} {f : State → State} (h : eventOf c = some f) (s : State) : exec c s = onEvent s f := by
  cases c <;> cases h <;> rfl

/-- Every command is a request, an event that waits for RESET_N, or one of the four of the start-up. -/
theorem command_cases (c : Instr) :
    (∃ port seq, requestHead c = some (port, seq)) ∨ (∃ f, eventOf c = some f)
      ∨ c = .powerOnReset ∨ c = .resetNRise ∨ (∃ line level, c = .battLineChange line level)
      ∨ ∃ byte, c = .configByteRead byte := by
  cases c <;> simp [requestHead, eventOf]

theorem exec_held {c : Instr} {s : State} (held : s.env.load.phase = .notBegun) (hreset : c ≠ .powerOnReset)
    (hrise : c ≠ .resetNRise) (hline : ∀ line level, c ≠ .battLineChange line level) : exec c s = .next s := by
  rcases command_cases c with ⟨port, seq, head⟩ | ⟨f, event⟩ | rfl | rfl | ⟨line, level, rfl⟩ | ⟨byte, rfl⟩
  · obtain ⟨r, -, hexec, -, -⟩ := request_of_head head
    rw [hexec, takeRequest_held held]
  · rw [exec_event event, onEvent_held held]
  · exact absurd rfl hreset
  · exact absurd rfl hrise
  · exact absurd rfl (hline line level)
  · change Host.Outcome.next (takeConfigByte byte s) = _
    simp [takeConfigByte, held]

/-- Settles O26. -/
theorem resetAndRise : Obligations.ResetAndRise := by
  unfold Obligations.ResetAndRise
  refine ⟨fun _ => rfl, fun s held => ?_, fun s running => ?_, fun c s held hreset hrise hline =>
    exec_held held hreset hrise hline⟩
  · change Host.Outcome.next (if s.held then releaseReset s else s) = _
    simp [State.held, held, releaseReset, SupplyLine.begin]
  · change Host.Outcome.next (if s.held then releaseReset s else s) = _
    simp [State.held, running]

/-! ### The reads of the configuration memory (R212) -/

theorem execConfigByteRead_reading {s : State} (reading : s.env.load.phase = .reading) (byte : Option Byte) :
    exec (.configByteRead byte) s = .next (match byte with
      | some b => loadByte b s.env.load s
      | none => noAnswer s.env.load s) := by
  change Host.Outcome.next (takeConfigByte byte s) = _
  cases byte <;> simp [takeConfigByte, reading]

/-- A byte behind the first two belongs to a record. -/
theorem loadByte_record {b : Byte} {l : Load} {s : State} (h : 2 ≤ l.position.toNat) :
    loadByte b l s = recordByte b { l with position := nextPosition l.position } s := by
  have h0 : l.position ≠ 0 := by
    intro h'
    simp [h'] at h
  have h1 : l.position ≠ 1 := by
    intro h'
    simp [h'] at h
  rw [loadByte, if_neg h0, if_neg h1]

/-- Settles O27. -/
theorem loadReads : Obligations.LoadReads := by
  unfold Obligations.LoadReads
  refine ⟨fun byte s h => ?_, fun b s next reading hnext => ⟨?_, fun h0 hb => ?_, fun h0 hb => ?_, fun h1 hr hb => ?_,
    fun h1 hr hb => ?_, fun h2 hp => ?_, fun kind n data h2 hp => ⟨fun hn => ?_, fun l hl hn => ⟨fun hr => ?_,
    fun hr => ?_⟩⟩⟩, fun l kind data => ⟨fun i n h => ?_, fun h => ?_⟩, fun l s i n h => ?_, fun _ _ _ => rfl,
    fun i l s => ?_, rfl⟩
  · change Host.Outcome.next (takeConfigByte byte s) = _
    unfold takeConfigByte
    split
    · exact absurd (by assumption) h
    · exact absurd (by assumption) h
    · rfl
  · rw [execConfigByteRead_reading reading]
    rfl
  · rw [execConfigByteRead_reading reading]
    simp [loadByte, h0, hb, nextPosition, State.setLoad, saturate]
  · rw [execConfigByteRead_reading reading]
    simp only [loadByte, if_pos h0, if_neg hb]
    simp [h0, nextPosition, saturate]
  · rw [execConfigByteRead_reading reading]
    have hstated : 0 ≠ b.toNat := fun h => hb (BitVec.eq_of_toNat_eq h.symm)
    simp [loadByte, h1, hr, nextPosition, saturate, continueLoad, State.setLoad, hstated]
  · rw [execConfigByteRead_reading reading]
    simp [loadByte, h1, hr, hb, nextPosition, saturate, continueLoad]
  · rw [execConfigByteRead_reading reading]
    simp only [loadByte_record h2, recordByte, List.length_eq_zero_iff.mp hp, List.nil_append, hnext, nextPosition, saturate]
    rfl
  · rw [execConfigByteRead_reading reading]
    simp only [loadByte_record h2, recordByte, hp, hnext, nextPosition, saturate, hn, if_false]
    rfl
  · rw [execConfigByteRead_reading reading]
    rw [hnext] at hl
    simp only [loadByte_record h2, recordByte, hp, nextPosition, saturate, hn, if_true, continueLoad, ← hl, hr]
  · rw [execConfigByteRead_reading reading]
    rw [hnext] at hl
    simp only [loadByte_record h2, recordByte, hp, nextPosition, saturate, hn, if_true, continueLoad, ← hl, hr, if_false]
    rfl
  · simp [Load.takeWhole, h, saturate]
  · simp [Load.takeWhole, h, saturate]
  · simp [endLoaded, h, saturate]
  · have hfresh : freshEntry = fun m => ⟨m, ⟨none, none⟩, if m.scope = .common then m.initial else none, none⟩ := by
      funext m
      unfold freshEntry
      cases m.scope <;> rfl
    rw [handOver, hfresh]
    rfl

/-! ### The records of the image (R213, R214, R220) -/

theorem half_toNat (a b : Byte) : (a ++ b : BitVec (8 + 8)).toNat = 256 * a.toNat + b.toNat := by
  rw [BitVec.toNat_append, Nat.shiftLeft_eq, Nat.mul_comm, ← Nat.two_pow_add_eq_or_of_lt b.isLt]

theorem takeValue_eq (lo hi n : Nat) (put : Nat → Image) :
    takeValue lo hi n put = some (put (max lo (min hi n)), if lo ≤ n ∧ n ≤ hi then 0 else 1) := rfl

theorem ofByte_of_number {b : Byte} {d : Device} (h : b.toNat = d.number) : Device.ofByte b = some d := by
  rw [Device.ofByte, h]
  cases d <;> rfl

theorem number_of_ofByte {b : Byte} {d : Device} (h : Device.ofByte b = some d) : d.number = b.toNat := by
  unfold Device.ofByte at h
  split at h <;> cases h <;> simp_all [Device.number]

/-- A MAP_ENTRY joins the map when its fields are valid, its register is new and its scope has room. -/
theorem takeMapEntry_new {i : Image} {d : Device} {dev reg scope : Byte} {sc : Scope} (hd : Device.ofByte dev = some d)
    (hs : scopeOfByte scope = some sc) (new : ∀ m ∈ i.map, ¬(m.device = d ∧ m.register = reg))
    (room : (i.map.filter fun m => decide (m.scope = sc)).length < sc.limit) (initial : Option Half) :
    takeMapEntry dev reg scope initial i =
      some { i with map := i.map ++ [⟨d, reg, sc, match sc with
        | .context => none
        | .common => initial⟩] } := by
  have hany : ¬ (i.map.any (fun m => decide (m.device = d) && decide (m.register = reg)) = true) := by
    simpa using fun m hm hdm => not_and.mp (new m hm) hdm
  cases sc with
  | context => simp only [takeMapEntry, hd, hs, if_neg hany, not_le.mpr room, if_false]
  | common => simp only [takeMapEntry, hd, hs, if_neg hany, not_le.mpr room, if_false]

theorem takeMapEntry_full {i : Image} {dev reg scope : Byte} {sc : Scope} (hs : scopeOfByte scope = some sc)
    (full : sc.limit ≤ (i.map.filter fun m => decide (m.scope = sc)).length) (initial : Option Half) :
    takeMapEntry dev reg scope initial i = none := by
  unfold takeMapEntry
  rw [hs]
  cases Device.ofByte dev <;> simp [full]

/-- A MAP_ENTRY of an invalid device or scope, or of a register that is mapped, is ignored. -/
theorem takeMapEntry_invalid {i : Image} {dev reg scope : Byte} (bad : 3 < dev.toNat ∨ 1 < scope.toNat
    ∨ i.map.any (fun m => decide (m.device.number = dev.toNat) && decide (m.register = reg)) = true)
    (initial : Option Half) : takeMapEntry dev reg scope initial i = none := by
  unfold takeMapEntry
  cases hd : Device.ofByte dev with
  | none => simp
  | some d =>
    have hnum := number_of_ofByte hd
    have hd3 : ¬ 3 < dev.toNat := by
      rw [← hnum]
      cases d <;> decide
    cases hs : scopeOfByte scope with
    | none => simp
    | some sc =>
      have hs1 : ¬ 1 < scope.toNat := by
        unfold scopeOfByte at hs
        split at hs
        · simp_all
        · split at hs <;> simp_all
      obtain h | h | h := bad
      · exact absurd h hd3
      · exact absurd h hs1
      · have hsame : ∀ m : MapEntry, decide (m.device.number = dev.toNat) = decide (m.device = d) := fun m => by
          rw [← hnum]
          rcases m with ⟨md, _, _, _⟩
          cases md <;> cases d <;> rfl
        simp only [hsame] at h
        simp [h]

/-- A record of kind 0x08 is a map entry, with an initial value or without, or has a wrong length. -/
theorem takeRecord_map_none {i : Image} {dev reg scope : Byte} (data : List Byte)
    (h : ∀ initial, takeMapEntry dev reg scope initial i = none) : takeRecord 0x08 (dev :: reg :: scope :: data) i = none := by
  match data with
  | [] => simp [takeRecord, h]
  | [_] => simp [takeRecord]
  | [_, _] => simp [takeRecord, h]
  | _ :: _ :: _ :: _ => simp [takeRecord]

theorem settledTuning_iff (i : Image) (n : Nat) : settledTuning i = some n ↔
    i.tuning = some n ∧ ∃ m, i.map[n]? = some m ∧ m.device = .transceiver ∧ i.present.d0 = true := by
  unfold settledTuning
  cases i.tuning with
  | none => simp
  | some k =>
    cases hm : i.map[k]? with
    | none =>
      simp only [hm, reduceCtorEq, Option.some.injEq, false_iff, not_and]
      rintro rfl
      simp [hm]
    | some m =>
      simp only [hm, Option.some.injEq]
      constructor
      · intro h
        split at h
        · rename_i hp
          obtain rfl := Option.some.inj h
          exact ⟨rfl, m, hm, hp⟩
        · cases h
      · rintro ⟨rfl, m', hm', hp⟩
        obtain rfl := Option.some.inj (hm.symm.trans hm')
        exact if_pos hp

/-- Settles O28. -/
theorem imageRecords : Obligations.ImageRecords := by
  unfold Obligations.ImageRecords
  refine ⟨fun i b => ⟨rfl, ?_, rfl, ?_, ?_⟩, fun i a b n hn => ?_, fun i a b c d => ⟨?_, ?_⟩,
    fun i d dev reg hi lo hdev hnew => ⟨fun hroom => ⟨?_, ?_⟩, fun hroom => ⟨?_, ?_⟩⟩,
    fun i dev reg data => ⟨fun full => ?_, fun full => ?_⟩, fun i kind data => ⟨?_, ?_, ?_, ?_⟩,
    fun i dev reg scope data bad => takeRecord_map_none data (takeMapEntry_invalid bad), fun i kind data hk => ?_,
    fun i => ⟨rfl, rfl, settledTuning_iff i⟩⟩
  · simp [takeRecord, takeValue_eq]
  · simp [takeRecord, takeValue_eq]
  · simp [takeRecord, takeValue_eq]
  · rw [hn, ← half_toNat a b]
    simp [takeRecord, takeValue_eq]
  · rw [← half_toNat a b, ← half_toNat c d]
    simp [takeRecord, takeThresholds, clampCount, clamp]
  · simp [takeRecord, takeDelays, delayOf, clampCount, clamp, List.countP_cons]
    have hflip : ∀ n : Nat, (if n ≤ 63 then 0 else 1) = if 63 < n then 1 else 0 := fun n => by split <;> split <;> omega
    simp only [hflip]
    omega
  · simp [takeRecord, takeMapEntry_new (scope := 0#8) (sc := .context) (ofByte_of_number hdev) rfl hnew hroom]
  · simp [takeRecord, takeMapEntry_new (scope := 0#8) (sc := .context) (ofByte_of_number hdev) rfl hnew hroom]
  · simp [takeRecord, takeMapEntry_new (scope := 1#8) (sc := .common) (ofByte_of_number hdev) rfl hnew hroom]
  · simp [takeRecord, takeMapEntry_new (scope := 1#8) (sc := .common) (ofByte_of_number hdev) rfl hnew hroom]
  · exact takeRecord_map_none data (takeMapEntry_full (sc := .context) rfl full)
  · exact takeRecord_map_none data (takeMapEntry_full (sc := .common) rfl full)
  all_goals
    unfold takeRecord
    generalize kind.toNat = k at *
    split <;> simp_all

end Sys2Proof.Machine

/-! PROOFS. The timeline clock and the supply lines (R151, R152, R159 to R161, R174), and the Measurement Unit's requests on the
cell table (R74, R88, R89, R91). -/

namespace Sys2Proof.Machine

/-! ### The timeline clock (R151, R152) -/

theorem advanceClock_main {s : State} (h : s.core.psc.sleep.source = .main) (n : Nat) : advanceClock n s =
    { s with
      env := { s.env with count := s.env.count + tu ((s.core.psc.divider + n) / 600) }
      core := { s.core with psc := { s.core.psc with divider := (s.core.psc.divider + n) % 600 } } } := by
  simp only [advanceClock, h]
  rfl

theorem advanceClock_sleep {s : State} (h : s.core.psc.sleep.source = .sleep) (n : Nat) : advanceClock n s =
    { s with
      env := { s.env with count := s.env.count + tu ((s.core.psc.fraction + n * s.env.step) / 65536) }
      core := { s.core with psc := { s.core.psc with fraction := (s.core.psc.fraction + n * s.env.step) % 65536 } } } := by
  simp only [advanceClock, h]
  rfl

theorem tu_add (m n : Nat) : tu m + tu n = tu (m + n) := by simp [tu, BitVec.ofNat_add]

/-- No count is lost or gained where an advance is cut in two. -/
theorem advanceClock_add (n m : Nat) (s : State) : advanceClock m (advanceClock n s) = advanceClock (n + m) s := by
  cases h : s.core.psc.sleep.source with
  | main =>
    have hcount : (s.core.psc.divider + n) / 600 + ((s.core.psc.divider + n) % 600 + m) / 600
        = (s.core.psc.divider + (n + m)) / 600 := by omega
    have hdivider : ((s.core.psc.divider + n) % 600 + m) % 600 = (s.core.psc.divider + (n + m)) % 600 := by omega
    rw [advanceClock_main h, advanceClock_main h, advanceClock_main (by exact h)]
    simp only [BitVec.add_assoc, tu_add, hcount, hdivider]
  | sleep =>
    have hsum : s.core.psc.fraction + (n + m) * s.env.step = s.core.psc.fraction + n * s.env.step + m * s.env.step := by
      ring
    have hcount : (s.core.psc.fraction + n * s.env.step) / 65536
        + ((s.core.psc.fraction + n * s.env.step) % 65536 + m * s.env.step) / 65536
        = (s.core.psc.fraction + (n + m) * s.env.step) / 65536 := by omega
    have hfraction : ((s.core.psc.fraction + n * s.env.step) % 65536 + m * s.env.step) % 65536
        = (s.core.psc.fraction + (n + m) * s.env.step) % 65536 := by omega
    rw [advanceClock_sleep h, advanceClock_sleep h, advanceClock_sleep (by exact h)]
    simp only [BitVec.add_assoc, tu_add, hcount, hfraction]

theorem advanceClock_load (n : Nat) (s : State) : (advanceClock n s).env.load = s.env.load := by
  cases h : s.core.psc.sleep.source
  · rw [advanceClock_main h]
  · rw [advanceClock_sleep h]

theorem execTimelineClockAdvance_runs {s : State} (running : s.env.load.phase ≠ .notBegun) (n : Nat) :
    exec (.timelineClockAdvance n) s = .next (advanceClock n s) := onEvent_runs running _

/-- Settles O58. -/
theorem clockAdvance : Obligations.ClockAdvance := by
  unfold Obligations.ClockAdvance
  refine ⟨fun n s running => ⟨fun h => ?_, fun h => ?_, fun m t ht => ?_⟩, fun seq step n s ready hn => ?_⟩
  · rw [execTimelineClockAdvance_runs running, advanceClock_main h]
  · rw [execTimelineClockAdvance_runs running, advanceClock_sleep h]
  · rw [execTimelineClockAdvance_runs running] at ht
    cases ht
    rw [execTimelineClockAdvance_runs (by rw [advanceClock_load]; exact running), execTimelineClockAdvance_runs running,
      advanceClock_add]
  · subst hn
    exact takeRequest_app_accept ready rfl

/-! ### The supply lines (R159 to R161) -/

theorem SupplyLine.settle_none {l : SupplyLine} (h : l.changed = none) (now : Time) : l.settle now = l := by
  simp [SupplyLine.settle, h]

theorem SupplyLine.settle_some {l : SupplyLine} {t : Time} (h : l.changed = some t) (now : Time) : l.settle now =
    if passed now t 32 then { l with taken := l.level, changed := none } else l := by
  simp only [SupplyLine.settle, h, stabilityTime]
  rfl

/-- Settles O59. -/
theorem supplyLines : Obligations.SupplyLines := by
  unfold Obligations.SupplyLines
  refine ⟨fun level s running => ⟨?_, ?_⟩, fun s e running he => ⟨fun same => ?_, fun other => ?_⟩,
    fun now l => ⟨fun h => l.settle_none h now, fun t h hreached => ⟨fun h32 => ?_, fun h32 => ?_⟩⟩, fun e => ?_⟩
  · change Host.Outcome.next (changeLine .warn level s) = _
    simp only [changeLine, State.held, running, SupplyLine.move, SupplyLine.change, decide_false, Bool.false_eq_true, if_false]
  · change Host.Outcome.next (changeLine .low level s) = _
    simp only [changeLine, State.held, running, SupplyLine.move, SupplyLine.change, decide_false, Bool.false_eq_true, if_false]
  · change onEvent s takeSupply = _
    rw [he] at same ⊢
    rw [onEvent_runs running, takeSupply, if_pos same]
  · change onEvent s takeSupply = _
    rw [he] at other ⊢
    rw [onEvent_runs running, takeSupply, if_neg other]
    rfl
  · rw [l.settle_some h now, if_pos (by simp only [passed, hreached, h32, decide_true, Bool.and_self])]
  · rw [l.settle_some h now, if_neg (by simp only [passed, hreached, not_le.mpr h32, decide_false, Bool.and_false, Bool.false_eq_true, not_false_iff])]
  · rcases e with ⟨_, _, _, ⟨_, warn, _⟩, ⟨_, low, _⟩, _, _, _, _⟩
    cases warn <;> cases low <;> simp [Env.supply, supplyOf]

/-! ### CELL_SET, CELL_REMOVE and FILTER_SET (R74, R88, R89, R91) -/

theorem badKey_false {key : CellKey} (h : key.identity.toNat ≤ 1023) : badKey key = false := by
  simp [badKey, h]

theorem badKey_true {key : CellKey} (h : 1023 < key.identity.toNat) : badKey key = true := by simp [badKey, h]

/-- The record of a slot found by its key has that key. -/
theorem key_of_slotOf {slots : List (Option Cell)} {key : CellKey} {i : Nat} {r : Cell} (hi : slotOf slots key = some i)
    (hr : cellAt slots i = some r) : r.key = key := by
  obtain ⟨hlt, hkey, -⟩ := List.findIdx?_eq_some_iff_getElem.mp hi
  have hcell : slots[i] = some r := by
    simpa [cellAt, List.getElem?_eq_getElem hlt] using hr
  simpa [hcell] using hkey

theorem discardAccumulator_idle {x : Sub} {key : CellKey} {c : Core} (h : ∀ v ∈ c.msu.view, v.owner ≠ x) :
    discardAccumulator x key c = c := by
  unfold discardAccumulator
  split
  · rfl
  · rename_i v hv
    rw [if_neg (h v hv)]

theorem discardAccumulator_open {x : Sub} {key : CellKey} {c : Core} {v : MsuView} (hv : c.msu.view = some v)
    (ho : v.owner = x) : discardAccumulator x key c = { c with
      msu := { c.msu with view := some { v with accs := v.accs.filter fun a => decide (a.key ≠ key) } } } := by
  simp [discardAccumulator, hv, ho]

@[simp] theorem discardAccumulator_cells (x y : Sub) (key : CellKey) (c : Core) :
    (discardAccumulator x key c).cells y = c.cells y := by
  unfold discardAccumulator
  split
  · rfl
  · split <;> rfl

/-- Settles O44. -/
theorem cellCommands : Obligations.CellCommands := by
  unfold Obligations.CellCommands
  refine ⟨fun x key c => ⟨discardAccumulator_idle, fun v hv ho => discardAccumulator_open hv ho⟩, fun x seq s s1 acts hs1 => ?_⟩
  subst hs1
  refine ⟨fun key offset barred o hkey ho => ⟨fun i r hi hr => ?_, fun i hi hf => ?_, fun hi hf => ?_⟩,
    fun key i r hkey hi hr => ⟨fun hrole => ?_, fun hrole => ?_⟩, fun key => ⟨fun hkey => ⟨?_, fun offset barred => ?_⟩,
    fun hkey hi => ?_⟩, fun k stale => ?_⟩
  · subst ho
    refine takeRequest_stack_accept acts ?_
    simp [badKey_false hkey, hi, hr, takenOffset, clampInt, CellTable.put, cellSetBytes, bytes8]
  · subst ho
    refine takeRequest_stack_accept acts ?_
    simp [badKey_false hkey, hi, hf, takenOffset, clampInt, CellTable.put, cellSetBytes, bytes8, newCell]
  · refine takeRequest_stack_refuse acts ?_
    simp [badKey_false hkey, hi, hf]
  · refine takeRequest_stack_accept acts ?_
    simp [badKey_false hkey, hi, hr, hrole, removeCell, key_of_slotOf hi hr, bytes8]
  · refine takeRequest_stack_refuse acts ?_
    simp [badKey_false hkey, hi, hr, hrole]
  · refine takeRequest_stack_refuse acts ?_
    simp [badKey_true hkey]
  · refine takeRequest_stack_refuse acts ?_
    simp [badKey_true hkey]
  · refine takeRequest_stack_refuse acts ?_
    simp [badKey_false hkey, hi]
  · refine takeRequest_stack_accept acts ?_
    simp [clamp, bytes8, nat32]

end Sys2Proof.Machine

/-! PROOFS. Sample intake and the level filter: the fields of a report, its attribution, the window mean, the filter's step and
the bars (R76 to R87). -/

namespace Sys2Proof.Machine

/-! ### A run of bits as a number -/

theorem bitsToNat_from (a : Nat) (bits : List Bool) :
    bits.foldl (fun n b => 2 * n + b.toNat) a = a * 2 ^ bits.length + bitsToNat bits := by
  induction bits generalizing a with
  | nil => simp [bitsToNat]
  | cons b rest ih =>
    have h : bitsToNat (b :: rest) = b.toNat * 2 ^ rest.length + bitsToNat rest := by
      rw [bitsToNat, List.foldl_cons, ih]
      simp
    rw [List.foldl_cons, ih, h, List.length_cons, pow_succ]
    ring

theorem bitsToNat_cons (b : Bool) (rest : List Bool) :
    bitsToNat (b :: rest) = (if b = true then 2 ^ rest.length else 0) + bitsToNat rest := by
  rw [bitsToNat, List.foldl_cons, bitsToNat_from]
  cases b <;> simp

theorem bitsToNat_lt (bits : List Bool) : bitsToNat bits < 2 ^ bits.length := by
  induction bits with
  | nil => simp [bitsToNat]
  | cons b rest ih =>
    rw [bitsToNat_cons, List.length_cons, pow_succ]
    cases b <;> simp <;> omega

/-- Eleven bits in two's complement. -/
theorem level_of_bits {level : List Bool} (h : level.length = 11) :
    (BitVec.ofNat 11 (bitsToNat level)).toInt
      = (bitsToNat level : Int) - (if level.head? = some true then 2048 else 0) := by
  have hlt := bitsToNat_lt level
  rw [h] at hlt
  match level, h with
  | b :: rest, h =>
    have hrest := bitsToNat_lt rest
    have hlen : rest.length = 10 := by simpa using h
    rw [hlen] at hrest
    have hcons := bitsToNat_cons b rest
    rw [hlen] at hcons
    rw [BitVec.toInt_eq_toNat_cond, BitVec.toNat_ofNat, Nat.mod_eq_of_lt hlt]
    cases b <;> simp at hcons ⊢ <;> omega

theorem sampleOfBits_fields {frequency identity level : List Bool} (valid : Bool) (hf : frequency.length = 16)
    (hi : identity.length = 10) (hl : level.length = 11) :
    sampleOfBits (frequency ++ identity ++ level ++ [valid]) =
      some ⟨⟨BitVec.ofNat 16 (bitsToNat frequency), BitVec.ofNat 16 (bitsToNat identity)⟩,
        (bitsToNat level : Int) - (if level.head? = some true then 2048 else 0), valid⟩ := by
  have hlen : (frequency ++ identity ++ level ++ [valid]).length = 38 := by simp [hf, hi, hl]
  have htake : (frequency ++ identity ++ level ++ [valid]).take 16 = frequency := by
    simp [hf]
  have hdrop16 : (frequency ++ identity ++ level ++ [valid]).drop 16 = identity ++ level ++ [valid] := by
    simp [hf]
  have hdrop26 : (frequency ++ identity ++ level ++ [valid]).drop 26 = level ++ [valid] := by
    simp [List.drop_append, hf, hi]
  have hdrop37 : (frequency ++ identity ++ level ++ [valid]).drop 37 = [valid] := by
    simp [List.drop_append, hf, hi, hl, List.drop_eq_nil_of_le]
  have hid : (identity ++ level ++ [valid]).take 10 = identity := by simp [hi]
  have hlev : (level ++ [valid]).take 11 = level := by simp [hl]
  rw [sampleOfBits, if_pos hlen, htake, hdrop16, hdrop26, hdrop37, hid, hlev, level_of_bits hl]
  cases valid <;> rfl

/-! ### Attribution (R78 to R81) -/

theorem execSampleReport_runs {s : State} (running : s.env.load.phase ≠ .notBegun) (bits : List Bool) :
    exec (.sampleReport bits) s = .next (s.setCore (takeSample bits s.env s.core)) 
      := by
  rw [exec_event rfl, onEvent_runs running]

theorem setFlags_msu (x : Sub) (f : Flags → Flags) (c : Core) : (c.setFlags x f).msu = { c.msu with
    tables := c.msu.tables.set x { c.msu.tables.get x with flags := f (c.msu.tables.get x).flags } } := rfl

/-- Settles O45. -/
theorem sampleAttribution : Obligations.SampleAttribution := by
  unfold Obligations.SampleAttribution
  refine ⟨fun bits s hlen => ?_, fun f i l valid hf hi hl => sampleOfBits_fields valid hf hi hl, ⟨rfl, bitsToNat_cons⟩,
    fun bits smp s running hs => ⟨fun hv => ?_, fun hv hview => ?_, fun v hv hview => ⟨fun hcls => ?_, fun hcls => ?_,
      fun hcls hcell => ?_, fun r hcls hcell => ?_, fun r hcls hcell => ?_⟩⟩, fun _ => rfl, fun _ _ _ _ => rfl,
    fun x raw c => ⟨fun h => ?_, fun h => ?_, fun h1 h2 => ?_, fun f => setFlags_msu x f c⟩,
    fun e v key level c a ha => ⟨fun hr hb => ?_, fun hr => ⟨fun hn => ?_, fun hn => ?_⟩⟩⟩
  · rw [exec_event rfl]
    by_cases held : s.env.load.phase = .notBegun
    · rw [onEvent_held held]
    · rw [onEvent_runs held]
      simp [takeSample, sampleOfBits, hlen]
  · rw [execSampleReport_runs running]
    simp [takeSample, hs, attributeSample, hv]
  · rw [execSampleReport_runs running]
    simp [takeSample, hs, attributeSample, hv, hview, countStray, saturate]
  · rw [execSampleReport_runs running]
    rcases hcls with hcls | hcls <;> simp [takeSample, hs, attributeSample, hv, hview, hcls, countStray, saturate]
  · rw [execSampleReport_runs running]
    simp [takeSample, hs, attributeSample, hv, hview, hcls]
  · rw [execSampleReport_runs running]
    rcases hcls with hcls | hcls | hcls <;> simp [takeSample, hs, attributeSample, hv, hview, hcls, hcell]
  · rw [execSampleReport_runs running]
    rcases hcls with hcls | hcls <;> by_cases hrole : r.role = .serving <;>
      simp [takeSample, hs, attributeSample, hv, hview, hcls, hcell, hrole]
  · rw [execSampleReport_runs running]
    by_cases hmem : smp.key ∈ v.cells <;> simp [takeSample, hs, attributeSample, hv, hview, hcls, hcell, hmem]
  · simp [noteSaturation, h]
  · simp [noteSaturation, h, show ¬ raw < -560 by omega]
  · simp [noteSaturation, not_lt.mpr h1, not_lt.mpr h2]
  · simp [countSample, ha, hr, hb]
  · have hblank : (v.retune && decide (a.blanked < e.image.blanking)) = false := by
      rcases hr with h | h <;> simp [h]
    simp [countSample, ha, hblank, hn]
  · have hblank : (v.retune && decide (a.blanked < e.image.blanking)) = false := by
      rcases hr with h | h <;> simp [h]
    simp [countSample, ha, hblank, not_lt.mpr hn]

/-! ### The window mean and the filter (R82, R83) -/

theorem windowMean_bounds (sum : Int) {n : Nat} (h : 1 ≤ n) :
    2 * (n : Int) * windowMean sum n ≤ 2 * sum + n ∧ 2 * sum + n < 2 * (n : Int) * (windowMean sum n + 1) := by
  have hpos : (0 : Int) < 2 * n := by omega
  rw [windowMean, Int.fdiv_eq_ediv_of_nonneg _ hpos.le]
  exact ⟨Int.mul_ediv_self_le hpos.ne', Int.lt_mul_ediv_self_add hpos |>.trans_eq (by ring)⟩

/-- The mean of levels lies among them. -/
theorem windowMean_range {sum : Int} {n : Nat} (h : 1 ≤ n) (lo : -560 * (n : Int) ≤ sum) (hi : sum ≤ -160 * (n : Int)) :
    -560 ≤ windowMean sum n ∧ windowMean sum n ≤ -160 := by
  obtain ⟨h1, h2⟩ := windowMean_bounds sum h
  have hn : (1 : Int) ≤ n := by omega
  constructor
  · by_contra hlt
    nlinarith [show windowMean sum n + 1 ≤ -560 by omega]
  · by_contra hgt
    nlinarith [show -159 ≤ windowMean sum n by omega]

theorem filterStep_neg (k : Nat) (d : Int) : filterStep k (-d) = -filterStep k d := by
  unfold filterStep
  split
  · rfl
  · rw [Int.sign_neg, Int.natAbs_neg, Int.neg_mul]

/-- The quotient of a nonnegative difference, to the nearest integer. -/
theorem filterStep_of_nonneg {k : Nat} (hk : 1 ≤ k) {d : Int} (hd : 0 ≤ d) :
    filterStep k d = (d + 2 ^ (k - 1)) / 2 ^ k := by
  obtain ⟨m, rfl⟩ := Int.eq_ofNat_of_zero_le hd
  have hk0 : k ≠ 0 := by omega
  rw [filterStep, if_neg hk0]
  rcases Nat.eq_zero_or_pos m with rfl | hm
  · have hlt : (2 : Int) ^ (k - 1) < 2 ^ k := by
      exact pow_lt_pow_right₀ (by norm_num) (by omega)
    rw [Int.ediv_eq_zero_of_lt (by positivity) (by simpa using hlt)]
    simp
  · rw [Int.sign_eq_one_of_pos (by omega)]
    push_cast
    simp

theorem filterStep_bounds {k : Nat} (hk : 1 ≤ k) {d : Int} (hd : 0 ≤ d) :
    2 ^ k * filterStep k d ≤ d + 2 ^ (k - 1) ∧ d + 2 ^ (k - 1) < 2 ^ k * (filterStep k d + 1)
      ∧ 0 ≤ filterStep k d ∧ filterStep k d ≤ d := by
  have hpos : (0 : Int) < 2 ^ (k - 1) := by positivity
  have hpow : (2 : Int) ^ k = 2 * 2 ^ (k - 1) := by rw [← pow_succ', Nat.sub_add_cancel hk]
  rw [filterStep_of_nonneg hk hd]
  have hlo := Int.mul_ediv_self_le (x := d + 2 ^ (k - 1)) (k := 2 ^ k) (by positivity)
  have hhi := Int.lt_mul_ediv_self_add (x := d + 2 ^ (k - 1)) (k := 2 ^ k) (by positivity)
  have hnonneg : 0 ≤ (d + 2 ^ (k - 1)) / 2 ^ k := Int.ediv_nonneg (by omega) (by positivity)
  refine ⟨hlo, by linarith, hnonneg, ?_⟩
  by_contra hgt
  nlinarith

/-- The step leads from the level toward the mean, and not beyond it. -/
theorem filterStep_between (k : Nat) (d : Int) :
    (0 ≤ d → 0 ≤ filterStep k d ∧ filterStep k d ≤ d) ∧ (d ≤ 0 → d ≤ filterStep k d ∧ filterStep k d ≤ 0) := by
  rcases Nat.eq_zero_or_pos k with rfl | hk
  · simp [filterStep]
  · refine ⟨fun h => (filterStep_bounds hk h).2.2, fun h => ?_⟩
    obtain ⟨-, -, h1, h2⟩ := filterStep_bounds hk (show 0 ≤ -d by omega)
    rw [filterStep_neg] at h1 h2
    omega

/-- Between two levels of the range the filter stays in it. -/
theorem filterStep_range (k : Nat) {value mean : Int} (hm : -560 ≤ mean ∧ mean ≤ -160)
    (hv : -8960 ≤ value ∧ value ≤ -2560) :
    -8960 ≤ value + filterStep k (16 * mean - value) ∧ value + filterStep k (16 * mean - value) ≤ -2560 := by
  obtain ⟨hup, hdown⟩ := filterStep_between k (16 * mean - value)
  rcases le_total 0 (16 * mean - value) with h | h
  · obtain ⟨h1, h2⟩ := hup h
    omega
  · obtain ⟨h1, h2⟩ := hdown h
    omega

theorem filterUpdate_level_none {r : Cell} (h : r.level = none) (k limit : Nat) (t : Time) (mean : Int) :
    (filterUpdate k limit t mean r).level = some ⟨16 * mean, t⟩ := by simp [filterUpdate, h]

theorem filterUpdate_level_some {r : Cell} {l : Level} (h : r.level = some l) (k limit : Nat) (t : Time) (mean : Int) :
    (filterUpdate k limit t mean r).level =
      some ⟨if l.staleAt limit t then 16 * mean else l.value + filterStep k (16 * mean - l.value), t⟩ := by
  simp [filterUpdate, h]

/-! ### The end of a window (R82 to R84) -/

/-- A record's mean is that of the first accumulator of its cell with a counted sample. -/
theorem updateFrom_means (k limit : Nat) (t : Time) (accs : List Accumulator) (r : Cell) :
    updateFrom k limit t (means accs) r =
      match accs.find? fun a => decide (1 ≤ a.n) && decide (a.key = r.key) with
      | none => r
      | some a => filterUpdate k limit t (windowMean a.sum a.n) r := by
  have hfind : (means accs).find? (fun m => decide (m.1 = r.key))
      = (accs.find? fun a => decide (1 ≤ a.n) && decide (a.key = r.key)).map fun a => (a.key, windowMean a.sum a.n) := by
    rw [means, List.find?_map, List.find?_filter]
    simp only [Bool.decide_and, Bool.decide_eq_true, Function.comp_apply]
  rw [updateFrom, hfind]
  cases accs.find? fun a => decide (1 ≤ a.n) && decide (a.key = r.key) <;> rfl

theorem anyUpdated_iff (slots : List (Option Cell)) (accs : List Accumulator) : anyUpdated slots (means accs) = true ↔
    ∃ r, some r ∈ slots ∧ ∃ a ∈ accs, 1 ≤ a.n ∧ a.key = r.key := by
  constructor
  · intro h
    obtain ⟨r, hr, hm⟩ := List.any_eq_true.mp h
    obtain ⟨o, ho, rfl⟩ : ∃ o ∈ slots, o = some r := by simpa using hr
    exact ⟨r, ho, by simpa [means] using hm⟩
  · rintro ⟨r, hr, a, ha, hn, hkey⟩
    refine List.any_eq_true.mpr ⟨r, by simpa using hr, List.any_eq_true.mpr ⟨(a.key, windowMean a.sum a.n), ?_, by simpa using hkey⟩⟩
    simpa [means] using ⟨a, ⟨ha, hn⟩, rfl, rfl⟩

theorem closeView_open (e : Env) (t : Time) {c : Core} {v : MsuView} (h : c.msu.view = some v) : closeView e t c =
    if anyUpdated (c.cells v.owner).slots (means v.accs) then
      evaluateHandover e v.owner (foldMeans v.owner t (means v.accs) { c with msu := { c.msu with view := none } })
    else foldMeans v.owner t (means v.accs) { c with msu := { c.msu with view := none } } := by
  simp [closeView, h]

/-! ### The bars (R87) -/

theorem bars_none {e : Env} {c : Core} {x : Sub} (h : servingCell (c.cells x).slots = none) : bars e c x = 0 := by
  simp [bars, h]

theorem bars_empty {e : Env} {c : Core} {x : Sub} {r : Cell} (h : servingCell (c.cells x).slots = some r)
    (hl : r.level = none) : bars e c x = 0 := by simp [bars, h, hl]

theorem bars_valid {e : Env} {c : Core} {x : Sub} {r : Cell} {l : Level} (h : servingCell (c.cells x).slots = some r)
    (hl : r.level = some l) :
    bars e c x = if l.staleAt (c.cells x).stale e.count then 0 else barsOfLevel l.value := by simp [bars, h, hl]

theorem barsOfLevel_table (q : Int) : barsOfLevel q ≤ 5 ∧ (5 ≤ barsOfLevel q ↔ -5440 ≤ q)
    ∧ (4 ≤ barsOfLevel q ↔ -6080 ≤ q) ∧ (3 ≤ barsOfLevel q ↔ -6720 ≤ q) ∧ (2 ≤ barsOfLevel q ↔ -7168 ≤ q)
    ∧ (1 ≤ barsOfLevel q ↔ -7680 ≤ q) := by
  unfold barsOfLevel
  split_ifs <;> omega

/-- Settles O46. -/
theorem levelArithmetic : Obligations.LevelArithmetic := by
  unfold Obligations.LevelArithmetic
  refine ⟨fun sum n hn => ⟨(windowMean_bounds sum hn).1, (windowMean_bounds sum hn).2, windowMean_range hn⟩, fun _ => rfl,
    fun k d hk => ⟨filterStep_bounds hk, filterStep_neg k d⟩, fun k limit t mean r lo hi => ⟨rfl,
      fun h => filterUpdate_level_none h k limit t mean, fun l hl => ⟨fun stale => ?_, fun fresh => ⟨?_, fun h1 h2 =>
        filterStep_range k ⟨lo, hi⟩ ⟨h1, h2⟩⟩⟩⟩, fun e t c => ⟨fun h => ?_, fun v table folded hv ht hf => ?_⟩,
    fun e c x => ⟨bars_none, fun r hr => ⟨bars_empty hr, fun l hl => ⟨fun stale => ?_, fun fresh => ?_⟩⟩⟩⟩
  · rw [filterUpdate_level_some hl, stale]
    rfl
  · rw [filterUpdate_level_some hl, fresh]
    rfl
  · simp [closeView, h]
  · have hfold : foldMeans v.owner t (means v.accs) { c with msu := { c.msu with view := none } } = folded := by
      subst hf ht
      unfold foldMeans
      rw [funext (updateFrom_means _ _ t v.accs)]
      rfl
    rw [closeView_open e t hv, hfold, ← ht]
    refine ⟨fun hsome => if_pos ((anyUpdated_iff _ _).mpr hsome), fun hnone => if_neg fun h => ?_⟩
    obtain ⟨r, hr, a, ha, hn, hkey⟩ := (anyUpdated_iff _ _).mp h
    exact hnone r hr a ha hn hkey
  · rw [bars_valid hr hl, stale]
    rfl
  · rw [bars_valid hr hl, fresh]
    exact barsOfLevel_table l.value

end Sys2Proof.Machine

/-! PROOFS. The Handover Evaluator: its requests and its event, and how an evaluation goes (R93 to R109). -/

namespace Sys2Proof.Machine

theorem exec_runs {c : Instr} {f : State → State} {s : State} (h : eventOf c = some f)
    (running : s.env.load.phase ≠ .notBegun) : exec c s = .next (f s) := by
  rw [exec_event h, onEvent_runs running]

@[simp] theorem restartMonitor_voiceSession (port : Port) (s : State) :
    (restartMonitor port s).core.voiceSession = s.core.voiceSession := by simp [Core.voiceSession]

/-! ### SERVING_SET, HANDOVER_DONE, HANDOVER_SET, HOLD_EXPIRY (R93, R100, R104, R107 to R109) -/

theorem badShift_iff (offset : Half) : badShift offset = true ↔ offset.toInt < -2048 ∨ 2047 < offset.toInt := by
  simp [badShift]

theorem activeCall_iff (c : Core) (x : Sub) : activeCall c x = true ↔
    ∃ n v, c.voiceSession = some (n, v) ∧ n.owner = x ∧ v.traffic ≠ none := by
  unfold activeCall
  cases c.voiceSession with
  | none => simp
  | some p =>
    obtain ⟨n, v⟩ := p
    simp [Option.isSome_iff_ne_none]

theorem clearTrigger_eq (x : Sub) (c : Core) : clearTrigger x c = { c with
    msu := { c.msu with tables := c.msu.tables.set x { c.msu.tables.get x with
      slots := (c.msu.tables.get x).slots.map (Option.map fun r => { r with entry := none, reported := false }) } }
    hoe := c.hoe.set x { c.hoe.get x with weak := .clear } } := rfl

theorem Pair.set_set {α : Type} (p : Pair α) (x : Sub) (a b : α) : (p.set x a).set x b = p.set x b := by
  cases x <;> rfl

theorem completeHandover_eq (e : Env) (x : Sub) (offset : Time) (c : Core) : completeHandover e x offset c =
    rebaseCall e x offset { clearTrigger x c with
      hoe := c.hoe.set x { c.hoe.get x with
        weak := .clear
        holdEnd := if (c.hoe.get x).holdTime = 0 then none else some (e.count + tu (c.hoe.get x).holdTime) } } := by
  simp [completeHandover, clearTrigger_eq, Core.setHoe, holdOf, Pair.set_set]

theorem rebaseCall_idle {e : Env} {x : Sub} {offset : Time} {c : Core} (h : offset = 0 ∨ c.voiceSession = none) :
    rebaseCall e x offset c = c := by
  unfold rebaseCall
  split
  · rfl
  · rename_i n v hv
    split
    · rfl
    · rw [if_neg]
      rintro ⟨-, hne⟩
      rcases h with h | h
      · exact hne h
      · simp [h] at hv

/-- A call of the other subscription, and one in SETUP, are not rebased. -/
theorem rebaseCall_other {e : Env} {x : Sub} {offset : Time} {c : Core} {n : Session} {v : Voice}
    (hv : c.voiceSession = some (n, v)) (h : n.owner ≠ x ∨ v.traffic = none) : rebaseCall e x offset c = c := by
  unfold rebaseCall
  simp only [hv]
  split
  · rfl
  · rename_i tr htr
    rw [if_neg]
    rintro ⟨ho, -⟩
    rcases h with h | h
    · exact h ho
    · simp [h] at htr

theorem rebaseCall_live {e : Env} {x : Sub} {offset : Time} {c : Core} {n : Session} {v : Voice} {tr : Traffic}
    (hv : c.voiceSession = some (n, v)) (ho : n.owner = x) (htr : v.traffic = some tr) (hne : offset ≠ 0) :
    rebaseCall e x offset c = match tr.record with
      | none => c.setTraffic n.handle { tr with anchor := tr.anchor + offset }
      | some h => shiftCadence e h offset (c.setTraffic n.handle { tr with anchor := tr.anchor + offset }) := by
  cases hr : tr.record with
  | none => simp only [rebaseCall, hv, htr, hr, if_pos (And.intro ho hne)]
  | some h => simp only [rebaseCall, hv, htr, hr, if_pos (And.intro ho hne)]

/-- While a hold end is present an evaluation changes nothing. -/
theorem evaluateHandover_held {e : Env} {x : Sub} {c : Core} {t : Time} (h : (c.hoe.get x).holdEnd = some t) :
    evaluateHandover e x c = c := by simp [evaluateHandover, h]

/-- Settles O47. -/
theorem handoverCommands : Obligations.HandoverCommands := by
  unfold Obligations.HandoverCommands
  refine ⟨fun x seq key c ch s s1 acts hs1 hkey hmake => ⟨?_, fun offset hlo hhi => ⟨fun hin => ?_, fun hout => ?_⟩⟩,
    fun x seq hysteresis ttt weak hold h s s1 acts hs1 hh => ?_, fun x seq key offset s s1 acts hs1 => ⟨fun hkey => ?_,
    fun bad => ?_⟩, activeCall_iff, ⟨rfl, fun _ => rfl⟩, fun x s running => ⟨fun t ht hreached => ?_, fun hno => ?_⟩,
    fun e x c t => evaluateHandover_held, fun e x offset c cleared hc => ⟨?_, ?_⟩, fun e x offset c => ⟨rebaseCall_idle,
    fun n v hv => ⟨rebaseCall_other hv, fun tr ho htr hne => ⟨fun hrec => ?_, fun h hrec => ?_⟩⟩⟩⟩
  · subst hs1
    refine takeRequest_stack_accept acts ?_
    simp only [badKey_false hkey, Bool.false_eq_true, if_false, restartMonitor_env, hmake]
    cases hi : ch.inserted <;> simp [servingTaken, servingBytes, bytes8, yesNo, keyOrNone, hi]
  · subst hs1
    refine takeRequest_stack_accept acts ?_
    have hshift : badShift offset = false := by simp [badShift, hlo, hhi]
    simp [badKey_false hkey, hshift, hin, hmake, bytes8, keyOrNone, activeCall]
  · subst hs1
    refine takeRequest_stack_refuse acts ?_
    have hshift : badShift offset = false := by simp [badShift, hlo, hhi]
    simp [badKey_false hkey, hshift, hout]
  · subst hs1
    have htaken : takenParameters (s.core.hoe.get x) hysteresis ttt weak hold = h := by
      rw [hh]
      simp [takenParameters, clamp, clampInt]
    refine takeRequest_stack_accept acts ?_
    simp only [restartMonitor_hoe, htaken]
    cases hw : h.weak <;> simp [parameterBytes, bytes8, nat32, signed16, hw, WeakState.code, Core.setHoe]
  · subst hs1
    refine takeRequest_stack_refuse acts ?_
    simp [badKey_true hkey]
  · subst hs1
    refine takeRequest_stack_refuse acts ?_
    have hbad : (badKey key || badShift offset) = true := by
      rw [Bool.or_eq_true, badShift_iff]
      exact bad.imp_left badKey_true
    simp [hbad]
  · rw [exec_runs rfl running]
    simp [takeHoldExpiry, ht, reachedOpt, reached, hreached, Core.setHoe]
  · rw [exec_runs rfl running]
    rcases hno with h | ⟨t, h, hnot⟩
    · simp [takeHoldExpiry, h, reachedOpt]
    · simp [takeHoldExpiry, h, reachedOpt, reached, hnot]
  · rw [hc, clearTrigger_eq]
  · rw [completeHandover_eq, hc, clearTrigger_eq]
  · simp only [rebaseCall_live hv ho htr hne, hrec]
  · simp only [rebaseCall_live hv ho htr hne, hrec]

/-! ### The conditions (R95 to R97) -/

theorem passed_now (now : Time) (n : Nat) : passed now now n = decide (n = 0) := by
  simp [passed, atOrAfter]

theorem passed_iff (now t : Time) (n : Nat) :
    passed now t n = true ↔ atOrAfter now t = true ∧ n ≤ (now - t).toNat := by simp only [passed, Bool.and_eq_true, decide_eq_true_eq]

theorem servingReference_iff (e : Env) (c : Core) (x : Sub) (key : CellKey) (q : Int) :
    servingReference e c x = some (key, q) ↔
      ∃ r l, servingCell (c.cells x).slots = some r ∧ r.key = key ∧ r.level = some l
        ∧ l.staleAt (c.cells x).stale e.count = false ∧ l.value = q := by
  unfold servingReference
  cases servingCell (c.cells x).slots with
  | none => simp
  | some r =>
    cases hl : r.level with
    | none => simp [hl]
    | some l =>
      by_cases hs : l.staleAt (c.cells x).stale e.count = true
      · simp [hl, hs]
      · simp [hl, hs]

theorem resetTiming_eq (x : Sub) (c : Core) : resetTiming x c =
    let reset : Core := { c with msu := { c.msu with tables := c.msu.tables.set x { c.cells x with
      slots := (c.cells x).slots.map (Option.map fun r => { r with entry := none, reported := false }) } } }
    match (c.hoe.get x).weak with
    | .pending _ => { reset with hoe := c.hoe.set x { c.hoe.get x with weak := .clear } }
    | _ => reset := by
  simp only [resetTiming]
  rfl

/-- A slot of a NEIGHBOUR without a usable level loses its timing. -/
theorem judgeSlot_unusable {e : Env} {x : Sub} {p : Hoe} {limit : Nat} {q : Int} {r : Cell} (hr : r.role = .neighbour)
    (h : r.level = none ∨ r.barred = true ∨ ∃ l, r.level = some l ∧ l.staleAt limit e.count = true) :
    judgeSlot e x p limit q r = ({ r with entry := none, reported := false }, []) := by
  have huntimed : ({ r with entry := none, reported := false } : Cell) = r.untimed := rfl
  rw [huntimed]
  cases hl : r.level with
  | none => simp only [judgeSlot, hr, hl]
  | some l =>
    have hbad : (!l.staleAt limit e.count && !r.barred) = false := by
      rcases h with h | h | ⟨m, hm, h⟩
      · simp [hl] at h
      · simp [h]
      · obtain rfl := Option.some.inj (hl.symm.trans hm)
        simp [h]
    simp only [judgeSlot, hr, hl, hbad, Bool.false_eq_true, if_false]

theorem judgeSlot_usable {e : Env} {x : Sub} {p : Hoe} {limit : Nat} {q : Int} {r r' : Cell} {l : Level} {told : Bool}
    (hr : r.role = .neighbour) (hl : r.level = some l) (hb : r.barred = false) (hs : l.staleAt limit e.count = false)
    (hj : judgeBetter e.count p.ttt (32 * p.hysteresis) (l.value + 32 * r.offset - q) r = (r', told)) :
    judgeSlot e x p limit q r = (r', if told = true then
      [⟨.hoCandidate, .cell x r.key, e.count, BitVec.ofInt 16 (l.value + 32 * r.offset), BitVec.ofInt 16 q⟩] else []) := by
  cases told <;> simp [judgeSlot, hr, hl, hb, hs, rankValue, hj, Event.now, signed16]

/-- Settles O49. -/
theorem conditionsJudged : Obligations.ConditionsJudged := by
  unfold Obligations.ConditionsJudged
  refine ⟨fun now ttt threshold q => ⟨fun h => ?_, fun h h1 => ?_, fun h h0 => ?_, fun entry => ⟨fun h => ⟨?_, ?_⟩,
      fun h => ⟨?_, fun hr ht => ?_, fun hr ht => ?_⟩⟩⟩,
    fun now ttt h diff r => ⟨fun hentry => ⟨fun hd => ?_, fun hd h1 => ?_, fun hd h0 => ?_⟩, fun entry hentry =>
      ⟨fun hd => ?_, fun hd => ⟨fun hrep => ?_, fun hrep hr ht => ?_, fun hrep hr ht => ?_⟩⟩⟩,
    servingReference_iff, fun e x c hhold => ⟨fun hnone => ?_, fun key q weak kind slots evs href hw hj => ?_⟩,
    fun x c reset hreset => ⟨fun entry hw => ?_, fun hw => ?_⟩, fun e x p limit q rest after evs h => ⟨rfl, ?_,
      fun r r' ev hr => ?_⟩,
    fun e x p limit q r => ⟨fun hr => ?_, fun hr => ⟨judgeSlot_unusable hr, fun l r' told => judgeSlot_usable hr⟩⟩⟩
  · simp [judgeWeak, not_lt.mpr h]
  · simp [judgeWeak, h, passed_now, show ttt ≠ 0 by omega]
  · simp [judgeWeak, h, passed_now, h0]
  · simp [judgeWeak, h]
  · simp [judgeWeak, h]
  · simp [judgeWeak, not_le.mpr h]
  · simp [judgeWeak, not_le.mpr h, (passed_iff now entry ttt).mpr ⟨hr, ht⟩]
  · have hp : ¬ passed now entry ttt = true := fun hp => absurd ((passed_iff now entry ttt).mp hp).2 (not_le.mpr ht)
    simp [judgeWeak, not_le.mpr h, hp]
  · simp [judgeBetter, hentry, not_lt.mpr hd]
  · simp [judgeBetter, hentry, hd, passed_now, show ttt ≠ 0 by omega]
  · simp [judgeBetter, hentry, hd, passed_now, h0]
  · simp [judgeBetter, hentry, hd]
  · simp [judgeBetter, hentry, not_le.mpr hd, hrep]
  · simp [judgeBetter, hentry, not_le.mpr hd, hrep, (passed_iff now entry ttt).mpr ⟨hr, ht⟩]
  · have hp : ¬ passed now entry ttt = true := fun hp => absurd ((passed_iff now entry ttt).mp hp).2 (not_le.mpr ht)
    simp [judgeBetter, hentry, not_le.mpr hd, hp]
  · simp [evaluateHandover, hhold, hnone]
  · simp only [evaluateHandover, hhold, href, hw, hj]
    cases kind <;> rfl
  · rw [resetTiming_eq, hreset, hw]
  · rw [resetTiming_eq, hreset]
    cases hc : (c.hoe.get x).weak with
    | pending entry => exact absurd hc (hw entry)
    | _ => rfl
  · simp [judgeSlots, h]
  · simp [judgeSlots, h, hr]
  · simp [judgeSlot, hr]

end Sys2Proof.Machine

/-! PROOFS. The serving mechanism: which slot the named key takes, what is evicted for it, and what every record keeps (R71,
R73, R74, R103). -/

namespace Sys2Proof.Machine

/-! ### Slots -/

theorem cellAt_mapCells (slots : List (Option Cell)) (f : Cell → Cell) (i : Nat) :
    cellAt (mapCells slots f) i = (cellAt slots i).map f := by
  simp only [cellAt, mapCells, List.getElem?_map]
  rcases slots[i]? with _ | _ | r <;> rfl

theorem length_mapCells (slots : List (Option Cell)) (f : Cell → Cell) : (mapCells slots f).length = slots.length := by
  simp [mapCells]

theorem mem_mapCells {slots : List (Option Cell)} {f : Cell → Cell} {r : Cell} :
    some r ∈ mapCells slots f ↔ ∃ q, some q ∈ slots ∧ f q = r := by simp [mapCells]

theorem slotOf_mapCells (slots : List (Option Cell)) {f : Cell → Cell} (hf : ∀ r, (f r).key = r.key) (key : CellKey) :
    slotOf (mapCells slots f) key = slotOf slots key := by
  rw [slotOf, mapCells, List.findIdx?_map, slotOf]
  congr
  funext o
  cases o <;> simp [hf]

theorem freeSlot_mapCells (slots : List (Option Cell)) (f : Cell → Cell) : freeSlot (mapCells slots f) = freeSlot slots := by
  rw [freeSlot, mapCells, List.findIdx?_map, freeSlot]
  congr
  funext o
  cases o <;> rfl

theorem slotOf_none_iff {slots : List (Option Cell)} {key : CellKey} :
    slotOf slots key = none ↔ ∀ r, some r ∈ slots → r.key ≠ key := by
  rw [slotOf, List.findIdx?_eq_none_iff]
  constructor
  · intro h r hr
    simpa using h _ hr
  · intro h o ho
    cases o with
    | none => rfl
    | some r => simpa using h r ho

/-- A key that has a slot has its record there. -/
theorem cellAt_slotOf {slots : List (Option Cell)} {key : CellKey} {i : Nat} (h : slotOf slots key = some i) :
    ∃ r, cellAt slots i = some r ∧ r.key = key := by
  obtain ⟨hlt, hkey, -⟩ := List.findIdx?_eq_some_iff_getElem.mp h
  cases hr : slots[i] with
  | none => simp [hr] at hkey
  | some r => exact ⟨r, by simp [cellAt, List.getElem?_eq_getElem hlt, hr], by simpa [hr] using hkey⟩

theorem mem_of_cellAt {slots : List (Option Cell)} {i : Nat} {r : Cell} (h : cellAt slots i = some r) : some r ∈ slots :=
  List.mem_of_getElem? (i := i) (Option.join_eq_some_iff.mp h)

theorem cellAt_of_getElem {slots : List (Option Cell)} {i : Nat} {r : Cell} (h : slots[i]? = some (some r)) :
    cellAt slots i = some r := by simp [cellAt, h]

theorem cellAt_set_self {slots : List (Option Cell)} {i : Nat} (h : i < slots.length) (o : Option Cell) :
    cellAt (slots.set i o) i = o := by simp [cellAt, h]

theorem cellAt_set_ne {slots : List (Option Cell)} {i j : Nat} (h : i ≠ j) (o : Option Cell) :
    cellAt (slots.set i o) j = cellAt slots j := by simp [cellAt, h]

theorem freeSlot_lt {slots : List (Option Cell)} {i : Nat} (h : freeSlot slots = some i) : i < slots.length :=
  (List.findIdx?_eq_some_iff_getElem.mp h).1

theorem freeSlot_of_first {slots : List (Option Cell)} {i : Nat} (here : slots[i]? = some none)
    (below : ∀ j, j < i → ∃ r, cellAt slots j = some r) : freeSlot slots = some i := by
  obtain ⟨hlt, hi⟩ := List.getElem?_eq_some_iff.mp here
  refine List.findIdx?_eq_some_iff_getElem.mpr ⟨hlt, by simp [hi], fun j hj => ?_⟩
  obtain ⟨r, hr⟩ := below j hj
  have hjr : slots[j]? = some (some r) := Option.join_eq_some_iff.mp hr
  rw [List.getElem?_eq_getElem (by omega)] at hjr
  simp [Option.some.inj hjr]

theorem freeSlot_none {slots : List (Option Cell)} (h : freeSlot slots = none) {i : Nat} (hi : i < slots.length) :
    ∃ r, cellAt slots i = some r := by
  have := List.findIdx?_eq_none_iff.mp h slots[i] (List.getElem_mem hi)
  cases hr : slots[i] with
  | none => simp [hr] at this
  | some r => exact ⟨r, by simp [cellAt, List.getElem?_eq_getElem hi, hr]⟩

/-! ### What the mechanism does to the slots -/

/-- Step 1 for one record. -/
def demoted (key : CellKey) (r : Cell) : Cell := if r.key = key then r else { r with role := .neighbour }

/-- The key's record made SERVING. -/
def promoted (key : CellKey) (r : Cell) : Cell := if r.key = key then { r with role := .serving } else r

theorem demoteOthers_eq (key : CellKey) (slots : List (Option Cell)) :
    demoteOthers key slots = mapCells slots (demoted key) := rfl

@[simp] theorem demoted_key (key : CellKey) (r : Cell) : (demoted key r).key = r.key := by
  unfold demoted
  split <;> rfl

@[simp] theorem promoted_key (key : CellKey) (r : Cell) : (promoted key r).key = r.key := by
  unfold promoted
  split <;> rfl

/-- The fields that the serving mechanism leaves every record. -/
def Cell.sameRecord (r q : Cell) : Prop :=
  r.key = q.key ∧ r.level = q.level ∧ r.updates = q.updates ∧ r.offset = q.offset ∧ r.barred = q.barred

theorem demoted_sameRecord (key : CellKey) (r : Cell) : (demoted key r).sameRecord r := by
  unfold demoted
  split <;> exact ⟨rfl, rfl, rfl, rfl, rfl⟩

theorem promoted_sameRecord (key : CellKey) (r : Cell) : (promoted key r).sameRecord r := by
  unfold promoted
  split <;> exact ⟨rfl, rfl, rfl, rfl, rfl⟩

theorem untimed_sameRecord (r : Cell) : r.untimed.sameRecord r := ⟨rfl, rfl, rfl, rfl, rfl⟩

theorem Cell.sameRecord.trans {p q r : Cell} (h : p.sameRecord q) (h' : q.sameRecord r) : p.sameRecord r := by
  obtain ⟨h1, h2, h3, h4, h5⟩ := h
  obtain ⟨g1, g2, g3, g4, g5⟩ := h'
  exact ⟨h1.trans g1, h2.trans g2, h3.trans g3, h4.trans g4, h5.trans g5⟩

/-- The slots after a change of the serving key has cleared the trigger fields. -/
def timingCleared (changed : Bool) (slots : List (Option Cell)) : List (Option Cell) :=
  if changed then mapCells slots Cell.untimed else slots

/-- What clearing the trigger state leaves, when the serving key has changed. -/
def triggerCleared (x : Sub) (changed : Bool) (c : Core) : Core := if changed then clearTrigger x c else c

theorem triggerCleared_slots (x : Sub) (changed : Bool) (c : Core) :
    ((triggerCleared x changed c).cells x).slots = timingCleared changed (c.cells x).slots := by
  cases changed
  · rfl
  · simp [triggerCleared, timingCleared, clearTrigger, Core.cells, Core.setCells]
    rfl

theorem triggerCleared_view (x : Sub) (changed : Bool) (c : Core) :
    (triggerCleared x changed c).msu.view = c.msu.view := by cases changed <;> rfl

theorem triggerCleared_weak (x : Sub) (c : Core) : ((triggerCleared x true c).hoe.get x).weak = .clear := by
  simp [triggerCleared, clearTrigger]

/-- Whether the SERVING key was another. -/
def servingChanged (x : Sub) (key : CellKey) (c : Core) : Bool :=
  decide ((servingCell (c.cells x).slots).map (fun r => r.key) ≠ some key)

theorem setCells_setCells (c : Core) (x : Sub) (t t' : CellTable) : (c.setCells x t).setCells x t' = c.setCells x t' := by
  simp [Core.setCells, Pair.set_set]

theorem discardAccumulator_setCells (x : Sub) (key : CellKey) (c : Core) (t : CellTable) :
    discardAccumulator x key (c.setCells x t) = (discardAccumulator x key c).setCells x t := by
  unfold discardAccumulator
  change (match c.msu.view with
    | none => _
    | some v => _) = _
  cases c.msu.view with
  | none => rfl
  | some v =>
    by_cases ho : v.owner = x
    · simp only [if_pos ho]
      rfl
    · simp only [if_neg ho]

/-- A key that is in the table keeps its slot. -/
theorem makeServing_found {e : Env} {x : Sub} {key : CellKey} {c : Core} {i : Nat}
    (h : slotOf (c.cells x).slots key = some i) : makeServing e x key c =
      (triggerCleared x (servingChanged x key c) (c.setCells x { c.cells x with
        slots := mapCells (mapCells (c.cells x).slots (demoted key)) (promoted key) }),
        ⟨i, false, servingChanged x key c, none⟩) := by
  have hslot : slotOf (demoteOthers key (c.cells x).slots) key = some i := by
    rw [demoteOthers_eq, slotOf_mapCells _ (demoted_key key), h]
  simp only [makeServing, Core.setCells_cells, hslot, setCells_setCells]
  rfl

/-- A key that is not takes the lowest free slot. -/
theorem makeServing_free {e : Env} {x : Sub} {key : CellKey} {c : Core} {i : Nat}
    (h : slotOf (c.cells x).slots key = none) (hf : freeSlot (c.cells x).slots = some i) : makeServing e x key c =
      (triggerCleared x (servingChanged x key c) (c.setCells x { c.cells x with
        slots := (mapCells (c.cells x).slots (demoted key)).set i (some (newCell key .serving 0 false)) }),
        ⟨i, true, servingChanged x key c, none⟩) := by
  have hslot : slotOf (demoteOthers key (c.cells x).slots) key = none := by
    rw [demoteOthers_eq, slotOf_mapCells _ (demoted_key key), h]
  have hfree : freeSlot (demoteOthers key (c.cells x).slots) = some i := by
    rw [demoteOthers_eq, freeSlot_mapCells, hf]
  simp only [makeServing, Core.setCells_cells, hslot, hfree]
  simp only [insertServing, Core.setCells_cells, setCells_setCells]
  rfl

/-- In a full table it takes the slot of the evicted record. -/
theorem makeServing_evict {e : Env} {x : Sub} {key : CellKey} {c : Core} {i : Nat} {r : Cell}
    (h : slotOf (c.cells x).slots key = none) (hf : freeSlot (c.cells x).slots = none)
    (he : evictSlot e.count (mapCells (c.cells x).slots (demoted key)) = some i)
    (hr : cellAt (c.cells x).slots i = some r) : makeServing e x key c =
      (triggerCleared x (servingChanged x key c) ((discardAccumulator x r.key c).setCells x { c.cells x with
        slots := (mapCells (c.cells x).slots (demoted key)).set i (some (newCell key .serving 0 false)) }),
        ⟨i, true, servingChanged x key c, some r.key⟩) := by
  have hslot : slotOf (demoteOthers key (c.cells x).slots) key = none := by
    rw [demoteOthers_eq, slotOf_mapCells _ (demoted_key key), h]
  have hfree : freeSlot (demoteOthers key (c.cells x).slots) = none := by
    rw [demoteOthers_eq, freeSlot_mapCells, hf]
  have hcell : cellAt (demoteOthers key (c.cells x).slots) i = some (demoted key r) := by
    rw [demoteOthers_eq, cellAt_mapCells, hr]
    rfl
  rw [← demoteOthers_eq] at he
  simp only [makeServing, Core.setCells_cells, hslot, hfree, he, hcell, Option.map_some, demoted_key, removeCell,
    discardAccumulator_setCells, insertServing, setCells_setCells, List.set_set]
  rfl

/-! ### Which record is evicted (R1, R73) -/

/-- How far before now a level was last updated, in the half range. -/
def age (now : Time) (p : Nat × Time) : Int := (now - p.2).toInt

/-- The walk over the VALID neighbours ends at the one updated furthest before now, the lowest slot among equals. -/
theorem foldl_older {now : Time} {m : Nat × Time} (ps : List (Nat × Time)) (p : Nat × Time)
    (sorted : (p :: ps).Pairwise fun a b => a.1 < b.1) (mem : m ∈ p :: ps)
    (most : ∀ q ∈ p :: ps, age now q ≤ age now m ∧ (q.1 < m.1 → age now q < age now m)) : ps.foldl (older now) p = m := by
  induction ps generalizing p with
  | nil => simpa [eq_comm] using mem
  | cons q qs ih =>
    obtain ⟨hp, hrest⟩ := List.pairwise_cons.mp sorted
    obtain ⟨hq, hqs⟩ := List.pairwise_cons.mp hrest
    have hpq : p.1 < q.1 := hp q (by simp)
    have hmost : ∀ r ∈ qs, age now r ≤ age now m ∧ (r.1 < m.1 → age now r < age now m) := fun r hr =>
      most r (by simp [hr])
    rw [List.foldl_cons]
    by_cases hold : age now p < age now q
    · have hstep : older now p q = q := if_pos hold
      rw [hstep]
      refine ih q hrest ?_ fun r hr => most r (List.mem_cons_of_mem _ hr)
      rcases List.mem_cons.mp mem with rfl | hm
      · exact absurd hold (not_lt.mpr (most q (by simp)).1)
      · exact hm
    · have hstep : older now p q = p := if_neg hold
      rw [hstep]
      refine ih p (List.pairwise_cons.mpr ⟨fun r hr => hp r (by simp [hr]), hqs⟩) ?_ fun r hr => ?_
      · rcases List.mem_cons.mp mem with rfl | hm
        · simp
        · rcases List.mem_cons.mp hm with rfl | hm
          · exact absurd ((most p (by simp)).2 hpq) hold
          · simp [hm]
      · rcases List.mem_cons.mp hr with rfl | hr
        · exact most r (by simp)
        · exact hmost r hr

/-- The neighbour slots of a table whose every slot holds a neighbour. -/
theorem neighbourSlots_full {slots : List (Option Cell)} (cell : Nat → Cell)
    (full : ∀ i, i < slots.length → cellAt slots i = some (cell i)) (role : ∀ i, i < slots.length → (cell i).role = .neighbour) :
    neighbourSlots slots = (List.range slots.length).map fun i => (i, cell i) := by
  rw [neighbourSlots, ← List.filterMap_eq_map]
  refine List.filterMap_congr fun i hi => ?_
  have hlt := List.mem_range.mp hi
  simp [full i hlt, role i hlt]

/-- The slot evicted from a table full of neighbours. -/
theorem evictSlot_full {now : Time} {slots : List (Option Cell)} (cell : Nat → Cell)
    (full : ∀ i, i < slots.length → cellAt slots i = some (cell i)) (role : ∀ i, i < slots.length → (cell i).role = .neighbour)
    {i : Nat} (hi : i < slots.length)
    (choice : ((cell i).level = none ∧ ∀ j, j < i → (cell j).level ≠ none)
      ∨ ∃ l, (cell i).level = some l ∧ ∀ j, j < slots.length → ∃ m, (cell j).level = some m
        ∧ (now - m.updated).toInt ≤ (now - l.updated).toInt
        ∧ (j < i → (now - m.updated).toInt < (now - l.updated).toInt)) : evictSlot now slots = some i := by
  have hslots := neighbourSlots_full cell full role
  have hfind : (neighbourSlots slots).find? (fun p => p.2.level.isNone)
      = ((List.range slots.length).find? fun j => (cell j).level.isNone).map fun j => (j, cell j) := by
    rw [hslots, List.find?_map]
    rfl
  rcases choice with ⟨hempty, hbelow⟩ | ⟨l, hl, hmost⟩
  · have : (List.range slots.length).find? (fun j => (cell j).level.isNone) = some i := by
      rw [List.find?_range_eq_some]
      exact ⟨by simp [hempty], List.mem_range.mpr hi, fun j hj => by simpa [Option.isSome_iff_ne_none] using hbelow j hj⟩
    simp [evictSlot, hfind, this]
  · have : Nonempty Level := ⟨l⟩
    choose! level hlevel hle hlt using hmost
    have hnone : (List.range slots.length).find? (fun j => (cell j).level.isNone) = none := by
      rw [List.find?_eq_none]
      intro j hj
      simp [hlevel j (List.mem_range.mp hj)]
    have hli : level i = l := Option.some.inj ((hlevel i hi).symm.trans hl)
    have hvalid : (neighbourSlots slots).filterMap (fun p => p.2.level.map fun l => (p.1, l.updated))
        = (List.range slots.length).map fun j => (j, (level j).updated) := by
      rw [hslots, List.filterMap_map, ← List.filterMap_eq_map]
      refine List.filterMap_congr fun j hj => ?_
      simp [hlevel j (List.mem_range.mp hj)]
    have hsorted : ((List.range slots.length).map fun j => (j, (level j).updated)).Pairwise fun a b => a.1 < b.1 := by
      rw [List.pairwise_map]
      exact List.pairwise_lt_range
    have hmem : (i, l.updated) ∈ (List.range slots.length).map fun j => (j, (level j).updated) :=
      List.mem_map.mpr ⟨i, List.mem_range.mpr hi, by rw [hli]⟩
    have hall : ∀ q ∈ (List.range slots.length).map (fun j => (j, (level j).updated)),
        age now q ≤ age now (i, l.updated) ∧ (q.1 < i → age now q < age now (i, l.updated)) := by
      intro q hq
      obtain ⟨j, hj, rfl⟩ := List.mem_map.mp hq
      exact ⟨hle j (List.mem_range.mp hj), hlt j (List.mem_range.mp hj)⟩
    rw [evictSlot, hfind, hnone, hvalid]
    generalize (List.range slots.length).map (fun j => (j, (level j).updated)) = ps at hsorted hmem hall
    cases ps with
    | nil => simp at hmem
    | cons p ps => simp [foldl_older ps p hsorted hmem hall]

/-- A full table has a slot to evict. -/
theorem evictSlot_isSome {now : Time} {slots : List (Option Cell)} (h : neighbourSlots slots ≠ []) :
    ∃ i r, evictSlot now slots = some i ∧ cellAt slots i = some r := by
  have hmem : ∀ p ∈ neighbourSlots slots, cellAt slots p.1 = some p.2 := by
    intro p hp
    obtain ⟨i, -, hi⟩ := List.mem_filterMap.mp hp
    split at hi
    · split at hi
      · cases hi
        assumption
      · cases hi
    · cases hi
  cases hfind : (neighbourSlots slots).find? fun p => p.2.level.isNone with
  | some p => exact ⟨p.1, p.2, by simp [evictSlot, hfind], hmem p (List.mem_of_find?_eq_some hfind)⟩
  | none =>
    have hvalid : ∀ p ∈ neighbourSlots slots, p.2.level.isSome = true := by
      simpa [Option.isSome_iff_ne_none] using hfind
    have hfold : ∀ (ps : List (Nat × Time)) p, ps.foldl (older now) p ∈ p :: ps := by
      intro ps
      induction ps with
      | nil => simp
      | cons q qs ih =>
        intro p
        rw [List.foldl_cons]
        have hstep : older now p q = p ∨ older now p q = q := by
          unfold older
          split <;> simp
        rcases hstep with h | h <;> rw [h]
        · rcases List.mem_cons.mp (ih p) with hm | hm
          · rw [hm]; simp
          · simp [hm]
        · exact List.mem_cons_of_mem _ (ih q)
    cases hl : (neighbourSlots slots).filterMap fun p => p.2.level.map fun l => (p.1, l.updated) with
    | nil =>
      obtain ⟨p, hp⟩ := List.exists_mem_of_ne_nil _ h
      have hnone : p.2.level = none := Option.map_eq_none_iff.mp (List.filterMap_eq_nil_iff.mp hl p hp)
      have := hvalid p hp
      simp [hnone] at this
    | cons q qs =>
      have hq : qs.foldl (older now) q ∈ (neighbourSlots slots).filterMap fun p => p.2.level.map fun l => (p.1, l.updated) :=
        hl ▸ hfold qs q
      obtain ⟨p, hp, hpq⟩ := List.mem_filterMap.mp hq
      obtain ⟨l, -, hpl⟩ := Option.map_eq_some_iff.mp hpq
      refine ⟨(qs.foldl (older now) q).1, p.2, by simp [evictSlot, hfind, hl], ?_⟩
      rw [← hpl]
      exact hmem p hp

/-! ### The mechanism -/

/-- In a table of 12 slots the key takes its own slot, a free one, or that of an evicted record. -/
theorem makeServing_cases (e : Env) (x : Sub) (key : CellKey) {c : Core} (h12 : (c.cells x).slots.length = 12) :
    ∃ i base ch,
      makeServing e x key c = (triggerCleared x (servingChanged x key c) base, ch)
      ∧ ch.slot = i ∧ ch.changed = servingChanged x key c
      ∧ ((ch.inserted = false ∧ slotOf (c.cells x).slots key = some i
          ∧ (base.cells x).slots = mapCells (mapCells (c.cells x).slots (demoted key)) (promoted key))
        ∨ (ch.inserted = true ∧ slotOf (c.cells x).slots key = none ∧ i < 12
          ∧ (base.cells x).slots
            = (mapCells (c.cells x).slots (demoted key)).set i (some (newCell key .serving 0 false)))) := by
  cases hslot : slotOf (c.cells x).slots key with
  | some i => exact ⟨i, _, _, makeServing_found hslot, rfl, rfl, .inl ⟨rfl, rfl, by simp⟩⟩
  | none =>
    cases hfree : freeSlot (c.cells x).slots with
    | some i => exact ⟨i, _, _, makeServing_free hslot hfree, rfl, rfl, .inr ⟨rfl, rfl, h12 ▸ freeSlot_lt hfree, by simp⟩⟩
    | none =>
      obtain ⟨r0, hr0⟩ := freeSlot_none hfree (i := 0) (by omega)
      have hkey := slotOf_none_iff.mp hslot r0 (mem_of_cellAt hr0)
      have hne : neighbourSlots (mapCells (c.cells x).slots (demoted key)) ≠ [] := by
        have hmem : (0, demoted key r0) ∈ neighbourSlots (mapCells (c.cells x).slots (demoted key)) :=
          List.mem_filterMap.mpr ⟨0, by simp [length_mapCells, h12], by simp [cellAt_mapCells, hr0, demoted, hkey]⟩
        exact List.ne_nil_of_mem hmem
      obtain ⟨i, q, he, hq⟩ := evictSlot_isSome (now := e.count) hne
      rw [cellAt_mapCells] at hq
      obtain ⟨r, hr, -⟩ := Option.map_eq_some_iff.mp hq
      have hlt : i < 12 := by
        obtain ⟨hlt, -⟩ := List.getElem?_eq_some_iff.mp (Option.join_eq_some_iff.mp hr)
        omega
      exact ⟨i, _, _, makeServing_evict hslot hfree he hr, rfl, rfl, .inr ⟨rfl, rfl, hlt, by simp⟩⟩

/-- Before the trigger state is cleared, the key's record is SERVING and no other is. -/
theorem serving_of_found {slots : List (Option Cell)} {key : CellKey} {r : Cell}
    (h : some r ∈ mapCells (mapCells slots (demoted key)) (promoted key)) : r.role = .serving ↔ r.key = key := by
  obtain ⟨q, hq, rfl⟩ := mem_mapCells.mp h
  obtain ⟨p, -, rfl⟩ := mem_mapCells.mp hq
  by_cases hk : p.key = key <;> simp [demoted, promoted, hk]

theorem serving_of_inserted {slots : List (Option Cell)} {key : CellKey} (hnone : slotOf slots key = none) {i : Nat} {r : Cell}
    (h : some r ∈ (mapCells slots (demoted key)).set i (some (newCell key .serving 0 false))) :
    r.role = .serving ↔ r.key = key := by
  rcases List.mem_or_eq_of_mem_set h with h | h
  · obtain ⟨p, hp, rfl⟩ := mem_mapCells.mp h
    have hk := slotOf_none_iff.mp hnone p hp
    simp [demoted, hk]
  · obtain rfl := Option.some.inj h
    simp [newCell]

theorem mem_timingCleared {changed : Bool} {slots : List (Option Cell)} {r : Cell} (h : some r ∈ timingCleared changed slots) :
    ∃ q, some q ∈ slots ∧ r.key = q.key ∧ r.role = q.role ∧ (changed = true → r.entry = none ∧ r.reported = false) := by
  cases changed
  · exact ⟨r, h, rfl, rfl, by simp⟩
  · obtain ⟨q, hq, rfl⟩ := mem_mapCells.mp h
    exact ⟨q, hq, rfl, rfl, fun _ => ⟨rfl, rfl⟩⟩

theorem cellAt_timingCleared (changed : Bool) (slots : List (Option Cell)) (i : Nat) :
    cellAt (timingCleared changed slots) i = (cellAt slots i).map fun r => if changed then r.untimed else r := by
  cases changed
  · simp [timingCleared]
  · simp [timingCleared, cellAt_mapCells]

theorem cellAt_timingCleared_new {changed : Bool} {slots : List (Option Cell)} {i : Nat} {key : CellKey}
    (h : cellAt slots i = some (newCell key .serving 0 false)) :
    cellAt (timingCleared changed slots) i = some ⟨key, .serving, 0, false, none, 0, none, false⟩ := by
  rw [cellAt_timingCleared, h]
  cases changed <;> rfl

/-- A record of the table that takes the key as the one SERVING key is its SERVING record. -/
theorem servingCell_of_iff {slots : List (Option Cell)} {key : CellKey} (hmem : ∃ r, some r ∈ slots ∧ r.key = key)
    (hiff : ∀ r, some r ∈ slots → (r.role = .serving ↔ r.key = key)) :
    ∃ r, servingCell slots = some r ∧ r.key = key := by
  obtain ⟨r, hr, hk⟩ := hmem
  have hsome : (servingCell slots).isSome = true := by
    rw [servingCell, List.find?_isSome]
    exact ⟨r, by simpa using hr, by simpa using (hiff r hr).mpr hk⟩
  obtain ⟨q, hq⟩ := Option.isSome_iff_exists.mp hsome
  have hqmem : some q ∈ slots := by simpa using List.mem_of_find?_eq_some hq
  exact ⟨q, hq, (hiff q hqmem).mp (by simpa using List.find?_some hq)⟩

/-- Settles O48. -/
theorem servingMechanism : Obligations.ServingMechanism := by
  unfold Obligations.ServingMechanism
  refine ⟨fun e x key c t ch h12 hmake => ?_, fun e x key c t ch hmake => ⟨fun i hi => ?_, fun i hi here below => ?_⟩,
    fun e x key c t ch slots i q hmake hslots full hq choice => ?_⟩
  · obtain ⟨i, base, ch', heq, hslot, hchanged, hcase⟩ := makeServing_cases e x key h12
    obtain ⟨rfl, rfl⟩ := Prod.mk.inj (heq.symm.trans hmake)
    have hiff : ∀ r, some r ∈ (base.cells x).slots → (r.role = .serving ↔ r.key = key) := by
      rcases hcase with ⟨-, -, hb⟩ | ⟨-, hnone, -, hb⟩ <;> rw [hb]
      · exact fun r => serving_of_found
      · exact fun r => serving_of_inserted hnone
    have hmem : ∃ r, cellAt (base.cells x).slots i = some r ∧ r.key = key := by
      rcases hcase with ⟨-, hfound, hb⟩ | ⟨-, -, hlt, hb⟩ <;> rw [hb]
      · obtain ⟨r, hr, hk⟩ := cellAt_slotOf hfound
        exact ⟨promoted key (demoted key r), by simp [cellAt_mapCells, hr], by simp [hk]⟩
      · exact ⟨_, cellAt_set_self (by rw [length_mapCells]; omega) _, rfl⟩
    have hlen : (base.cells x).slots.length = 12 := by
      rcases hcase with ⟨-, -, hb⟩ | ⟨-, -, -, hb⟩ <;> simp [hb, length_mapCells, h12]
    have hiff' : ∀ r, some r ∈ timingCleared (servingChanged x key c) (base.cells x).slots →
        (r.role = .serving ↔ r.key = key) := by
      intro r hr
      obtain ⟨p, hp, hk, hrole, -⟩ := mem_timingCleared hr
      rw [hk, hrole]
      exact hiff p hp
    rw [triggerCleared_slots]
    refine ⟨?_, ?_, hiff', hchanged, fun h => ⟨?_, fun r hr => ?_⟩, fun j p hp hkept => ?_⟩
    · cases servingChanged x key c <;> simp [timingCleared, length_mapCells, hlen]
    · obtain ⟨r, hr, hk⟩ := hmem
      refine servingCell_of_iff ⟨if servingChanged x key c then r.untimed else r, ?_, ?_⟩ hiff'
      · exact mem_of_cellAt (i := i) (by rw [cellAt_timingCleared, hr]; rfl)
      · split <;> simpa [Cell.untimed] using hk
    · rw [← hchanged, h]
      exact triggerCleared_weak x base
    · obtain ⟨p, -, -, -, htime⟩ := mem_timingCleared hr
      exact htime (hchanged ▸ h)
    · have hbase : ∃ r, cellAt (base.cells x).slots j = some r ∧ r.sameRecord p := by
        rcases hcase with ⟨-, -, hb⟩ | ⟨hins, -, -, hb⟩ <;> rw [hb]
        · exact ⟨promoted key (demoted key p), by simp [cellAt_mapCells, hp],
            (promoted_sameRecord key _).trans (demoted_sameRecord key p)⟩
        · have hne : i ≠ j := by
            rcases hkept with h | h
            · simp [hins] at h
            · rw [hslot] at h
              exact Ne.symm h
          exact ⟨demoted key p, by simp [cellAt_set_ne hne, cellAt_mapCells, hp], demoted_sameRecord key p⟩
      obtain ⟨r, hr, hsame⟩ := hbase
      refine ⟨if servingChanged x key c then r.untimed else r, by rw [cellAt_timingCleared, hr]; rfl, ?_⟩
      cases servingChanged x key c
      · exact hsame
      · exact (untimed_sameRecord r).trans hsame
  · rw [makeServing_found hi] at hmake
    obtain ⟨rfl, rfl⟩ := Prod.mk.inj hmake
    exact ⟨rfl, rfl, rfl, by rw [triggerCleared_view]; rfl⟩
  · have hfree := freeSlot_of_first here below
    rw [makeServing_free hi hfree] at hmake
    obtain ⟨rfl, rfl⟩ := Prod.mk.inj hmake
    refine ⟨rfl, rfl, rfl, by rw [triggerCleared_view]; rfl, ?_⟩
    rw [triggerCleared_slots, Core.setCells_cells]
    exact cellAt_timingCleared_new (cellAt_set_self (by rw [length_mapCells]; exact freeSlot_lt hfree) _)
  · subst hslots
    have hnone : slotOf (c.cells x).slots key = none := by
      rw [slotOf_none_iff]
      intro r hr
      obtain ⟨r', h', hk⟩ := full _ hr
      obtain rfl := Option.some.inj h'
      exact hk
    have hfree : freeSlot (c.cells x).slots = none := by
      rw [freeSlot, List.findIdx?_eq_none_iff]
      intro o ho
      obtain ⟨r, rfl, -⟩ := full o ho
      rfl
    obtain ⟨hlt, hqi⟩ := List.getElem?_eq_some_iff.mp hq
    have hcell : ∀ j, j < (c.cells x).slots.length →
        cellAt (c.cells x).slots j = some ((cellAt (c.cells x).slots j).getD q) := by
      intro j hj
      obtain ⟨r, hr⟩ := freeSlot_none hfree hj
      rw [hr]
      rfl
    have hget : ∀ j r, (c.cells x).slots[j]? = some (some r) → (cellAt (c.cells x).slots j).getD q = r := by
      intro j r hr
      rw [cellAt_of_getElem hr]
      rfl
    have hsome : ∀ j, j < (c.cells x).slots.length →
        (c.cells x).slots[j]? = some (some ((cellAt (c.cells x).slots j).getD q)) := fun j hj =>
      Option.join_eq_some_iff.mp (hcell j hj)
    have hdem : ∀ r : Cell, r.key ≠ key → (demoted key r).role = .neighbour ∧ (demoted key r).level = r.level := by
      intro r hk
      simp [demoted, hk]
    have hne : ∀ j, j < (c.cells x).slots.length → ((cellAt (c.cells x).slots j).getD q).key ≠ key := fun j hj =>
      slotOf_none_iff.mp hnone _ (mem_of_cellAt (hcell j hj))
    have hevict : evictSlot e.count (mapCells (c.cells x).slots (demoted key)) = some i := by
      refine evictSlot_full (fun j => demoted key ((cellAt (c.cells x).slots j).getD q)) (fun j hj => ?_) (fun j hj => ?_)
        (by rw [length_mapCells]; exact hlt) ?_
      · rw [length_mapCells] at hj
        rw [cellAt_mapCells, hcell j hj]
        simp
      · rw [length_mapCells] at hj
        exact (hdem _ (hne j hj)).1
      · simp only [hget i q hq, length_mapCells, (hdem q (hget i q hq ▸ hne i hlt)).2]
        rcases choice with ⟨hempty, hbelow⟩ | ⟨l, hl, hmost⟩
        · refine .inl ⟨hempty, fun j hj => ?_⟩
          rw [(hdem _ (hne j (by omega))).2]
          exact hbelow j _ hj (hsome j (by omega))
        · refine .inr ⟨l, hl, fun j hj => ?_⟩
          rw [(hdem _ (hne j hj)).2]
          exact hmost j _ (hsome j hj)
    rw [makeServing_evict hnone hfree hevict (cellAt_of_getElem hq)] at hmake
    obtain ⟨rfl, rfl⟩ := Prod.mk.inj hmake
    refine ⟨rfl, rfl, rfl, ?_, ?_⟩
    · rw [triggerCleared_slots, Core.setCells_cells]
      exact cellAt_timingCleared_new (cellAt_set_self (by rw [length_mapCells]; exact hlt) _)
    · rw [triggerCleared_view]
      change (discardAccumulator x q.key c).msu.view = _
      unfold discardAccumulator
      cases hv : c.msu.view with
      | none => simp [hv]
      | some v => by_cases ho : v.owner = x <;> simp [ho, hv]

end Sys2Proof.Machine

/-! PROOFS. The Coverage Search Controller: its requests and events, and the ladder (R110 to R123). -/

namespace Sys2Proof.Machine

/-! ### The ladder (R111 to R119) -/

/-- The search record and the core after an attempt has begun. -/
theorem beginAttempt_created {e : Env} {x : Sub} {attempt : Nat} {desired : Time} {c d : Core} {h : Handle} {start : Time}
    (hc : createRecord e (newRecord x .search desired 3200 (attemptLength (c.csc.get x).coverage)
      (c.csc.get x).planFrequency (c.csc.get x).planBand) c = (d, .created h start)) :
    beginAttempt e x attempt desired c = (post e (.stack x)
      ⟨.searchWindow, .reservation x h, start, value16 (c.csc.get x).coverage.code, value16 attempt⟩
      (d.setSearch x { c.csc.get x with attempt := attempt, phase := .placed h }), some (h, start)) := by
  simp only [beginAttempt, hc]

theorem beginAttempt_unplaced {e : Env} {x : Sub} {attempt : Nat} {desired : Time} {c d : Core} {made : Creation}
    (hc : createRecord e (newRecord x .search desired 3200 (attemptLength (c.csc.get x).coverage)
      (c.csc.get x).planFrequency (c.csc.get x).planBand) c = (d, made)) (hm : ∀ h start, made ≠ .created h start) :
    beginAttempt e x attempt desired c
      = (d.setSearch x { c.csc.get x with attempt := attempt, phase := .unplaced desired }, none) := by
  cases made with
  | created h start => exact absurd rfl (hm h start)
  | _ => simp only [beginAttempt, hc]

theorem setCoverage_same {e : Env} {x : Sub} {cov : Coverage} {cause : CoverageCause} {c : Core}
    (h : (c.csc.get x).coverage = cov) : setCoverage e x cov cause c = c := by simp [setCoverage, h]

theorem setCoverage_other {e : Env} {x : Sub} {cov : Coverage} {cause : CoverageCause} {c : Core}
    (h : (c.csc.get x).coverage ≠ cov) : setCoverage e x cov cause c =
      lookAgain e x (post e .app ⟨.coverage, .subscription x, e.count, value16 cov.code, value16 cause.code⟩
        (c.setSearch x { c.csc.get x with coverage := cov })) := by
  simp only [setCoverage, if_neg h]
  rfl

theorem countAttempt_eq (e : Env) (x : Sub) (reference : Time) (c : Core) : countAttempt e x reference c =
    match nextStage (c.csc.get x).coverage (c.csc.get x).attempt with
    | some stage => (beginAttempt e x 1 (laterStart e stage reference) (setCoverage e x stage .stageLimit c)).1
    | none => (beginAttempt e x (min 65535 ((c.csc.get x).attempt + 1))
        (laterStart e (c.csc.get x).coverage reference) c).1 := rfl

/-- A search sample is the attempt's best one when it is the first or stronger than the best so far. -/
theorem searchSample_better {x : Sub} {key : CellKey} {level : Int} {c : Core} {h : Handle}
    {best : Option (CellKey × Int)} {n : Nat} (hp : (c.csc.get x).phase = .listening h best n)
    (hb : ∀ k l, best = some (k, l) → l < level) :
    (searchSample x key level c).csc = c.csc.set x { c.csc.get x with
      phase := .listening h (some (key, level)) (min 32767 (n + 1)) } := by
  rcases best with _ | ⟨k, l⟩
  · simp only [searchSample, hp, saturate]
  · simp only [searchSample, hp, saturate, if_pos (hb k l rfl)]

theorem searchSample_weaker {x : Sub} {key : CellKey} {level : Int} {c : Core} {h : Handle} {k : CellKey} {l : Int}
    {n : Nat} (hp : (c.csc.get x).phase = .listening h (some (k, l)) n) (hle : level ≤ l) :
    (searchSample x key level c).csc = c.csc.set x { c.csc.get x with
      phase := .listening h (some (k, l)) (min 32767 (n + 1)) } := by
  simp only [searchSample, hp, saturate, if_neg (not_lt.mpr hle)]

theorem removeAttempt_withdraw {e : Env} {x : Sub} {reported : Bool} {c : Core} {h : Handle} {r : Reservation}
    (hp : (c.csc.get x).phase = .placed h ∨ ∃ best n, (c.csc.get x).phase = .listening h best n)
    (hr : c.reservation h = some r) : removeAttempt e x reported c = withdrawRecord e .withdrawn reported r
      (c.setSearch x { c.csc.get x with phase := .idle, late := false }) := by
  have hr' : (c.setSearch x { c.csc.get x with phase := .idle, late := false }).reservation h = some r := hr
  rcases hp with hp | ⟨best, n, hp⟩ <;> simp only [removeAttempt, hp, hr']

/-- An attempt with no window is only removed. -/
theorem removeAttempt_idle {e : Env} {x : Sub} {reported : Bool} {c : Core} (hp : (c.csc.get x).phase = .idle
      ∨ (∃ d u, (c.csc.get x).phase = .awaiting d u) ∨ ∃ u, (c.csc.get x).phase = .unplaced u) :
    removeAttempt e x reported c = c.setSearch x { c.csc.get x with phase := .idle, late := false } := by
  rcases hp with hp | ⟨d, u, hp⟩ | ⟨u, hp⟩ <;> simp only [removeAttempt, hp]

theorem searchEnded_listening {e : Env} {r : Reservation} {c : Core} {best : Option (CellKey × Int)} {n : Nat}
    (hp : (c.csc.get r.owner).phase = .listening r.handle best n) : searchEnded e r c =
      post e (.stack r.owner)
        ⟨.searchReport, bestSubject r.owner best, r.endTime, signed16 (bestLevel best), value16 n⟩
        (c.setSearch r.owner
          { c.csc.get r.owner with phase := .awaiting (r.endTime + tu 32000) r.endTime, late := false }) := by
  simp only [searchEnded, hp, if_true]

/-- The end of another window is no end of the attempt's. -/
theorem searchEnded_other {e : Env} {r : Reservation} {c : Core}
    (hp : ∀ best n, (c.csc.get r.owner).phase ≠ .listening r.handle best n) : searchEnded e r c = c := by
  unfold searchEnded
  split
  · rename_i h best n hph
    rw [if_neg]
    rintro rfl
    exact hp best n hph
  · rfl

theorem attemptLost_placed {e : Env} {x : Sub} {h : Handle} {reference : Time} {c : Core}
    (hp : (c.csc.get x).phase = .placed h) :
    attemptLost e x h reference c = countAttempt e x reference (reportNoWindow e x c) := by
  simp only [attemptLost, hp, if_true]

theorem attemptLost_other {e : Env} {x : Sub} {h : Handle} {reference : Time} {c : Core}
    (hp : (c.csc.get x).phase ≠ .placed h) : attemptLost e x h reference c = c := by
  unfold attemptLost
  split
  · rename_i h' hph
    rw [if_neg]
    rintro rfl
    exact hp hph
  · rfl

theorem reportNoWindow_eq (e : Env) (x : Sub) (c : Core) :
    reportNoWindow e x c = post e (.stack x) ⟨.searchReport, .none, e.count, 0, -1⟩ c := rfl

/-- Settles O51. -/
theorem searchLadder : Obligations.SearchLadder := by
  unfold Obligations.SearchLadder
  refine ⟨fun _ => rfl, fun _ => rfl, fun _ => rfl, fun e => ⟨rfl, rfl, fun h => if_pos h, fun h => if_neg h⟩, rfl, rfl, rfl,
    fun x key level c h best n hp => ?_, fun e x attempt desired c r hr => ⟨fun d h start hc => ?_, fun d made hc hm => ?_⟩,
    fun _ _ _ => rfl, fun e x reference c => ⟨fun stage hs => ?_, fun hs => ?_⟩, fun e x cov cause c =>
      ⟨setCoverage_same, setCoverage_other⟩, fun e x reported c idle hidle => ⟨fun h r hp hr => ?_, fun hp => ?_⟩,
    fun e r c best n ends hp hends => ?_, fun e r c => searchEnded_other, fun e x h reference c =>
      ⟨attemptLost_placed, attemptLost_other⟩⟩
  · rcases best with _ | ⟨k, l⟩
    · exact ⟨(key, level), searchSample_better hp (by simp), fun _ => rfl, by simp⟩
    · by_cases hlt : l < level
      · exact ⟨(key, level), searchSample_better hp (by simpa using hlt), by simp, by simp [hlt]⟩
      · exact ⟨(k, l), searchSample_weaker hp (not_lt.mp hlt), by simp, by simp; omega⟩
  · subst hr
    exact beginAttempt_created hc
  · subst hr
    exact beginAttempt_unplaced hc hm
  · rw [countAttempt_eq, hs]
    rfl
  · rw [countAttempt_eq, hs]
    rfl
  · subst hidle
    exact removeAttempt_withdraw hp hr
  · subst hidle
    exact removeAttempt_idle hp
  · subst hends
    rw [searchEnded_listening hp]
    rcases best with _ | ⟨k, l⟩ <;> rfl

/-! ### SERVICE_LOST, SEARCH_RESULT, SEARCH_PLAN, SEARCH_RESTART and the times (R116 to R123) -/

theorem searchVerdict_bad {result : Byte} (h : 1 < result.toNat) : searchVerdict result = none := by
  have h0 : result ≠ 0 := by rintro rfl; simp at h
  have h1 : result ≠ 1 := by rintro rfl; simp at h
  rw [searchVerdict, if_neg h0, if_neg h1]

theorem ofByte_none {b : Byte} (h : 1 < b.toNat) : Sub.ofByte b = none := (actsFor_app_none b).mpr h

theorem searchVerdict_taken {result : Byte} {key : CellKey}
    (h : result = 1 ∨ (result = 0 ∧ key.identity.toNat ≤ 1023)) :
    ∃ found, searchVerdict result = some found ∧ (found && badKey key) = false := by
  rcases h with rfl | ⟨rfl, hkey⟩
  · exact ⟨false, rfl, rfl⟩
  · exact ⟨true, rfl, badKey_false hkey⟩

theorem searching_cases (cov : Coverage) :
    (cov.searching = true ↔ cov = .near ∨ cov = .wide ∨ cov = .dormant)
    ∧ (cov.searching = false ↔ cov = .noCell ∨ cov = .inService) := by
  cases cov <;> simp [Coverage.searching]

/-- Settles O50. -/
theorem searchCommands : Obligations.SearchCommands := by
  unfold Obligations.SearchCommands
  refine ⟨fun x seq s s1 acts hs1 => ⟨fun hcov => ?_, fun c made hcov hfirst => ?_, fun key deadline reference hp =>
      ⟨fun hkey c ch hmake => ?_, fun t ht => ?_⟩, fun key result hp hr => ?_, fun frequency band hband => ?_⟩,
    fun seq sub x s ready hsub hatt => ⟨fun c made hcov hrestart => ?_, fun hcov => ?_⟩, fun _ _ _ => rfl,
    fun cov => ⟨rfl, fun h start => ?_⟩, ⟨rfl, rfl, rfl, rfl, rfl⟩, fun ch => ?_,
    fun x seq s s1 acts hs1 => ⟨fun key result bad => ?_, fun frequency band hband => ?_⟩,
    fun seq sub s ready => ⟨fun bad => ?_, fun x hsub hatt => ?_⟩, fun x s running => ⟨fun deadline reference hp hr => ?_,
      fun due hp hr => ?_⟩⟩
  · subst hs1
    refine takeRequest_stack_accept acts ?_
    simp [(searching_cases _).1.mpr hcov]
  · subst hs1
    refine takeRequest_stack_accept acts ?_
    simp [(searching_cases _).2.mpr hcov, hfirst]
  · subst hs1
    refine takeRequest_stack_accept acts ?_
    simp only [show searchVerdict 0 = some true from rfl, badKey_false hkey, Bool.and_false, Bool.false_eq_true, if_false,
      restartMonitor_csc, hp, takeFound, restartMonitor_env, hmake, if_true]
  · subst hs1 ht
    refine takeRequest_stack_accept acts ?_
    simp only [show searchVerdict 1 = some false from rfl, Bool.false_and, Bool.false_eq_true, if_false, restartMonitor_csc,
      hp, bytes8]
  · subst hs1
    obtain ⟨found, hv, hkey⟩ := searchVerdict_taken hr
    refine takeRequest_stack_refuse acts ?_
    simp only [hv, hkey, Bool.false_eq_true, if_false, restartMonitor_csc]
    cases hph : (s.core.csc.get x).phase with
    | awaiting d r => exact absurd hph (hp d r)
    | _ => cases (s.core.csc.get x).late <;> rfl
  · subst hs1
    refine takeRequest_stack_accept acts ?_
    simp [not_lt.mpr hband]
  · refine takeRequest_app_accept ready ?_
    simp [hsub, hatt, hcov, hrestart]
  · refine takeRequest_app_refuse ready ?_
    simp [hsub, hatt, hcov]
  · simp [attemptBytes, orNone, bytes8, bytesHandle]
  · obtain ⟨slot, inserted, changed, evicted⟩ := ch
    cases inserted <;> cases evicted <;> simp [foundBytes, bytes8, keyOrNone, orNone, bytesKey, Coverage.code]
  · subst hs1
    refine takeRequest_stack_refuse acts ?_
    rcases bad with bad | ⟨rfl, bad⟩
    · simp only [searchVerdict_bad bad]
    · simp only [show searchVerdict 0 = some true from rfl, badKey_true bad, Bool.and_true, if_true]
  · subst hs1
    refine takeRequest_stack_refuse acts ?_
    simp [hband]
  · refine takeRequest_app_refuse ready ?_
    simp [ofByte_none bad]
  · refine takeRequest_app_refuse ready ?_
    simp [hsub, hatt]
  · rw [exec_runs rfl running]
    simp [State.react, takeSearchDeadline, hp, reached, hr]
  · rw [exec_runs rfl running]
    simp [State.react, takeSearchDue, hp, reached, hr, reportNoWindow_eq]

end Sys2Proof.Machine

/-! PROOFS. The Power and Sleep Controller: demand and wake times, power-down, sleep entry, and the order of what follows at
the same moment (R155 to R176, R44). -/

namespace Sys2Proof.Machine

/-! ### Work, requests, and what a device's fall leaves -/

theorem replayPending_iff (r : Rcc) (d : Device) : r.replayPending d = true ↔ ∃ q ∈ r.replay, q.device = d := by
  simp [Rcc.replayPending]

/-- A property of a transaction of either queue. -/
theorem any_queue_iff (r : Rcc) (p : Txn → Bool) :
    (r.bridges.a.queue ++ r.bridges.b.queue).any p = true ↔ ∃ x, ∃ t ∈ (r.bridges.get x).queue, p t = true := by
  rw [List.any_append, Bool.or_eq_true, List.any_eq_true, List.any_eq_true]
  constructor
  · rintro (⟨t, ht, hp⟩ | ⟨t, ht, hp⟩)
    · exact ⟨.A, t, ht, hp⟩
    · exact ⟨.B, t, ht, hp⟩
  · rintro ⟨x, t, ht, hp⟩
    cases x
    · exact .inl ⟨t, ht, hp⟩
    · exact .inr ⟨t, ht, hp⟩

theorem holdsWork_iff (r : Rcc) (d : Device) : r.holdsWork d = true ↔
    (∃ q ∈ r.replay, q.device = d) ∨ (∃ x, ∃ t ∈ (r.bridges.get x).queue, t.device = d)
      ∨ (∃ t, r.bus = some t ∧ t.device = d) ∨ r.prep.isSome = true := by
  unfold Rcc.holdsWork
  rw [Bool.or_eq_true, Bool.or_eq_true, Bool.or_eq_true, replayPending_iff, any_queue_iff, or_assoc, or_assoc]
  cases r.bus <;> simp

theorem powerRequest_iff (r : Rcc) (d : Device) : r.powerRequest d = true ↔
    (∃ p, r.prep = some p ∧ d ∈ p.requests)
      ∨ ∃ x, ∃ t ∈ (r.bridges.get x).queue, t.device = d ∧ t.request = true := by
  unfold Rcc.powerRequest
  rw [Bool.or_eq_true, any_queue_iff]
  cases r.prep <;> simp

theorem farEnough_iff (e : Env) (n : Nat) (w : Option Time) : farEnough e n w = true ↔
    ∀ t, w = some t → atOrAfter t e.count = true ∧ n ≤ (t - e.count).toNat := by
  cases w <;> simp [farEnough, passed]

/-- What letting a device fall does, by its power state. -/
theorem fall_cases (e : Env) (c : Core) (d : Device) :
    (∃ t, c.power d = .rising t ∧ fall e c d = c.setPower d (.falling (e.count + tu e.image.offSettle)))
    ∨ (c.power d = .on ∧ fall e c d = leavesOn d (c.setPower d (.falling (e.count + tu e.image.offSettle))))
    ∨ ((c.power d = .off ∨ ∃ t, c.power d = .falling t) ∧ fall e c d = c) := by
  cases h : c.power d with
  | off => exact .inr (.inr ⟨.inl rfl, by rw [fall, h]⟩)
  | rising t => exact .inl ⟨t, rfl, by rw [fall, h]⟩
  | on => exact .inr (.inl ⟨rfl, by rw [fall, h]⟩)
  | falling t => exact .inr (.inr ⟨.inr ⟨t, rfl⟩, by rw [fall, h]⟩)

theorem fall_sleep (e : Env) (c : Core) (d : Device) : (fall e c d).psc.sleep = c.psc.sleep := by
  obtain ⟨t, -, h⟩ | ⟨-, h⟩ | ⟨-, h⟩ := fall_cases e c d <;> rw [h] <;> rfl

theorem fall_evaluate (e : Env) (c : Core) (d : Device) : (fall e c d).evaluate = c.evaluate := by
  obtain ⟨t, -, h⟩ | ⟨-, h⟩ | ⟨-, h⟩ := fall_cases e c d <;> rw [h] <;> rfl

theorem fall_off {e : Env} {c : Core} {d : Device} (h : c.power d = .off) : fall e c d = c := by rw [fall, h]

theorem fall_on {e : Env} {c : Core} {d : Device} (h : c.power d = .on) :
    fall e c d = leavesOn d (c.setPower d (.falling (e.count + tu e.image.offSettle))) := by rw [fall, h]

theorem setPower_other (c : Core) (p : Power) {d f : Device} (h : f ≠ d) : (c.setPower d p).power f = c.power f := by
  rw [Core.power, Core.setPower_power, Quad.get_set, if_neg h]
  rfl

theorem setPower_self (c : Core) (p : Power) (d : Device) : (c.setPower d p).power d = p := Quad.get_set_self ..

/-- A device let fall leaves the others' power states. -/
theorem fall_power_other (e : Env) (c : Core) {d f : Device} (hf : f ≠ d) : (fall e c d).power f = c.power f := by
  obtain ⟨t, -, h⟩ | ⟨-, h⟩ | ⟨-, h⟩ := fall_cases e c d <;> rw [h]
  · exact setPower_other c _ hf
  · exact setPower_other c _ hf

theorem fall_isOffOrFalling (e : Env) (c : Core) (d : Device) : ((fall e c d).power d).isOffOrFalling = true := by
  obtain ⟨t, -, h⟩ | ⟨-, h⟩ | ⟨hp, h⟩ := fall_cases e c d <;> rw [h]
  · rw [setPower_self]
    rfl
  · exact congrArg Power.isOffOrFalling (setPower_self c _ d)
  · obtain hp | ⟨t, hp⟩ := hp <;> rw [hp] <;> rfl

theorem fall_keeps_off (e : Env) (c : Core) (d : Device) {f : Device} (h : (c.power f).isOffOrFalling = true) :
    ((fall e c d).power f).isOffOrFalling = true := by
  by_cases hf : f = d
  · subst hf
    exact fall_isOffOrFalling e c f
  · rwa [fall_power_other e c hf]

theorem foldl_fall_sleep (e : Env) (ds : List Device) (c : Core) :
    (ds.foldl (fall e) c).psc.sleep = c.psc.sleep ∧ (ds.foldl (fall e) c).evaluate = c.evaluate := by
  induction ds generalizing c with
  | nil => exact ⟨rfl, rfl⟩
  | cons d ds ih =>
    obtain ⟨h1, h2⟩ := ih (fall e c d)
    exact ⟨h1.trans (fall_sleep e c d), h2.trans (fall_evaluate e c d)⟩

theorem foldl_fall_keeps (e : Env) (ds : List Device) (c : Core) {f : Device} (h : (c.power f).isOffOrFalling = true) :
    ((ds.foldl (fall e) c).power f).isOffOrFalling = true := by
  induction ds generalizing c with
  | nil => exact h
  | cons d ds ih => exact ih (fall e c d) (fall_keeps_off e c d h)

theorem foldl_fall_mem (e : Env) (ds : List Device) (c : Core) {f : Device} (hf : f ∈ ds) :
    ((ds.foldl (fall e) c).power f).isOffOrFalling = true := by
  induction ds generalizing c with
  | nil => simp at hf
  | cons d ds ih =>
    rcases List.mem_cons.mp hf with rfl | hf
    · exact foldl_fall_keeps e ds _ (fall_isOffOrFalling e c f)
    · exact ih (fall e c d) hf

theorem Device.mem_all (d : Device) : d ∈ Device.all := by cases d <;> decide

/-- After every present device has been let fall, each is OFF or FALLING. -/
theorem fallAll_power (e : Env) (c : Core) {d : Device} (hd : e.has d = true) :
    ((fallAll e c).power d).isOffOrFalling = true :=
  foldl_fall_mem e _ c (by simp [Device.mem_all, hd])

theorem foldl_fall_off {e : Env} {ds : List Device} {c : Core} (h : ∀ d ∈ ds, c.power d = .off) :
    ds.foldl (fall e) c = c := by
  induction ds with
  | nil => rfl
  | cons d ds ih =>
    rw [List.foldl_cons, fall_off (h d (by simp)), ih fun f hf => h f (by simp [hf])]

theorem fallAll_off {e : Env} {c : Core} (h : ∀ d, e.has d = true → c.power d = .off) : fallAll e c = c :=
  foldl_fall_off fun d hd => h d (by simpa [Device.mem_all] using hd)

theorem isOffOrFalling_iff (p : Power) : p.isOffOrFalling = true ↔ p = .off ∨ ∃ f, p = .falling f := by
  cases p <;> simp [Power.isOffOrFalling]

/-! ### Sleep entry (R165 to R167) -/

theorem maySleep_iff (e : Env) (c : Core) : maySleep e c = true ↔
    e.load.phase = .ended ∧ c.psc.sleep = .awake
    ∧ (∀ r ∈ c.tla.table, r.state ≠ .preparing ∧ r.state ≠ .active)
    ∧ (∀ x, (c.bridge x).queue = []) ∧ c.rcc.bus = none
    ∧ (∀ d, e.has d = true → c.rcc.holdsWork d = false)
    ∧ (∀ x, c.attached x = true → c.psc.consent.get x = true)
    ∧ c.psc.stayAwake = false
    ∧ ∀ w, wakeLight e c = some w → atOrAfter w e.count = true ∧ e.image.lightThreshold ≤ (w - e.count).toNat := by
  have hqueues : (∀ x, (c.bridge x).queue = []) ↔ c.rcc.bridges.a.queue = [] ∧ c.rcc.bridges.b.queue = [] :=
    ⟨fun h => ⟨h .A, h .B⟩, fun ⟨ha, hb⟩ x => by cases x <;> assumption⟩
  have hdevices : (∀ d, e.has d = true → c.rcc.holdsWork d = false)
      ↔ (Device.all.all fun d => !e.has d || !c.rcc.holdsWork d) = true := by
    rw [List.all_eq_true]
    refine ⟨fun h d _ => ?_, fun h d hd => ?_⟩
    · by_cases hd : e.has d = true
      · simp [h d hd]
      · simp [hd]
    · simpa [hd] using h d (Device.mem_all d)
  have hstacks : (∀ x, c.attached x = true → c.psc.consent.get x = true)
      ↔ c.consents .A = true ∧ c.consents .B = true := by
    simp only [Core.consents, Bool.or_eq_true, Bool.not_eq_true']
    refine ⟨fun h => ⟨?_, ?_⟩, fun ⟨ha, hb⟩ x hx => ?_⟩
    · cases hat : c.attached .A
      · exact .inl rfl
      · exact .inr (h .A hat)
    · cases hat : c.attached .B
      · exact .inl rfl
      · exact .inr (h .B hat)
    · cases x
      · exact ha.resolve_left (by simp [hx])
      · exact hb.resolve_left (by simp [hx])
  rw [hqueues, hdevices, hstacks, ← farEnough_iff]
  simp only [maySleep, Bool.and_eq_true, decide_eq_true_eq, List.all_eq_true, List.isEmpty_iff, Option.isNone_iff_eq_none,
    Bool.not_eq_true', and_assoc]

theorem chooseTarget_deep {e : Env} {c : Core} (h : e.image.deepAllowed = true ∧ ∀ w, wakeFor e c .deep = some w →
    atOrAfter w e.count = true ∧ e.image.deepThreshold ≤ (w - e.count).toNat) : chooseTarget e c = .deep := by
  obtain ⟨hallowed, hfar⟩ := h
  rw [chooseTarget, hallowed, (farEnough_iff e _ _).mpr hfar]
  rfl

theorem chooseTarget_light {e : Env} {c : Core} (h : ¬(e.image.deepAllowed = true ∧ ∀ w, wakeFor e c .deep = some w →
    atOrAfter w e.count = true ∧ e.image.deepThreshold ≤ (w - e.count).toNat)) : chooseTarget e c = .light := by
  rw [← farEnough_iff, ← Bool.and_eq_true] at h
  rw [chooseTarget, if_neg h]

/-- An evaluation that enters sleep. -/
theorem evaluateSleep_enters {e : Env} {c : Core} (h : maySleep e c = true) :
    evaluateSleep e c = fallAll e { c with
      psc := { c.psc with sleep := .settlingDown (chooseTarget e c) (wakeFor e c (chooseTarget e c)) }
      evaluate := false } := if_pos h

theorem evaluateSleep_stays {e : Env} {c : Core} (h : maySleep e c = false) :
    evaluateSleep e c = { c with evaluate := false } :=
  if_neg (by rw [show maySleep e { c with evaluate := false } = false from h]; simp)

/-! ### What follows at the same moment (R44, R125, R155, R165, R167) -/

theorem settleLoop_run {e : Env} {fuel : Nat} {run : Nat → Core} {n : Nat} (hn : n ≤ fuel)
    (steps : ∀ k, k < n → settleStep e (run k) = some (run (k + 1))) (rests : n = fuel ∨ settleStep e (run n) = none) :
    settleLoop e fuel (run 0) = run n := by
  induction n generalizing fuel run with
  | zero =>
    rcases rests with rfl | h
    · rfl
    · exact settleLoop_rests h fuel
  | succ n ih =>
    obtain ⟨fuel, rfl⟩ : ∃ m, fuel = m + 1 := ⟨fuel - 1, by omega⟩
    rw [settleLoop_step (steps 0 (by omega))]
    exact ih (run := fun k => run (k + 1)) (by omega) (fun k hk => steps (k + 1) (by omega)) (by simpa using rests)

/-- Whether the arbiter has a decision to make rests on the RF Context Controller's record alone. -/
theorem arbitrate_none_of_rcc {e : Env} {c t : Core} (hrcc : t.rcc = c.rcc) (h : arbitrate e c = none) :
    arbitrate e t = none := by
  have hhead : ∀ x, headReady t x = headReady c x := fun x => by simp only [headReady, Core.bridge, hrcc]
  have hstack : chooseStack t = chooseStack c := by
    simp only [chooseStack, releasedReady, seriesBegun, hhead, hrcc]
    rfl
  have hlower : arbitrate.lower e c = none → arbitrate.lower e t = none := by
    unfold arbitrate.lower
    rw [hrcc, hstack]
    cases c.rcc.replay with
    | cons p rest => simp
    | nil =>
      cases chooseStack c with
      | none => simp
      | some x =>
        simp only [hhead]
        cases headReady c x <;> simp
  unfold arbitrate at h ⊢
  rw [hrcc]
  cases hp : c.rcc.prep with
  | none =>
    rw [hp] at h
    exact hlower h
  | some p =>
    rw [hp] at h
    simp only at h ⊢
    by_cases hw : p.writing = true
    · simp [hw] at h
    · rw [if_neg hw] at h ⊢
      exact hlower h

theorem busStep_none_of_rcc {e : Env} {c t : Core} (hrcc : t.rcc = c.rcc) (hpower : t.psc.power = c.psc.power)
    (h : busStep e c = none) : busStep e t = none := by
  have hon : t.isOn = c.isOn := funext fun d => by rw [Core.isOn, Core.isOn, Core.power, Core.power, hpower]
  have harrived : ∀ p, powerArrived p t = powerArrived p c := fun p => by rw [powerArrived, powerArrived, hon]
  unfold busStep at h ⊢
  rw [hrcc]
  cases hbus : c.rcc.bus with
  | some b => rfl
  | none =>
    rw [hbus] at h
    simp only at h ⊢
    cases hp : c.rcc.prep with
    | none =>
      rw [hp] at h
      exact arbitrate_none_of_rcc hrcc h
    | some p =>
      rw [hp] at h
      simp only [harrived] at h ⊢
      split
      · rename_i ha
        simp [ha] at h
      · rename_i ha
        rw [if_neg ha] at h
        exact arbitrate_none_of_rcc hrcc h

/-- Whether a device changes its power state at once rests on the power states and the power requests. -/
theorem powerStep_none_of_rcc {e : Env} {c t : Core} (hrcc : t.rcc = c.rcc) (hpower : t.psc.power = c.psc.power)
    (h : powerStep e c = none) : powerStep e t = none := by
  have hsame : ∀ d, t.power d = c.power d := fun d => by rw [Core.power, Core.power, hpower]
  have hrise : risesNow e t = risesNow e c := funext fun d => by rw [risesNow, risesNow, hsame, hrcc]
  have henter : entersNow e t = entersNow e c := funext fun d => by rw [entersNow, entersNow, hsame]
  have hfall : fallsNow e t = fallsNow e c := funext fun d => by rw [fallsNow, fallsNow, hsame]
  unfold powerStep at h ⊢
  rw [hrise, henter, hfall]
  split at h
  · simp at h
  · split at h
    · simp at h
    · split at h
      · simp at h
      · rfl

theorem sleepStep_other {e : Env} {c : Core} (h : ∀ k w, c.psc.sleep ≠ .settlingDown k w) :
    sleepStep e c = if c.evaluate = true then some (evaluateSleep e c) else none := by
  unfold sleepStep
  split
  · rename_i k w hs
    exact absurd hs (h k w)
  · rfl

theorem sleepStep_allOff {e : Env} {c : Core} {k : Target} {w : Option Time} (hs : c.psc.sleep = .settlingDown k w)
    (h : ∀ d, e.has d = true → c.power d = .off) : sleepStep e c = some (settledDown k w c) := by
  simp [sleepStep, hs, allOff_iff.mpr h]

theorem sleepStep_notOff {e : Env} {c : Core} {k : Target} {w : Option Time} (hs : c.psc.sleep = .settlingDown k w)
    (h : ∃ d, e.has d = true ∧ c.power d ≠ .off) :
    sleepStep e c = if c.evaluate = true then some (evaluateSleep e c) else none := by
  have hoff : allOff e c = false := by
    rw [← Bool.not_eq_true, allOff_iff]
    rintro hall
    obtain ⟨d, hd, hne⟩ := h
    exact hne (hall d hd)
  simp [sleepStep, hs, hoff]

theorem settleStep_sleep {e : Env} {c t : Core} (hp : powerStep e c = none) (hb : busStep e c = none)
    (hs : sleepStep e c = some t) : settleStep e c = some t := by simp [settleStep, hp, hb, hs]

/-- With every device OFF, a sleep entry is followed by the end of settling down. -/
theorem settleStep_enters {e : Env} {c : Core} (hp : powerStep e c = none) (hb : busStep e c = none)
    (htrigger : c.evaluate = true) (hmay : maySleep e c = true) (hoff : ∀ d, e.has d = true → c.power d = .off) :
    ∃ k w t, settleStep e c = some t ∧ t.psc.sleep = .settlingDown k w ∧ settleStep e t = some (settledDown k w t) := by
  obtain ⟨t, ht⟩ : ∃ t : Core, t = { c with
      psc := { c.psc with sleep := .settlingDown (chooseTarget e c) (wakeFor e c (chooseTarget e c)) }
      evaluate := false } := ⟨_, rfl⟩
  have hrcc : t.rcc = c.rcc := by rw [ht]
  have hpower : t.psc.power = c.psc.power := by rw [ht]
  have htoff : ∀ d, e.has d = true → t.power d = .off := fun d hd => by
    simpa [Core.power, hpower] using hoff d hd
  have hsleep : t.psc.sleep = .settlingDown (chooseTarget e c) (wakeFor e c (chooseTarget e c)) := by rw [ht]
  have hawake : c.psc.sleep = .awake := ((maySleep_iff e c).mp hmay).2.1
  refine ⟨chooseTarget e c, wakeFor e c (chooseTarget e c), t, settleStep_sleep hp hb ?_, hsleep,
    settleStep_sleep (powerStep_none_of_rcc hrcc hpower hp) (busStep_none_of_rcc hrcc hpower hb)
      (sleepStep_allOff hsleep htoff)⟩
  rw [sleepStep_other (by simp [hawake]), if_pos htrigger, evaluateSleep_enters hmay, ← ht, fallAll_off htoff]

/-- Settles O60. -/
theorem sleepEntry : Obligations.SleepEntry := by
  unfold Obligations.SleepEntry
  refine ⟨fun s f => ⟨rfl, rfl⟩, fun e run n hn steps rests => settleLoop_run hn steps rests, fun e c =>
      ⟨fun t ht => ?_, fun hp => ⟨fun t ht => ?_, fun hb => ⟨fun t ht => settleStep_sleep hp hb ht, fun hs =>
        ⟨fun n rest hn => ?_, fun hn => ?_⟩⟩⟩⟩,
    fun e c due hdue => ⟨fun h => ?_, fun k w hs => ⟨sleepStep_allOff hs, fun h => ?_⟩⟩,
    fun e c t hp hb htrigger hmay hoff ht => ?_, holdsWork_iff, maySleep_iff,
    fun e c t ht => ⟨?_, fun h => ?_, fun h => ⟨fun hdeep => ?_, fun hlight => ?_, fun d hd => ?_⟩⟩,
    fun w c => ⟨rfl, rfl, rfl, rfl, rfl, rfl⟩⟩
  · simp [settleStep, ht]
  · simp [settleStep, hp, ht]
  · simp [settleStep, hp, hb, hs, noticeStep, hn]
  · simp [settleStep, hp, hb, hs, noticeStep, hn]
  · rw [hdue, sleepStep_other h]
  · rw [hdue, sleepStep_notOff hs h]
  · obtain ⟨k, w, t', ht', hsleep, hnext⟩ := settleStep_enters hp hb htrigger hmay hoff
    obtain rfl := Option.some.inj (ht.symm.trans ht')
    exact ⟨k, w, hsleep, hnext⟩
  · subst ht
    cases h : maySleep e c
    · rw [evaluateSleep_stays h]
    · rw [evaluateSleep_enters h]
      exact (foldl_fall_sleep e _ _).2
  · rw [← ht, evaluateSleep_stays h]
  · rw [← ht, evaluateSleep_enters h, chooseTarget_deep hdeep]
    exact (foldl_fall_sleep e _ _).1
  · rw [← ht, evaluateSleep_enters h, chooseTarget_light hlight]
    exact (foldl_fall_sleep e _ _).1
  · rw [← ht, evaluateSleep_enters h, ← isOffOrFalling_iff]
    exact fallAll_power e _ hd

/-! ### Consent, the hold, demand and wake times (R156, R157, R163, R164, R168, R169) -/

theorem onOff_none {b : Byte} (h : 1 < b.toNat) : onOff b = none := by
  have h0 : b ≠ 0 := by rintro rfl; simp at h
  have h1 : b ≠ 1 := by rintro rfl; simp at h
  rw [onOff, if_neg h0, if_neg h1]

theorem setConsent_eq (x : Sub) (on : Bool) (c : Core) : setConsent x on c = { c with
    psc := { c.psc with consent := c.psc.consent.set x on }
    evaluate := c.evaluate || decide (c.psc.consent.get x ≠ on) } := by
  unfold setConsent
  by_cases h : c.psc.consent.get x = on
  · simp [h]
  · simp [h, Core.trigger]

theorem setHold_eq (on : Bool) (c : Core) : setHold on c = { c with
    psc := { c.psc with stayAwake := on }
    evaluate := c.evaluate || decide (c.psc.stayAwake ≠ on) } := by
  unfold setHold
  by_cases h : c.psc.stayAwake = on
  · simp [h]
  · simp [h, Core.trigger]

theorem requires_iff (k : Class) (d : Device) : k.requires d = true ↔
    k = .access ∨ k = .voice ∨ k = .text ∨ d ≠ .amplifier := by
  cases k <;> simp [Class.requires]

theorem demandTimeOf_eq (e : Env) (c : Core) (d : Device) : demandTimeOf e c d = earliest (c.tla.table.filterMap fun r =>
    if r.state = .granted ∧ (r.cls = .access ∨ r.cls = .voice ∨ r.cls = .text ∨ d ≠ .amplifier)
      then some (r.start - tu (4 + e.image.delays.get d)) else none) := by
  rw [demandTimeOf, grantedLess, List.filterMap_filter]
  congr 2
  funext r
  by_cases hr : r.cls.requires d = true
  · have h := (requires_iff _ _).mp hr
    by_cases hg : r.state = .granted
    · rw [if_pos hr, if_pos hg, if_pos ⟨hg, h⟩]
      rfl
    · rw [if_pos hr, if_neg hg, if_neg fun hc => hg hc.1]
  · rw [if_neg hr, if_neg fun hc => hr ((requires_iff _ _).mpr hc.2)]

theorem reachedOpt_iff (now : Time) (o : Option Time) :
    reachedOpt now o = true ↔ ∃ t, o = some t ∧ atOrAfter now t = true := by
  cases o <;> simp [reachedOpt, reached]

theorem wanted_iff (e : Env) (c : Core) (d : Device) : wanted e c d = true ↔
    (∃ t, demandTimeOf e c d = some t ∧ atOrAfter e.count t = true)
      ∨ (∃ p, c.rcc.prep = some p ∧ d ∈ p.requests)
      ∨ ∃ x, ∃ t ∈ (c.bridge x).queue, t.device = d ∧ t.request = true := by
  rw [wanted, Bool.or_eq_true, reachedOpt_iff, powerRequest_iff]
  rfl

theorem raiseIfWanted_raises {e : Env} {c : Core} {d : Device} (hd : e.has d = true) (hoff : c.power d = .off)
    (hw : wanted e c d = true) : raiseIfWanted e c d = rise e d c := by simp [raiseIfWanted, hd, hoff, hw]

theorem raiseIfWanted_leaves {e : Env} {c : Core} {d : Device}
    (h : e.has d = false ∨ c.power d ≠ .off ∨ wanted e c d = false) : raiseIfWanted e c d = c := by
  rw [raiseIfWanted, if_neg]
  rcases h with h | h | h <;> simp [h]

theorem wakeFor_eq (e : Env) (c : Core) (k : Target) : wakeFor e c k =
    (earliest (c.tla.table.filterMap fun r =>
      if r.state = .granted then some (r.start - tu (leadOf e r.cls)) else none)).map fun t =>
        if k = .deep then t - tu e.image.clockSettle else t := by
  cases k
  · simp [wakeFor, wakeLight, grantedLess]
  · rfl

theorem threshold_eq (e : Env) (k : Target) :
    e.threshold k = if k = .light then e.image.lightThreshold else e.image.deepThreshold := by cases k <;> rfl

theorem reachedOpt_false (now : Time) (o : Option Time) :
    reachedOpt now o = false ↔ ∀ t, o = some t → before now t = true := by
  cases o <;> simp [reachedOpt, reached, before]

theorem recomputeWake_still {e : Env} {c : Core} (h : c.psc.sleep = .awake ∨ ∃ t, c.psc.sleep = .waking t) :
    recomputeWake e c = c := by
  rcases h with h | ⟨t, h⟩ <;> simp [recomputeWake, h]

theorem recomputeWake_settling {e : Env} {c : Core} {k : Target} {w : Option Time}
    (h : c.psc.sleep = .settlingDown k w) : recomputeWake e c =
      if farEnough e (e.threshold k) (wakeFor e c k) = true
        then c.setSleep (.settlingDown k (wakeFor e c k)) else (c.setSleep .awake).trigger := by
  simp only [recomputeWake, h]

theorem recomputeWake_light {e : Env} {c : Core} {w : Option Time} (h : c.psc.sleep = .light w) : recomputeWake e c =
    if reachedOpt e.count (wakeFor e c .light) = true then c.setSleep .awake
      else c.setSleep (.light (wakeFor e c .light)) := by
  simp only [recomputeWake, h]
  rfl

theorem recomputeWake_deep {e : Env} {c : Core} {w : Option Time} (h : c.psc.sleep = .deep w) : recomputeWake e c =
    if reachedOpt e.count (wakeFor e c .deep) = true then beginWaking e c
      else c.setSleep (.deep (wakeFor e c .deep)) := by
  simp only [recomputeWake, h]
  rfl

/-! ### The lead of a class (R164) -/

theorem foldl_max_ge (l : List Nat) (n : Nat) : n ≤ l.foldl max n ∧ ∀ m ∈ l, m ≤ l.foldl max n := by
  induction l generalizing n with
  | nil => simp
  | cons a l ih =>
    obtain ⟨h1, h2⟩ := ih (max n a)
    refine ⟨by simp only [List.foldl_cons]; omega, fun m hm => ?_⟩
    rcases List.mem_cons.mp hm with rfl | hm
    · simp only [List.foldl_cons]
      omega
    · exact h2 m hm

theorem foldl_max_mem (l : List Nat) (n : Nat) : l.foldl max n = n ∨ l.foldl max n ∈ l := by
  induction l generalizing n with
  | nil => simp
  | cons a l ih =>
    rcases ih (max n a) with h | h
    · rw [List.foldl_cons, h]
      rcases Nat.le_total n a with hle | hle
      · exact .inr (by simp [Nat.max_eq_right hle])
      · exact .inl (Nat.max_eq_left hle)
    · exact .inr (List.mem_cons_of_mem _ h)

theorem delay_le_leadOf {e : Env} {k : Class} {d : Device} (hd : e.has d = true) (hk : k.requires d = true) :
    4 + e.image.delays.get d ≤ leadOf e k := by
  have hmem : e.delay d ∈ (Device.all.filter fun d => e.has d && k.requires d).map e.delay :=
    List.mem_map_of_mem (by simp [Device.mem_all, hd, hk])
  have := (foldl_max_ge _ 0).2 _ hmem
  simp only [leadOf, Config.guardGap, Env.delay] at this ⊢
  omega

theorem leadOf_attained (e : Env) (k : Class) : leadOf e k = 4
    ∨ ∃ d, e.has d = true ∧ k.requires d = true ∧ leadOf e k = 4 + e.image.delays.get d := by
  rcases foldl_max_mem ((Device.all.filter fun d => e.has d && k.requires d).map e.delay) 0 with h | h
  · exact .inl (by rw [leadOf, h]; rfl)
  · obtain ⟨d, hd, heq⟩ := List.mem_map.mp h
    obtain ⟨-, hd⟩ := List.mem_filter.mp hd
    obtain ⟨hhas, hreq⟩ := Bool.and_eq_true_iff.mp hd
    exact .inr ⟨d, hhas, hreq, by rw [leadOf, ← heq]; rfl⟩

/-! ### The power-down check (R158) -/

theorem neededSoon_false (e : Env) (c : Core) (d : Device) : neededSoon e c d = false ↔
    ∀ r ∈ c.tla.table, r.state = .granted → r.cls.requires d = true →
      atOrAfter r.start (e.count + tu (4 + e.image.offSettle + e.image.delays.get d)) = true := by
  simp [neededSoon, before, Config.guardGap, Env.delay]

theorem powerDownCheck_iff (e : Env) (c : Core) (d : Device) :
    (e.has d && c.isOn d && c.rcc.view.isNone && !c.rcc.holdsWork d && !neededSoon e c d) = true ↔
      e.has d = true ∧ c.power d = .on
      ∧ c.rcc.view = none ∧ c.rcc.prep = none ∧ (∀ q ∈ c.rcc.replay, q.device ≠ d) ∧ (∀ t ∈ c.rcc.bus, t.device ≠ d)
      ∧ (∀ x, ∀ t ∈ (c.bridge x).queue, t.device ≠ d)
      ∧ ∀ r ∈ c.tla.table, r.state = .granted → r.cls.requires d = true →
        atOrAfter r.start (e.count + tu (4 + e.image.offSettle + e.image.delays.get d)) = true := by
  have hwork : c.rcc.holdsWork d = false ↔ c.rcc.prep = none ∧ (∀ q ∈ c.rcc.replay, q.device ≠ d)
      ∧ (∀ t ∈ c.rcc.bus, t.device ≠ d) ∧ ∀ x, ∀ t ∈ (c.bridge x).queue, t.device ≠ d := by
    rw [← Bool.not_eq_true, holdsWork_iff]
    simp only [not_or, not_exists, not_and, Core.bridge, Option.mem_def, ne_eq, Option.isSome_iff_ne_none, not_not]
    tauto
  rw [← neededSoon_false, Bool.and_eq_true, Bool.and_eq_true, Bool.and_eq_true, Bool.and_eq_true, Bool.not_eq_true',
    Bool.not_eq_true', hwork, Option.isNone_iff_eq_none, Core.isOn, decide_eq_true_eq]
  tauto

/-! ### The triggers of the sleep entry evaluation (R165) -/

theorem endPreparation_evaluate {e : Env} {p : Prep} {c : Core} (h : ∀ r ∈ c.reservation p.handle, r.waiting = false) :
    (endPreparation e p c).evaluate = true := by
  have hedit := editReservation_same { c with rcc := { c.rcc with prep := none } } p.handle
    (fun r => { r with prepared := some (isRetune c p), staged := [] }) fun _ => rfl
  simp only [endPreparation]
  split
  · rfl
  · rename_i r hr
    obtain ⟨q, hq, rfl⟩ := Option.map_eq_some_iff.mp (hedit.symm.trans hr)
    rw [if_neg (by simp [h q hq])]
    rfl

theorem completeHead_evaluate {e : Env} {x : Sub} {outcome : Nat} {read : Option Half} {c : Core}
    (h : (c.bridge x).queue ≠ []) : (completeHead e x outcome read c).evaluate = true := by
  unfold completeHead
  split
  · exact absurd ‹_› h
  · rfl

theorem emptyQueue_evaluate {port : Port} {c : Core} (h : (c.pif.get port).events ≠ []) :
    (emptyQueue port c).evaluate = true := by
  rw [emptyQueue, if_neg (by simpa using h)]
  rcases port with x | _ <;> rfl

/-- Settles O56. -/
theorem powerRequests : Obligations.PowerRequests := by
  unfold Obligations.PowerRequests
  refine ⟨fun x seq consent on s s1 acts hs1 => ⟨fun hon => ?_, fun bad => ?_⟩,
    fun seq hold on s ready => ⟨fun hon => ?_, fun bad => ?_⟩,
    ⟨rfl, fun t ts => ⟨fun h => by simp [earliest, h], fun u h => by simp [earliest, h]⟩⟩,
    fun e c d => ⟨demandTimeOf_eq e c d, wanted_iff e c d⟩,
    fun e c d => ⟨fun hd hoff hw => raiseIfWanted_raises hd hoff hw, raiseIfWanted_leaves⟩, fun _ _ => rfl, wakeFor_eq,
    fun e c => ⟨recomputeWake_still, fun k w hs => ⟨fun hfar => ?_, fun hnear => ?_⟩, fun w hs => ⟨fun hr => ?_, fun hn => ?_⟩,
      fun w hs => ⟨fun hr => ?_, fun hn => ?_⟩⟩,
    requires_iff, fun e k => ⟨fun d => delay_le_leadOf, leadOf_attained e k⟩, fun _ _ => rfl,
    fun e c d goes hgoes => ⟨fun h => ?_, fun h => ?_⟩,
    fun e c => ⟨fun _ _ _ => rfl, fun p => endPreparation_evaluate, fun h => rfl, fun x outcome read => completeHead_evaluate,
      fun b hb => ?_, fun port => emptyQueue_evaluate, fun was => rfl⟩⟩
  · subst hs1
    refine takeRequest_stack_accept acts ?_
    simp only [hon, setConsent_eq]
  · subst hs1
    refine takeRequest_stack_refuse acts ?_
    simp only [onOff_none bad]
  · refine takeRequest_app_accept ready ?_
    simp only [hon, setHold_eq]
    rfl
  · refine takeRequest_app_refuse ready ?_
    simp only [onOff_none bad]
  · rw [recomputeWake_settling hs, if_pos ((farEnough_iff ..).mpr (by rwa [threshold_eq]))]
    rfl
  · rw [recomputeWake_settling hs, if_neg (by rwa [farEnough_iff, threshold_eq])]
    rfl
  · rw [recomputeWake_light hs, if_pos ((reachedOpt_iff ..).mpr hr)]
    rfl
  · rw [recomputeWake_light hs, (reachedOpt_false ..).mpr hn]
    rfl
  · rw [recomputeWake_deep hs, if_pos ((reachedOpt_iff ..).mpr hr)]
    rfl
  · rw [recomputeWake_deep hs, (reachedOpt_false ..).mpr hn]
    rfl
  · have h' := hgoes.mp h
    rw [powerDownCheck, if_pos ((powerDownCheck_iff e c d).mpr h'), fall_on h'.2.1]
  · rw [powerDownCheck, if_neg fun hc => h (hgoes.mpr ((powerDownCheck_iff e c d).mp hc))]
  · obtain ⟨t, ht⟩ := Option.isSome_iff_exists.mp hb
    rw [endTransfer_some ht]
    rfl

/-! ### The ends of rise, fall, wake and settle (R153, R155, R168 to R170, R172) -/

theorem forceAwake_awake {c : Core} (h : c.psc.sleep = .awake) : forceAwake c = c := by simp [forceAwake, h]

theorem forceAwake_main {c : Core} (h : c.psc.sleep.kind = .settlingDown ∨ c.psc.sleep.kind = .light) :
    forceAwake c = { c with psc := { c.psc with sleep := .awake } } := by
  unfold forceAwake
  cases hs : c.psc.sleep <;> simp [hs, Sleep.kind] at h ⊢ <;> rfl

theorem forceAwake_stopped {c : Core} (h : c.psc.sleep.kind = .deep ∨ c.psc.sleep.kind = .waking) :
    forceAwake c = { c with psc := { c.psc with sleep := .awake, divider := 0, fraction := 0 } } := by
  unfold forceAwake
  cases hs : c.psc.sleep <;> simp [hs, Sleep.kind] at h ⊢ <;> rfl

/-- Waking a part that is AWAKE changes nothing more. -/
theorem forceAwake_twice (c : Core) : forceAwake (forceAwake c) = forceAwake c := by
  refine forceAwake_awake ?_
  unfold forceAwake
  split
  · assumption
  all_goals rfl

theorem forceAwake_power (c : Core) (d : Device) : (forceAwake c).power d = c.power d := by
  unfold forceAwake
  split <;> rfl

theorem wanted_forceAwake (e : Env) (c : Core) (d : Device) : wanted e (forceAwake c) d = wanted e c d := by
  obtain ⟨p, h⟩ := forceAwake_frame c
  rw [h]
  rfl

theorem takeDemand_off {e : Env} {c : Core} {d : Device} {t : Time} (hd : e.has d = true)
    (ht : demandTimeOf e c d = some t) (hr : atOrAfter e.count t = true) (hoff : c.power d = .off) :
    takeDemand d e c = (forceAwake c).setPower d (.rising (e.count + tu (e.image.delays.get d))) := by
  have hreached : reachedOpt e.count (demandTimeOf e c d) = true := (reachedOpt_iff ..).mpr ⟨t, ht, hr⟩
  have hwanted : wanted e c d = true := (wanted_iff ..).mpr (.inl ⟨t, ht, hr⟩)
  rw [takeDemand, hd, hreached]
  have hraise := raiseIfWanted_raises hd ((forceAwake_power c d).trans hoff) ((wanted_forceAwake e c d).trans hwanted)
  rw [rise, forceAwake_twice] at hraise
  exact hraise

theorem takeDemand_notOff {e : Env} {c : Core} {d : Device} {t : Time} (hd : e.has d = true)
    (ht : demandTimeOf e c d = some t) (hr : atOrAfter e.count t = true) (hon : c.power d ≠ .off) :
    takeDemand d e c = forceAwake c := by
  have hreached : reachedOpt e.count (demandTimeOf e c d) = true := (reachedOpt_iff ..).mpr ⟨t, ht, hr⟩
  rw [takeDemand, hd, hreached]
  exact raiseIfWanted_leaves (.inr (.inl (by rwa [forceAwake_power])))

theorem takeWake_reached {e : Env} {c : Core} {t : Time} (hw : c.psc.sleep.wake = some t)
    (hr : atOrAfter e.count t = true) : takeWake e c = { c with
      psc := { c.psc with sleep := match c.psc.sleep with
        | .deep _ => .waking (e.count + tu e.image.clockSettle)
        | _ => .awake }
      evaluate := match c.psc.sleep with
        | .settlingDown _ _ => true
        | _ => c.evaluate } := by
  have hreached : reachedOpt e.count c.psc.sleep.wake = true := (reachedOpt_iff ..).mpr ⟨t, hw, hr⟩
  rw [takeWake, if_pos hreached, wakeReached]
  cases hs : c.psc.sleep with
  | awake => simp [hs, Sleep.wake] at hw
  | waking u => simp [hs, Sleep.wake] at hw
  | settlingDown k w => rfl
  | light w => rfl
  | deep w => rfl

/-! ### A change of power that comes at once (R155, R156) -/

theorem find_device {p : Device → Bool} {d : Device} (hd : p d = true) (h : ∀ q, q.number < d.number → p q = false) :
    Device.all.find? p = some d := by
  have hlist : ∃ earlier later, Device.all = earlier ++ d :: later ∧ ∀ q ∈ earlier, q.number < d.number := by
    cases d
    · exact ⟨[], _, rfl, by simp⟩
    · exact ⟨[.transceiver], _, rfl, by decide⟩
    · exact ⟨[.transceiver, .amplifier], _, rfl, by decide⟩
    · exact ⟨[.transceiver, .amplifier, .antennaSwitch], _, rfl, by decide⟩
  obtain ⟨earlier, later, hall, hbefore⟩ := hlist
  rw [hall]
  exact find_first hd fun q hq => h q (hbefore q hq)

theorem find_device_none {p : Device → Bool} (h : ∀ d, p d = false) : Device.all.find? p = none := by
  simp [h]

theorem risesNow_iff (e : Env) (c : Core) (d : Device) : risesNow e c d = true ↔ e.has d = true ∧ c.power d = .off
    ∧ ((∃ p, c.rcc.prep = some p ∧ d ∈ p.requests)
      ∨ ∃ x, ∃ t ∈ (c.bridge x).queue, t.device = d ∧ t.request = true) := by
  rw [risesNow, Bool.and_eq_true, Bool.and_eq_true, decide_eq_true_eq, powerRequest_iff, and_assoc]
  rfl

theorem entersNow_iff (e : Env) (c : Core) (d : Device) : entersNow e c d = true ↔
    e.image.delays.get d = 0 ∧ ∃ t, c.power d = .rising t := by
  unfold entersNow
  rw [Bool.and_eq_true, decide_eq_true_eq]
  cases c.power d <;> simp [Env.delay]

theorem fallsNow_iff (e : Env) (c : Core) (d : Device) : fallsNow e c d = true ↔
    e.image.offSettle = 0 ∧ ∃ t, c.power d = .falling t := by
  unfold fallsNow
  cases c.power d <;> simp

/-! ### A device that enters ON (R125, R129, R130) -/

/-- The replay write of the map entry at a position, when it is one of the device's. -/
def replayAt (shadow : List ShadowEntry) (d : Device) (now : Time) (i : Nat) : Option Replay :=
  shadow[i]?.bind fun s =>
    if s.entry.device = d ∧ s.entry.scope = .common ∧ s.common.isSome then some ⟨i, d, now⟩ else none

theorem replayList_range (shadow : List ShadowEntry) (d : Device) (now : Time) :
    replayList shadow d now = (List.range shadow.length).filterMap (replayAt shadow d now) := by
  refine List.filterMap_congr fun i _ => ?_
  cases h : shadow[i]? <;> simp [replayAt, h]

/-- The replay list of a device is its COMMON entries with a set value, in map order. -/
theorem replayList_eq (shadow : List ShadowEntry) (d : Device) (now : Time) : replayList shadow d now =
    (shadow.zipIdx.filter fun m =>
      decide (m.1.entry.device = d) && decide (m.1.entry.scope = .common) && m.1.common.isSome).map
      (fun m => ⟨m.2, d, now⟩) := by
  rw [replayList_range]
  induction shadow using List.reverseRecOn with
  | nil => rfl
  | append_singleton l s ih =>
    have hearlier : (List.range l.length).filterMap (replayAt (l ++ [s]) d now)
        = (List.range l.length).filterMap (replayAt l d now) :=
      List.filterMap_congr fun i hi => by
        rw [replayAt, replayAt, List.getElem?_append_left (List.mem_range.mp hi)]
    rw [List.length_append, List.length_singleton, List.range_succ, List.filterMap_append, List.zipIdx_append,
      List.filter_append, List.map_append, ← ih, hearlier]
    congr 1
    by_cases h : s.entry.device = d ∧ s.entry.scope = .common ∧ s.common.isSome
    · simp [replayAt, h]
    · simp [replayAt, h]
      simpa using h

theorem insertReplay_eq {new earlier later : List Replay} {d : Device} {now : Time}
    (he : ∀ p ∈ earlier, p.since = now → p.device.number ≤ d.number)
    (hl : ∀ p ∈ later.head?, p.since = now ∧ d.number < p.device.number) :
    insertReplay new d now (earlier ++ later) = earlier ++ new ++ later := by
  have hkept : ∀ p ∈ earlier, (!(decide (p.since = now) && decide (d.number < p.device.number))) = true := fun p hp => by
    by_cases hs : p.since = now
    · simpa [hs] using he p hp hs
    · simp [hs]
  unfold insertReplay
  simp only
  rw [List.takeWhile_append_of_pos hkept, List.dropWhile_append_of_pos hkept]
  cases later with
  | nil => simp
  | cons p rest =>
    obtain ⟨h1, h2⟩ := hl p rfl
    simp [h1, h2]

/-- Settles O57. -/
theorem deviceAndSleepEvents : Obligations.DeviceAndSleepEvents := by
  unfold Obligations.DeviceAndSleepEvents
  refine ⟨fun s running => ⟨fun d t hp hr => ?_, fun d t hp hr => ⟨fun hw => ?_, fun hw => ?_⟩,
      fun d t hd ht hr => ⟨fun hoff => ?_, fun hon => ?_⟩, fun t hw hr => ?_, fun t hs hr => ?_⟩,
    fun c d p => ⟨rfl, forceAwake_awake, forceAwake_main, forceAwake_stopped⟩,
    fun e c rises enters falls hrises henters hfalls => ?_,
    fun e d c earlier later list lapse hlapse hlist hreplay he hl => ?_⟩
  · rw [exec_runs rfl running]
    simp only [State.react, takeRiseEnd, hp, reached, hr, if_true]
    rfl
  · rw [exec_runs rfl running]
    simp only [State.react, takeFallEnd, hp, reached, hr, if_true, finishFall, hw, Bool.false_eq_true, if_false]
    rfl
  · rw [exec_runs rfl running]
    simp only [State.react, takeFallEnd, hp, reached, hr, if_true, finishFall, hw]
    rfl
  · rw [exec_runs rfl running]
    simp only [State.react, takeDemand_off hd ht hr hoff]
  · rw [exec_runs rfl running]
    simp only [State.react, takeDemand_notOff hd ht hr hon]
  · rw [exec_runs rfl running]
    exact congrArg (fun c => Host.Outcome.next (s.setCore c).settled) (takeWake_reached hw hr)
  · rw [exec_runs rfl running]
    simp only [State.react, takeSettleEnd, hs, reached, hr, if_true]
    rfl
  · have hr : ∀ d, risesNow e c d = true ↔ rises d := fun d => (risesNow_iff e c d).trans (hrises d).symm
    have hn : ∀ d, entersNow e c d = true ↔ enters d := fun d => (entersNow_iff e c d).trans (henters d).symm
    have hf : ∀ d, fallsNow e c d = true ↔ falls d := fun d => (fallsNow_iff e c d).trans (hfalls d).symm
    have hno : ∀ {p : Device → Bool} {P : Device → Prop}, (∀ d, p d = true ↔ P d) → (∀ d, ¬P d) →
        Device.all.find? p = none := fun h hP => find_device_none fun d => by
        simpa using mt (h d).mp (hP d)
    have hfirst : ∀ {p : Device → Bool} {P : Device → Prop}, (∀ d, p d = true ↔ P d) → ∀ d, P d →
        (∀ q, q.number < d.number → ¬P q) → Device.all.find? p = some d := fun h d hd hq =>
      find_device ((h d).mpr hd) fun q hlt => by simpa using mt (h q).mp (hq q hlt)
    refine ⟨fun d hd hq => ?_, fun hnr => ⟨fun d hd hq => ?_, fun hne => ⟨fun d hd hq => ?_, fun hnf => ?_⟩⟩⟩
    · rw [powerStep, hfirst hr d hd hq]
      rfl
    · rw [powerStep, hno hr hnr, hfirst hn d hd hq]
      rfl
    · rw [powerStep, hno hr hnr, hno hn hne, hfirst hf d hd hq]
      rfl
    · rw [powerStep, hno hr hnr, hno hn hne, hno hf hnf]
  · have hl' : lapse = Txn.powered d := funext hlapse
    subst hl'
    rw [entersOn, replayList_eq, ← hlist, hreplay, insertReplay_eq he hl]
    rfl

end Sys2Proof.Machine

/-! PROOFS. Placement: the second pass, the tune-away rule, creation and what a placement run does (R16 to R27, R49 to
R51). -/

namespace Sys2Proof.Machine

/-! ### The verdict on a candidate (R16, R17, R19) -/

theorem tuneAwayCase_iff (r v : Reservation) : tuneAwayCase r v = true ↔
    r.cls = .page ∧ v.cls = .voice ∧ v.owner ≠ r.owner ∧ v.emergency = false := by
  have howner : v.owner = r.owner.other ↔ v.owner ≠ r.owner := by
    cases v.owner <;> cases r.owner <;> decide
  simp only [tuneAwayCase, Bool.and_eq_true, decide_eq_true_eq, Bool.not_eq_true', howner, and_assoc]

theorem mem_overlapped_iff (table : List Reservation) (t : Time) (length : Nat) (v : Reservation) :
    v ∈ overlapped table t length ↔ v ∈ table ∧ v.state ≠ .seeking
      ∧ before t (v.start + tu (v.length + 4)) = true ∧ before v.start (t + tu (length + 4)) = true := by
  rw [mem_overlapped]
  simp [Reservation.overlaps, spanEnd, Config.guardGap]

/-- An occurrence of a state other than GRANTED among those met, one of no lower priority, or one in the tune-away case
decides the verdict, in this order. -/
theorem verdict_cases (e : Env) (table : List Reservation) (r : Reservation) (refused : Bool) (t : Time) :
    ((∃ v ∈ overlapped table t r.length, v.state ≠ .granted
        ∨ (tuneAwayCase r v = false ∧ priority e r ≤ priority e v)) ∧ verdict e table r refused t = .no)
    ∨ ((∀ v ∈ overlapped table t r.length, v.state = .granted ∧ (tuneAwayCase r v = false → priority e v < priority e r))
      ∧ ((∃ v ∈ overlapped table t r.length, tuneAwayCase r v = true)
          ∧ verdict e table r refused t = (if refused then .no else .ask)
        ∨ (∀ v ∈ overlapped table t r.length, tuneAwayCase r v = false) ∧ verdict e table r refused t = .yes)) := by
  have hv : verdict e table r refused t =
      if (overlapped table t r.length).any (fun v => decide (v.state ≠ .granted)) = true then .no
      else if (overlapped table t r.length).any
        (fun v => !tuneAwayCase r v && decide (priority e r ≤ priority e v)) = true then .no
      else if (overlapped table t r.length).any (tuneAwayCase r) = true then (if refused then .no else .ask)
      else .yes := rfl
  rw [hv]
  by_cases h1 : (overlapped table t r.length).any (fun v => decide (v.state ≠ .granted)) = true
  · obtain ⟨v, hm, hs⟩ := List.any_eq_true.mp h1
    exact .inl ⟨⟨v, hm, .inl (of_decide_eq_true hs)⟩, if_pos h1⟩
  rw [if_neg h1]
  by_cases h2 : (overlapped table t r.length).any
      (fun v => !tuneAwayCase r v && decide (priority e r ≤ priority e v)) = true
  · obtain ⟨v, hm, hs⟩ := List.any_eq_true.mp h2
    exact .inl ⟨⟨v, hm, .inr (by simpa using hs)⟩, if_pos h2⟩
  rw [if_neg h2]
  refine .inr ⟨fun v hm => ⟨?_, fun hc => ?_⟩, ?_⟩
  · by_contra hs
    exact h1 (List.any_eq_true.mpr ⟨v, hm, by simpa using hs⟩)
  · by_contra hs
    exact h2 (List.any_eq_true.mpr ⟨v, hm, by simpa [hc] using hs⟩)
  · by_cases h3 : (overlapped table t r.length).any (tuneAwayCase r) = true
    · exact .inl ⟨List.any_eq_true.mp h3, if_pos h3⟩
    · exact .inr ⟨by simpa using h3, if_neg h3⟩

theorem verdict_yes_iff (e : Env) (table : List Reservation) (r : Reservation) (refused : Bool) (t : Time) :
    verdict e table r refused t = .yes ↔ ∀ v ∈ overlapped table t r.length,
      v.state = .granted ∧ tuneAwayCase r v = false ∧ priority e v < priority e r := by
  obtain ⟨⟨v, hm, hbad⟩, h⟩ | ⟨hall, ⟨⟨v, hm, hcase⟩, h⟩ | ⟨hcase, h⟩⟩ := verdict_cases e table r refused t <;> rw [h]
  · refine iff_of_false (by simp) fun hall => ?_
    obtain ⟨hs, -, hp⟩ := hall v hm
    rcases hbad with hb | ⟨-, hb⟩
    · exact hb hs
    · omega
  · refine iff_of_false (by cases refused <;> simp) fun hall => ?_
    simp [(hall v hm).2.1] at hcase
  · exact iff_of_true rfl fun v hm => ⟨(hall v hm).1, hcase v hm, (hall v hm).2 (hcase v hm)⟩

theorem verdict_ask_iff (e : Env) (table : List Reservation) (r : Reservation) (refused : Bool) (t : Time) :
    verdict e table r refused t = .ask ↔ refused = false
      ∧ (∃ v ∈ overlapped table t r.length, tuneAwayCase r v = true)
      ∧ ∀ v ∈ overlapped table t r.length,
        v.state = .granted ∧ (tuneAwayCase r v = false → priority e v < priority e r) := by
  obtain ⟨⟨v, hm, hbad⟩, h⟩ | ⟨hall, ⟨hmet, h⟩ | ⟨hcase, h⟩⟩ := verdict_cases e table r refused t <;> rw [h]
  · refine iff_of_false (by simp) fun ⟨_, _, hall⟩ => ?_
    obtain ⟨hs, hp⟩ := hall v hm
    rcases hbad with hb | ⟨hc, hb⟩
    · exact hb hs
    · have := hp hc
      omega
  · cases refused
    · exact iff_of_true rfl ⟨rfl, hmet, hall⟩
    · exact iff_of_false (by simp) (by simp)
  · refine iff_of_false (by simp) fun ⟨_, ⟨v, hm, hc⟩, _⟩ => ?_
    simp [hcase v hm] at hc

/-! ### The second pass (R19) -/

theorem scanSecond_succ {v : Time → Verdict} {t : Time} (h : v (t + tu 0) = .no) (n : Nat) :
    scanSecond v (n + 1) t = scanSecond v n (t + 1) := by
  have h0 : v t = .no := by simpa [tu] using h
  simp only [scanSecond, h0]

/-- The second pass stops at the earliest candidate that is not ruled out. -/
theorem scanSecond_eq_some {v : Time → Verdict} {n k : Nat} {t : Time} (hk : k < n)
    (earlier : ∀ j, j < k → v (t + tu j) = .no) :
    (v (t + tu k) = .yes → scanSecond v n t = some (t + tu k, false, n - 1 - k))
    ∧ (v (t + tu k) = .ask → scanSecond v n t = some (t + tu k, true, n - 1 - k)) := by
  induction n generalizing k t with
  | zero => omega
  | succ n ih =>
    cases k with
    | zero =>
      have h0 : t + tu 0 = t := by simp [tu]
      rw [h0]
      exact ⟨fun h => by simp [scanSecond, h], fun h => by simp [scanSecond, h]⟩
    | succ k =>
      rw [scanSecond_succ (earlier 0 (by omega)), ← add_one_add_tu, show n + 1 - 1 - (k + 1) = n - 1 - k by omega]
      exact ih (by omega) fun j hj => by
        rw [add_one_add_tu]
        exact earlier (j + 1) (by omega)

theorem scanSecond_eq_none {v : Time → Verdict} {n : Nat} {t : Time} (fails : ∀ j, j < n → v (t + tu j) = .no) :
    scanSecond v n t = none := by
  induction n generalizing t with
  | zero => rfl
  | succ n ih =>
    rw [scanSecond_succ (fails 0 (by omega))]
    refine ih fun j hj => ?_
    rw [add_one_add_tu]
    exact fails (j + 1) (by omega)

section
variable {e : Env} {r : Reservation} {c : Core} {first : Time} {n : Nat}

theorem choose_meets (hc : candidates e.count r.desired r.slack = some (first, n))
    (met : ∀ j, j < n → overlapped c.tla.table (first + tu j) r.length ≠ []) :
    choose e r c = secondPass e r first n c :=
  choose_second_pass hc fun j hj => List.isEmpty_eq_false_iff.mpr (met j hj)

theorem secondPass_yes {k : Nat} (hk : k < n) (hyes : verdict e c.tla.table r false (first + tu k) = .yes)
    (earlier : ∀ j, j < k → verdict e c.tla.table r false (first + tu j) = .no) :
    secondPass e r first n c = (c, .start (first + tu k)) := by
  have h : scanSecond (verdict e c.tla.table r false) n first = some (first + tu k, false, n - 1 - k) :=
    (scanSecond_eq_some hk earlier).1 hyes
  simp only [secondPass, h]

theorem secondPass_none (hno : ∀ k, k < n → verdict e c.tla.table r false (first + tu k) = .no) :
    secondPass e r first n c = (c, .conflict false) := by
  have h : scanSecond (verdict e c.tla.table r false) n first = none := scanSecond_eq_none hno
  simp only [secondPass, h]

/-- The first candidate that asks is asked for. -/
theorem secondPass_ask {k : Nat} (hk : k < n) (hask : verdict e c.tla.table r false (first + tu k) = .ask)
    (earlier : ∀ j, j < k → verdict e c.tla.table r false (first + tu j) = .no) :
    secondPass e r first n c = match consultTuneAway e (first + tu k) r.length c with
      | (c1, true) => (c1, .start (first + tu k))
      | (c1, false) =>
        match firstWhere (fun u => decide (verdict e c1.tla.table r true u = .yes)) (n - 1 - k) (first + tu k + 1) with
        | none => (c1, .conflict true)
        | some u => (c1, .start u) := by
  have h : scanSecond (verdict e c.tla.table r false) n first = some (first + tu k, true, n - 1 - k) :=
    (scanSecond_eq_some hk earlier).2 hask
  unfold secondPass
  generalize scanSecond (verdict e c.tla.table r false) n first = o at h ⊢
  subst h
  rfl

end

theorem tu_add_tu (t : Time) (j k : Nat) : t + tu j + 1 + tu k = t + tu (j + k + 1) := by
  rw [add_one_add_tu, add_assoc]
  exact congrArg (t + ·) (BitVec.ofNat_add j (k + 1)).symm

/-- Settles O32. -/
theorem secondPassEarliest : Obligations.SecondPassEarliest := by
  unfold Obligations.SecondPassEarliest
  refine ⟨fun e r c first n hc met => ⟨fun k hk hyes earlier => ?_, fun hno => ?_⟩,
    fun e table r refused t => ⟨verdict_yes_iff e table r refused t, verdict_ask_iff e table r refused t⟩,
    tuneAwayCase_iff, mem_overlapped_iff, fun e r plus hplus => ?_⟩
  · rw [choose_meets hc met, secondPass_yes hk hyes earlier]
  · rw [choose_meets hc met, secondPass_none hno]
  · have hpriority : priority e r = 2 * r.base + plus := by rw [priority, hplus]
    rw [hpriority]
    refine ⟨fun hcls hem => ?_, fun hcls hem => ?_, fun hcls hem => ?_, fun hcls => ?_, fun hcls hu => ?_,
      fun hcls hu => ?_, fun hcls => ?_, fun hcls => ?_⟩
    · rcases hcls with hcls | hcls <;> simp [Reservation.base, hcls, hem]
    · simp [Reservation.base, hcls, hem]
    · simp [Reservation.base, hcls, hem]
    · simp [Reservation.base, hcls]
    · simp [Reservation.base, hcls, hu]
    · simp [Reservation.base, hcls, hu]
    · simp [Reservation.base, hcls]
    · simp [Reservation.base, hcls]

/-! ### The tune-away rule and the credit (R49 to R51) -/

theorem refill_eq {now last : Time} {creditMax interval k : Nat} {tr : Traffic} {q : Int}
    (hq : q = Int.fdiv (now - tr.lastRefill).toInt interval) (hk : k = (min (creditMax : Int) (tr.credit + q)).toNat)
    (hl : last = if k = creditMax then now else tr.lastRefill + BitVec.ofInt 32 (q * interval)) :
    tr.refill now creditMax interval = { tr with credit := k, lastRefill := last } := by
  subst hq hk hl
  rfl

theorem consultTuneAway_refuses {e : Env} {t : Time} {length : Nat} {c : Core}
    (h : c.voiceSession = none ∨ ∃ n v, c.voiceSession = some (n, v) ∧ v.traffic = none) :
    consultTuneAway e t length c = (c, false) := by
  rcases h with h | ⟨n, v, h, ht⟩
  · simp only [consultTuneAway, h]
  · simp only [consultTuneAway, h, ht]

theorem consultTuneAway_live {e : Env} {t : Time} {length : Nat} {c : Core} {n : Session} {v : Voice} {tr : Traffic}
    (hv : c.voiceSession = some (n, v)) (ht : v.traffic = some tr) :
    consultTuneAway e t length c =
      if 1 ≤ (tr.refill e.count e.policy.creditMax e.policy.refill).credit then
        (post e (.stack n.owner)
          ⟨.tuneAway, .session n.owner n.handle, t,
            value16 ((tr.refill e.count e.policy.creditMax e.policy.refill).credit - 1), value16 length⟩
          (c.setTraffic n.handle { tr.refill e.count e.policy.creditMax e.policy.refill with
            credit := (tr.refill e.count e.policy.creditMax e.policy.refill).credit - 1 }), true)
      else (c.setTraffic n.handle (tr.refill e.count e.policy.creditMax e.policy.refill), false) := by
  simp only [consultTuneAway, hv, ht]

theorem creditPolicy_same {now : Time} {was will : Policy} {c : Core} (hc : was.creditMax = will.creditMax)
    (hi : was.refill = will.refill) : creditPolicy now was will c = c := if_pos ⟨hc, hi⟩

theorem creditPolicy_idle {now : Time} {was will : Policy} {c : Core}
    (h : c.voiceSession = none ∨ ∃ n v, c.voiceSession = some (n, v) ∧ v.traffic = none) :
    creditPolicy now was will c = c := by
  unfold creditPolicy
  split
  · rfl
  · rcases h with h | ⟨n, v, h, ht⟩
    · rw [h]
    · rw [h]
      simp only [ht]

theorem creditPolicy_live {now : Time} {was will : Policy} {c : Core} {n : Session} {v : Voice} {tr : Traffic}
    (hv : c.voiceSession = some (n, v)) (ht : v.traffic = some tr)
    (h : was.creditMax ≠ will.creditMax ∨ was.refill ≠ will.refill) : creditPolicy now was will c =
      c.setTraffic n.handle ((tr.refill now was.creditMax was.refill).clampCredit now will.creditMax) := by
  have hne : ¬(was.creditMax = will.creditMax ∧ was.refill = will.refill) := by
    rintro ⟨h1, h2⟩
    rcases h with h | h
    · exact h h1
    · exact h h2
  rw [creditPolicy, if_neg hne, hv]
  simp only [ht]

/-- The credit of a refill clamped to a new maximum. -/
theorem clampCredit_eq (now last : Time) (k was will : Nat) (u : Time) (tr : Traffic)
    (hl : last = if k = was then now else u) :
    ({ tr with credit := k, lastRefill := last } : Traffic).clampCredit now will =
      { tr with credit := min k will, lastRefill := if will ≤ k ∨ k = was then now else u } := by
  unfold Traffic.clampCredit
  by_cases hle : will ≤ k
  · simp [hle]
  · by_cases hk : k = was
    · have : min k will ≠ will := by omega
      simp [hl, hk]
    · have : min k will ≠ will := by omega
      simp [hl, hk, hle, this]

/-- Settles O33. -/
theorem tuneAwayConsulted : Obligations.TuneAwayConsulted := by
  unfold Obligations.TuneAwayConsulted
  refine ⟨fun e t length c => ⟨consultTuneAway_refuses, fun n v tr q k last hv ht hq hk hl => ⟨fun h => ?_, fun h => ?_⟩⟩,
    fun now was will c => ⟨creditPolicy_same, fun h => creditPolicy_idle (.inl h), fun n v hv =>
      ⟨fun ht => creditPolicy_idle (.inr ⟨n, v, hv, ht⟩), fun tr q k ht h hq hk => ?_⟩⟩,
    fun e r c c' first n k hc met hk hask earlier => ⟨fun hyes => ?_, fun hno => ⟨fun m hkm hmn hyes hbefore => ?_,
      fun hall => ?_⟩⟩⟩
  · rw [consultTuneAway_live hv ht, refill_eq hq hk hl, if_pos h]
  · subst h
    rw [consultTuneAway_live hv ht, refill_eq hq hk hl, if_neg (by simp)]
  · rw [creditPolicy_live hv ht h, refill_eq hq hk rfl, clampCredit_eq _ _ _ _ _ _ _ rfl]
  · rw [choose_meets hc met, secondPass_ask hk hask earlier, hyes]
  · have hfirst : firstWhere (fun u => decide (verdict e c'.tla.table r true u = .yes)) (n - 1 - k) (first + tu k + 1)
        = some (first + tu m) := by
      have := firstWhere_eq_some (ok := fun u => decide (verdict e c'.tla.table r true u = .yes)) (n := n - 1 - k)
        (k := m - k - 1) (t := first + tu k + 1) (by omega)
        (by rw [tu_add_tu, show k + (m - k - 1) + 1 = m by omega]; exact decide_eq_true hyes)
        (fun j hj => by rw [tu_add_tu]; exact decide_eq_false (hbefore _ (by omega) (by omega)))
      rwa [tu_add_tu, show k + (m - k - 1) + 1 = m by omega] at this
    rw [choose_meets hc met, secondPass_ask hk hask earlier, hno]
    simp only [hfirst]
  · have hfirst : firstWhere (fun u => decide (verdict e c'.tla.table r true u = .yes)) (n - 1 - k) (first + tu k + 1)
        = none :=
      firstWhere_eq_none fun j hj => by rw [tu_add_tu]; exact decide_eq_false (hall _ (by omega) (by omega))
    rw [choose_meets hc met, secondPass_ask hk hask earlier, hno]
    simp only [hfirst]

/-! ### Creation (R11, R12, R17 to R22) -/

theorem createRecord_full {e : Env} {r : Reservation} {c : Core} (h : roomFor c r.owner = false) :
    createRecord e r c = (c, .tableFull) := by simp [createRecord, h]

theorem createRecord_tooLate {e : Env} {r : Reservation} {c d : Core} (room : roomFor c r.owner = true)
    (h : choose e r c = (d, .tooLate)) : createRecord e r c = (d, .tooLate) := by
  simp only [createRecord, room, if_true, h]

theorem createRecord_conflict {e : Env} {r : Reservation} {c d : Core} {refused : Bool} (room : roomFor c r.owner = true)
    (h : choose e r c = (d, .conflict refused)) : createRecord e r c = (d, .conflict refused) := by
  simp only [createRecord, room, if_true, h]

theorem createRecord_start {e : Env} {r : Reservation} {c d : Core} {t : Time} (room : roomFor c r.owner = true)
    (h : choose e r c = (d, .start t)) : createRecord e r c =
      (seekAll e seekFuel (repeatingTodo (overlapped d.tla.table t r.length))
        (placeAt e { r with handle := newHandle ((overlapped d.tla.table t r.length).foldl (removeVictim e) d).tla } t
          (((overlapped d.tla.table t r.length).foldl (removeVictim e) d).takeHandle
            (newHandle ((overlapped d.tla.table t r.length).foldl (removeVictim e) d).tla))),
        .created (newHandle ((overlapped d.tla.table t r.length).foldl (removeVictim e) d).tla) t) := by
  simp only [createRecord, room, if_true, h]

theorem choose_tooLate {e : Env} {r : Reservation} {c : Core} (h : candidates e.count r.desired r.slack = none) :
    choose e r c = (c, .tooLate) := by simp only [choose, h]

theorem newHandle_index {tla : Tla} (h : tla.table.length < 48) :
    (newHandle tla).index.toNat = freeIndex tla.table := by
  have := (freeIndex_spec h).1
  simp only [newHandle, BitVec.toNat_ofNat]
  omega

/-- Every index below the free one is taken. -/
theorem freeIndex_lowest {table : List Reservation} {j : Nat} (h : table.length < 48) (hj : j < freeIndex table) :
    ∃ r ∈ table, r.handle.index.toNat = j := by
  obtain ⟨i, hi⟩ : ∃ i, lowestFree (fun i => table.any fun r => decide (r.handle.index.toNat = i)) Config.tableSize
      = some i := by
    obtain ⟨i, hi, hfree⟩ := exists_free_index h
    refine Option.isSome_iff_exists.mp (List.find?_isSome.mpr ⟨i, List.mem_range.mpr hi, ?_⟩)
    simpa using hfree
  rw [freeIndex, hi, Option.getD_some] at hj
  obtain ⟨-, as, bs, heq, hbefore⟩ := List.find?_eq_some_iff_append.mp hi
  have hlt : j ∈ as := by
    have hlen : as.length = i := by
      have h1 : (List.range Config.tableSize)[as.length]? = some i := by rw [heq]; simp
      have h2 := List.getElem?_range (n := Config.tableSize) (i := as.length)
        (by have := congrArg List.length heq; simp at this; omega)
      exact Option.some.inj (h2.symm.trans h1)
    have hget : as[j]? = some j := by
      have h1 : (as ++ i :: bs)[j]? = as[j]? := List.getElem?_append_left (by omega)
      rw [← h1, ← heq]
      refine List.getElem?_range ?_
      have := congrArg List.length heq
      simp at this
      omega
    exact List.mem_of_getElem? hget
  simpa using hbefore j hlt

/-! ### The candidates (R17) -/

theorem candidates_none {now desired : Time} {slack : Nat} (h : before (desired + tu slack) (now + 4) = true) :
    candidates now desired slack = none := by
  have hearliest : atOrAfter (desired + tu slack) (now + 4) = false := by
    rwa [before, Bool.not_eq_true'] at h
  simp only [candidates, tu_guardGap, hearliest, Bool.false_and, Bool.false_eq_true, if_false]

theorem atOrAfter_iff (t u : Time) : atOrAfter t u = true ↔ (t - u).toNat < 2147483648 := by simp [atOrAfter]

/-- The starts from `first` through `last`, when `last` is not far behind. -/
theorem mem_candidates_iff {first last : Time} (h : (last - first).toNat < 2147483648) (t : Time) :
    (∃ k, k < (last - first).toNat + 1 ∧ t = first + tu k) ↔ atOrAfter t first = true ∧ atOrAfter last t = true := by
  rw [atOrAfter_iff, atOrAfter_iff]
  constructor
  · rintro ⟨k, hk, rfl⟩
    have hk2 : k < 2147483648 := by omega
    simp only [tu]
    constructor <;> bv_omega
  · rintro ⟨h1, h2⟩
    refine ⟨(t - first).toNat, by bv_omega, ?_⟩
    simp only [tu]
    bv_omega

theorem candidates_some {now desired first : Time} {slack : Nat} (hs : slack ≤ 16383)
    (hf : first = if atOrAfter desired (now + 4) then desired else now + 4)
    (h : before (desired + tu slack) (now + 4) = false) :
    candidates now desired slack = some (first, (desired + tu slack - first).toNat + 1)
      ∧ (desired + tu slack - first).toNat ≤ slack := by
  have hlast : atOrAfter (desired + tu slack) (now + 4) = true := by rwa [before, Bool.not_eq_false'] at h
  have hfirst : laterOf desired (now + 4) = first := by rw [hf, laterOf]
  have hle : (desired + tu slack - first).toNat ≤ slack := by
    rw [atOrAfter_iff] at hlast
    simp only [tu] at hlast ⊢
    by_cases hd : atOrAfter desired (now + 4) = true
    · rw [if_pos hd] at hf
      subst hf
      bv_omega
    · rw [if_neg hd] at hf
      rw [atOrAfter_iff] at hd
      subst hf
      bv_omega
  have hnear : atOrAfter (desired + tu slack) first = true := (atOrAfter_iff ..).mpr (by omega)
  refine ⟨?_, hle⟩
  simp only [candidates, tu_guardGap, hfirst, hlast, hnear, Bool.and_true, if_true]

/-! ### What a placement leaves (R12, R24, R28) -/

theorem tableNotice_smg (e : Env) (c : Core) : (tableNotice e c).smg = c.smg := by
  obtain ⟨p, b, h⟩ := tableNotice_frame e c
  rw [h]

theorem tableNotice_pif (e : Env) (c : Core) : (tableNotice e c).pif = c.pif := by
  obtain ⟨p, b, h⟩ := tableNotice_frame e c
  rw [h]

theorem placeAt_later {e : Env} {r : Reservation} {t : Time} {c : Core} (h : t ≠ e.count + 4) :
    placeAt e r t c = tableNotice e (c.putRecord (r.grant t)) := if_neg h

theorem spend_eq (p : Repeats) : (p.remaining = 0 → p.spend = some p) ∧ (p.remaining = 1 → p.spend = none)
    ∧ (2 ≤ p.remaining → p.spend = some ⟨p.period, p.remaining - 1⟩) := by
  refine ⟨fun h => if_pos h, fun h => ?_, fun h => ?_⟩
  · rw [Repeats.spend, if_neg (by omega), if_pos h]
  · rw [Repeats.spend, if_neg (by omega), if_neg (by omega)]

theorem grant_repeats (r : Reservation) (t : Time) : (r.grant t).repeats = r.repeats.bind Repeats.spend := by
  cases h : r.repeats <;> simp [Reservation.grant, h]

/-- Settles O34. -/
theorem placementGrants : Obligations.PlacementGrants := by
  unfold Obligations.PlacementGrants
  refine ⟨fun e r c => ⟨createRecord_full, fun room => ⟨fun d => createRecord_tooLate room,
      fun d refused => createRecord_conflict room, fun d t victims removed h hv hr => ?_⟩, fun first n room hc hfree => ?_⟩,
    fun e r t c => ⟨rfl, fun ht => ⟨?_, ?_, ?_⟩⟩,
    fun r t => ⟨rfl, rfl, rfl, rfl, rfl, rfl, rfl, fun h => ?_, fun p hp => ?_⟩,
    fun c x h room hh => ?_, fun now desired first slack hs hf => ⟨fun e r c => choose_tooLate, candidates_none,
      fun hb => ?_⟩⟩
  · subst hv hr
    exact createRecord_start room h
  · have hzero : first + tu 0 = first := by simp [tu]
    have hn : 0 < n := by
      simp only [candidates, Option.ite_none_right_eq_some, Option.some.injEq, Prod.mk.injEq] at hc
      omega
    have hchoose := choose_first_pass (c := c) hc hn (by rwa [hzero]) (by simp)
    rw [hzero] at hchoose
    exact createRecord_of_free room hchoose hfree
  · rw [placeAt_tla_of_ne ht]
    rfl
  · rw [placeAt_later ht, tableNotice_smg]
    rfl
  · rw [placeAt_later ht, tableNotice_pif]
    rfl
  · rw [grant_repeats, h]
    rfl
  · rw [grant_repeats, hp]
    exact spend_eq p
  · have hlen := table_lt_of_roomFor room
    obtain ⟨hlt, hfree⟩ := freeIndex_spec hlen
    subst hh
    rw [newHandle_index hlen]
    exact ⟨hlt, hfree, fun j hj => freeIndex_lowest hlen hj, rfl⟩
  · obtain ⟨hc, hle⟩ := candidates_some hs hf hb
    exact ⟨_, hc, by omega, by omega, mem_candidates_iff (by omega)⟩

/-! ### A placement run (R20 to R27) -/

theorem removeVictim_once {e : Env} {c : Core} {r : Reservation} (h : r.repeats = none) :
    removeVictim e c r = tellLost r (endRecord e .preempted true r c) := by simp only [removeVictim, h]

theorem removeVictim_repeats {e : Env} {c : Core} {r r1 : Reservation} (h : r.repeats.isSome = true)
    (h1 : r1 = { r with state := .seeking, lost := min 8 (r.lost + 1) }) : removeVictim e c r =
      tableNotice e (tellLost r1 (postLost e r1 lossPreempted (c.putRecord r1))) := by
  obtain ⟨p, hp⟩ := Option.isSome_iff_exists.mp h
  subst h1
  simp only [removeVictim, hp]
  rfl

theorem skipOccurrence_once {e : Env} {c : Core} {r : Reservation} (h : r.repeats = none) :
    skipOccurrence e r c = tellSkipped r (endRecord e .starved true r c) := by simp only [skipOccurrence, h]

theorem skipOccurrence_repeats {e : Env} {c : Core} {r r1 : Reservation} (h : r.repeats.isSome = true)
    (h1 : r1 = { r with state := .seeking, lost := min 8 (r.lost + 1) }) : skipOccurrence e r c =
      tellSkipped r1 (postLost e r1 lossSkipped (c.putRecord r1)) := by
  obtain ⟨p, hp⟩ := Option.isSome_iff_exists.mp h
  subst h1
  simp only [skipOccurrence, hp]
  rfl

theorem tellLost_other {r : Reservation} {c : Core} (hp : r.cls ≠ .page) (hs : r.cls ≠ .search) : tellLost r c = c := by
  unfold tellLost
  split
  · exact absurd ‹_› hp
  · exact absurd ‹_› hs
  · rfl

theorem tellSkipped_other {r : Reservation} {c : Core} (h : r.cls ≠ .voice ∨ r.session = none) :
    tellSkipped r c = tellLost r c := by
  unfold tellSkipped
  split
  · rename_i hc hs
    rcases h with h | h
    · exact absurd hc h
    · simp [h] at hs
  · rfl

theorem listKilled_iff (r : Reservation) (reason : EndReason) : r.listKilled reason = true ↔
    r.staged ≠ [] ∧ (r.state = .granted ∨ reason = .starved) := by
  simp [Reservation.listKilled]

theorem thinned_iff (e : Env) (r : Reservation) : thinned e r = true ↔
    r.cls = .measure ∧ r.occIndex.toNat % 2 = 1 ∧ e.supply ≠ .normal := by
  simp only [thinned, Bool.and_eq_true, decide_eq_true_eq, and_assoc]

/-- The record as its next occurrence is sought keeps what the search does not change. -/
theorem prepare_keeps (td : Todo) (r : Reservation) : (td.prepare r).handle = r.handle ∧ (td.prepare r).owner = r.owner
    ∧ (td.prepare r).cls = r.cls ∧ (td.prepare r).length = r.length ∧ (td.prepare r).repeats = r.repeats
    ∧ (td.prepare r).lost = r.lost ∧ (td.prepare r).state = r.state ∧ (td.prepare r).start = r.start := by
  unfold Todo.prepare Reservation.advance
  split
  · split <;> simp_all
  · simp

section
variable {e : Env} {td : Todo} {c : Core} {r : Reservation}

theorem seekOne_gone (h : c.reservation td.handle = none) : seekOne e td c = (c, []) := by simp only [seekOne, h]

theorem seekOne_starved (h : c.reservation td.handle = some r) (hl : 8 ≤ r.lost) :
    seekOne e td c = (endRecord e .starved true r c, []) := by
  have hstarve : Config.starveCount ≤ r.lost := hl
  simp only [seekOne, h, hstarve, if_true]

theorem seekOne_thinned (h : c.reservation td.handle = some r) (hl : r.lost < 8) (ht : thinned e (td.prepare r) = true) :
    seekOne e td c = (c.putRecord (td.prepare r), [⟨td.handle, true⟩]) := by
  have hstarve : ¬Config.starveCount ≤ r.lost := not_le.mpr hl
  simp only [seekOne, h, if_neg hstarve, ht, if_true]

theorem seekOne_placed {d : Core} {t : Time} (h : c.reservation td.handle = some r) (hl : r.lost < 8)
    (ht : thinned e (td.prepare r) = false) (hc : choose e (td.prepare r) c = (d, .start t)) : seekOne e td c =
      (placeAt e (td.prepare r) t ((overlapped d.tla.table t (td.prepare r).length).foldl (removeVictim e) d),
        repeatingTodo (overlapped d.tla.table t (td.prepare r).length)) := by
  have hstarve : ¬Config.starveCount ≤ r.lost := not_le.mpr hl
  simp only [seekOne, h, if_neg hstarve, ht, Bool.false_eq_true, if_false, hc]

theorem seekOne_skipped {d : Core} {how : Choice} (h : c.reservation td.handle = some r) (hl : r.lost < 8)
    (ht : thinned e (td.prepare r) = false) (hc : choose e (td.prepare r) c = (d, how)) (hhow : ∀ t, how ≠ .start t) :
    seekOne e td c = (skipOccurrence e (td.prepare r) d,
      if (td.prepare r).repeats.isSome = true then [⟨td.handle, true⟩] else []) := by
  have hstarve : ¬Config.starveCount ≤ r.lost := not_le.mpr hl
  cases how with
  | start t => exact absurd rfl (hhow t)
  | tooLate => simp only [seekOne, h, if_neg hstarve, ht, Bool.false_eq_true, if_false, hc]
  | conflict refused => simp only [seekOne, h, if_neg hstarve, ht, Bool.false_eq_true, if_false, hc]

end

theorem shiftCadence_gone {e : Env} {h : Handle} {d : Time} {c : Core} (hr : c.reservation h = none) :
    shiftCadence e h d c = c := by simp only [shiftCadence, hr]

theorem shiftCadence_granted {e : Env} {h : Handle} {d : Time} {c : Core} {r : Reservation}
    (hr : c.reservation h = some r) (hg : r.state = .granted) : shiftCadence e h d c =
      seekAll e seekFuel [⟨h, false⟩] (tableNotice e ((c.editReservation h fun q =>
        { q with desired := q.desired + d }).editReservation h fun q => { q with state := .seeking })) := by
  simp only [shiftCadence, hr, if_pos hg]

theorem shiftCadence_other {e : Env} {h : Handle} {d : Time} {c : Core} {r : Reservation}
    (hr : c.reservation h = some r) (hg : r.state ≠ .granted) : shiftCadence e h d c =
      c.editReservation h fun q => { q with desired := q.desired + d } := by
  simp only [shiftCadence, hr, if_neg hg]

/-- Settles O35. -/
theorem nextOccurrences : Obligations.NextOccurrences := by
  unfold Obligations.NextOccurrences
  refine ⟨fun e c r => ⟨removeVictim_once, fun r1 h h1 => ?_⟩, fun e c r => ⟨skipOccurrence_once, fun r1 h h1 => ?_⟩,
    fun r c => ⟨fun h => ?_, fun h => ?_, tellLost_other, fun h hc hs => ?_, tellSkipped_other⟩,
    fun e reason reported r c c1 c2 c3 h1 h2 h3 => ?_, fun e h onward c => ⟨seekOne_gone (td := ⟨h, onward⟩), fun r r1 hr h1 => ?_⟩,
    fun e n td rest first c d => ⟨?_, fun h => ?_⟩, fun e h d c => ⟨shiftCadence_gone, fun r hr =>
      ⟨shiftCadence_granted hr, shiftCadence_other hr⟩⟩⟩
  · subst h1
    rw [removeVictim_repeats h rfl]
    rfl
  · subst h1
    rw [skipOccurrence_repeats h rfl]
    rfl
  · simp only [tellLost, h]
    rfl
  · simp only [tellLost, h]
    rfl
  · simp only [tellSkipped, hc, hs]
    rfl
  · have hkilled : (reported && r.listKilled reason) = true ↔
        reported = true ∧ r.staged ≠ [] ∧ (r.state = .granted ∨ reason = .starved) := by
      rw [Bool.and_eq_true, listKilled_iff]
    simp only [← hkilled] at h3
    subst h1 h2 h3
    rfl
  · have hprepare : Todo.prepare ⟨h, onward⟩ r = r1 := by
      subst h1
      cases onward
      · rfl
      · cases hrep : r.repeats <;> simp [Todo.prepare, Reservation.advance, hrep]
    subst hprepare
    obtain ⟨-, -, hcls, hlength, hrepeats, -⟩ := prepare_keeps ⟨h, onward⟩ r
    refine ⟨seekOne_starved (td := ⟨h, onward⟩) hr, fun hl ht => seekOne_thinned (td := ⟨h, onward⟩) hr hl ((thinned_iff ..).mpr (by rwa [hcls])), fun hl ht => ?_⟩
    have hnot : thinned e (Todo.prepare ⟨h, onward⟩ r) = false := by
      rwa [← Bool.not_eq_true, thinned_iff, hcls]
    refine ⟨fun d t victims hc hv => ?_, fun d how hc hhow => ?_⟩
    · subst hv
      rw [seekOne_placed (td := ⟨h, onward⟩) hr hl hnot hc, hlength]
      rfl
    · rw [seekOne_skipped (td := ⟨h, onward⟩) hr hl hnot hc hhow, hrepeats]
  · cases n <;> rfl
  · simp only [seekAll, h]

end Sys2Proof.Machine

/-! PROOFS. The requests and events of the Timeline Arbiter: RESERVE, WITHDRAW, STAGE, and a window's preparation, start and
end (R28 to R39). -/

namespace Sys2Proof.Machine

/-! ### RESERVE (R37) -/

theorem reservable_cases (b : Byte) : (reservable (Class.ofCode b) = some .access ↔ b = 0)
    ∧ (reservable (Class.ofCode b) = some .page ↔ b = 2) ∧ (reservable (Class.ofCode b) = some .measure ↔ b = 4)
    ∧ (reservable (Class.ofCode b) = none ↔ b ≠ 0 ∧ b ≠ 2 ∧ b ≠ 4) := by
  revert b
  decide

theorem farStart_iff (now t : Time) : farStart now t = true ↔
    atOrAfter t (now + 16777216) = true ∧ before t now = false := by
  rw [farStart, Bool.and_eq_true, Bool.not_eq_true']
  rfl

theorem badPeriod_iff (slack length period : Nat) : badPeriod slack length period = true ↔
    period ≠ 0 ∧ (period < length + slack + 4 ∨ 4194304 < period) := by
  simp only [badPeriod, Bool.and_eq_true, Bool.not_eq_true', decide_eq_true_eq, Bool.and_eq_false_iff, decide_eq_false_iff_not,
    not_le, ne_eq]

theorem badCells_iff (k : Class) (cells : List CellKey) : badCells k cells = true ↔
    (k = .measure ∧ (cells = [] ∨ 4 < cells.length)) ∨ (k ≠ .measure ∧ cells ≠ [])
      ∨ ∃ key ∈ cells, 1023 < key.identity.toNat := by
  unfold badCells
  cases k <;> simp [or_assoc]

theorem badReserve_iff (now : Time) (k : Class) (emergency : Bool) (desired : Time) (slack length : Nat) (band : Byte)
    (period : Nat) (session : Option Handle) (cells : List CellKey) :
    badReserve now k emergency desired slack length band period session cells = true ↔
      (emergency = true ∧ k ≠ .access) ∨ length < 8 ∨ 7 < band.toNat
      ∨ (atOrAfter desired (now + 16777216) = true ∧ before desired now = false)
      ∨ (period ≠ 0 ∧ (period < length + slack + 4 ∨ 4194304 < period))
      ∨ (k = .measure ∧ (cells = [] ∨ 4 < cells.length)) ∨ (k ≠ .measure ∧ cells ≠ [])
      ∨ (∃ key ∈ cells, 1023 < key.identity.toNat) ∨ (session ≠ none ∧ k ≠ .access) := by
  simp only [badReserve, Bool.or_eq_true, Bool.and_eq_true, decide_eq_true_eq, farStart_iff, badPeriod_iff, badCells_iff,
    Option.isSome_iff_ne_none, or_assoc]

theorem badSession_iff (c : Core) (x : Sub) (session : Option Handle) : badSession c x session = true ↔
    ∃ h, session = some h ∧ ∀ n v, c.session h = some n → n.body = .voice v → n.owner ≠ x := by
  cases session with
  | none => simp [badSession]
  | some h =>
    have hopen : openCall c x h = true ↔ ∃ n v, c.session h = some n ∧ n.body = .voice v ∧ n.owner = x := by
      unfold openCall
      cases hs : c.session h with
      | none => simp
      | some n => cases hb : n.body <;> simp [hb]
    rw [badSession, Bool.not_eq_true', ← Bool.not_eq_true, hopen]
    simp only [not_exists, not_and, Option.some.injEq, exists_eq_left']

theorem badSession_restartMonitor (port : Port) (s : State) (x : Sub) (session : Option Handle) :
    badSession (restartMonitor port s).core x session = badSession s.core x session := by
  cases session <;> simp [badSession, openCall]

theorem takenSlack_eq (slack : Half) : takenSlack slack = min 16383 slack.toNat := by simp [takenSlack, clamp]

theorem tellRefusedPage_created (r : Reservation) (h : Handle) (t : Time) (c : Core) :
    tellRefusedPage r (.created h t) c = c := by
  unfold tellRefusedPage
  split <;> simp_all

theorem tellRefusedPage_tooLate (r : Reservation) (c : Core) : tellRefusedPage r .tooLate c = c := by
  unfold tellRefusedPage
  split <;> simp_all

theorem tellRefusedPage_conflict (r : Reservation) (refused : Bool) (c : Core) :
    tellRefusedPage r (.conflict refused) c =
      if r.cls = .page ∧ refused = true then c.tell (.pageLost r.owner) else c := by
  unfold tellRefusedPage
  split
  · rename_i hc hr
    rw [if_pos ⟨hc, by simpa using hr⟩]
  · rename_i h
    rw [if_neg]
    rintro ⟨hc, rfl⟩
    exact h hc rfl

theorem takeRequest_stack_answers {x : Sub} {seq : Byte} {needs : Bool} {s : State} {a : Answer} (h : Acts s x)
    {run : Sub → State → Answer} (hrun : run x (restartMonitor (.stack x) s) = a) :
    takeRequest (.stack x) seq ⟨needs, .stack run⟩ s = .next (a.state.answerSlot (.stack x) ⟨seq, a.status, a.payload⟩) := by
  obtain ⟨hready, hattached⟩ := h
  simp [takeRequest_ready hready, Request.judge, hattached, hrun]

section
variable {x : Sub} {seq cls band : Byte} {emergency : Bool} {desired : Time} {slack length frequency count : Half}
  {period : BitVec 32} {session : Option Handle} {cells : List CellKey} {s : State} {k : Class}

/-- What the body of RESERVE does with a class it may name. -/
theorem reserve_turnedAway (acts : Acts s x) (hk : reservable (Class.ofCode cls) = some k) {status : Status}
    (h : (badReserve s.env.count k emergency desired (min 16383 slack.toNat) length.toNat band period.toNat session
          cells = true ∧ status = .badParam)
      ∨ (badReserve s.env.count k emergency desired (min 16383 slack.toNat) length.toNat band period.toNat session
          cells = false ∧ ((badSession s.core x session = true ∧ status = .noSession)
        ∨ (badSession s.core x session = false ∧ (k = .access ∧ emergency = false ∧ s.env.supply = .low)
            ∧ status = .supplyLow)))) :
    exec (.reserve (.stack x) seq cls emergency desired slack length frequency band period count session cells) s =
      .next ((restartMonitor (.stack x) s).turnedAway (.stack x) seq status) := by
  refine takeRequest_stack_refuse acts ?_
  simp only [hk, restartMonitor_env, takenSlack_eq, badSession_restartMonitor]
  rcases h with ⟨hb, rfl⟩ | ⟨hb, ⟨hs, rfl⟩ | ⟨hs, hl, rfl⟩⟩
  · rw [if_pos hb]
  · rw [if_neg (by simp [hb]), if_pos hs]
  · rw [if_neg (by simp [hb]), if_neg (by simp [hs]), if_pos hl]

/-- A RESERVE that passes its checks answers what its creation answers. -/
theorem reserve_created (acts : Acts s x) (hk : reservable (Class.ofCode cls) = some k)
    (hb : badReserve s.env.count k emergency desired (min 16383 slack.toNat) length.toNat band period.toNat session cells
      = false)
    (hs : badSession s.core x session = false) (hl : k = .access → emergency = false → s.env.supply ≠ .low)
    {r : Reservation} (hr : r = reserveRecord x k emergency desired slack length frequency band period count session cells)
    {c : Core} {made : Creation} (hc : createRecord s.env r (restartMonitor (.stack x) s).core = (c, made)) {a : Answer}
    (ha : a = answerCreation (restartMonitor (.stack x) s) (tellRefusedPage r made c) made) :
    exec (.reserve (.stack x) seq cls emergency desired slack length frequency band period count session cells) s =
      .next (a.state.answerSlot (.stack x) ⟨seq, a.status, a.payload⟩) := by
  have hl' : ¬(k = .access ∧ emergency = false ∧ s.env.supply = .low) := fun ⟨h1, h2, h3⟩ => hl h1 h2 h3
  refine takeRequest_stack_answers acts ?_
  subst hr
  simp only [hk, restartMonitor_env, takenSlack_eq, badSession_restartMonitor, hb, hs, if_neg hl', Bool.false_eq_true,
    if_false, hc, ha]

end

/-- The record of the statement is the one a RESERVE asks for. -/
theorem reserveRecord_eq (x : Sub) (k : Class) (emergency : Bool) (desired : Time) (slack length frequency : Half)
    (band : Byte) (period : BitVec 32) (count : Half) (session : Option Handle) (cells : List CellKey) :
    reserveRecord x k emergency desired slack length frequency band period count session cells =
      { newRecord x k desired (min 16383 slack.toNat) length.toNat frequency (band.setWidth 3) with
        emergency := emergency
        repeats := if period.toNat = 0 then none else some ⟨period.toNat, min 255 count.toNat⟩
        session := session
        cells := cells } := by
  rw [reserveRecord, takenSlack_eq, repeatsOf]
  simp [clamp, bandOf]

/-- Settles O30. -/
theorem reserveCreates : Obligations.ReserveCreates := by
  unfold Obligations.ReserveCreates
  refine ⟨fun x seq cls emergency desired slack length frequency band period count session cells s s1 acts hs1 =>
      ⟨fun hk => ?_, fun k bad hk hbad => ⟨fun h => ?_, fun h hs => ?_, fun h hs ha hem hlow => ?_⟩⟩,
    reservable_cases, badReserve_iff, badSession_iff,
    fun x seq cls emergency desired slack length frequency band period count session cells s k r c acts hk hb hs hl hr =>
      ⟨fun h t hc => ?_, fun hc => ?_, fun hc => ?_, fun refused hc => ?_⟩⟩
  · subst hs1
    refine takeRequest_stack_refuse acts ?_
    simp only [hk]
  · subst hs1 hbad
    exact reserve_turnedAway acts hk (.inl ⟨h, rfl⟩)
  · subst hs1 hbad
    exact reserve_turnedAway acts hk (.inr ⟨h, .inl ⟨hs, rfl⟩⟩)
  · subst hs1 hbad
    exact reserve_turnedAway acts hk (.inr ⟨h, .inr ⟨hs, ⟨ha, hem, hlow⟩, rfl⟩⟩)
  · rw [← reserveRecord_eq] at hr
    rw [reserve_created acts hk hb hs hl hr hc rfl, tellRefusedPage_created]
    rfl
  · rw [← reserveRecord_eq] at hr
    rw [reserve_created acts hk hb hs hl hr hc rfl]
    rfl
  · rw [← reserveRecord_eq] at hr
    rw [reserve_created acts hk hb hs hl hr hc rfl, tellRefusedPage_tooLate]
    rfl
  · have hcls : r.cls = k := by rw [hr]; rfl
    have howner : r.owner = x := by rw [hr]; rfl
    rw [← reserveRecord_eq] at hr
    rw [reserve_created acts hk hb hs hl hr hc rfl, tellRefusedPage_conflict, hcls, howner]
    rfl

/-! ### What a record's end leaves (R14, R15, R23) -/

theorem tableNotice_rcc (e : Env) (c : Core) : (tableNotice e c).rcc = c.rcc := by
  obtain ⟨p, b, h⟩ := tableNotice_frame e c
  rw [h]

theorem freedNotice_tla (e : Env) (c : Core) : (freedNotice e c).tla = c.tla := tableNotice_tla e c

/-- The end of a record takes it out of the table, and nothing else of the Timeline Arbiter's. -/
theorem endRecord_tla (e : Env) (reason : EndReason) (reported : Bool) (r : Reservation) (c : Core) :
    (endRecord e reason reported r c).tla = (c.dropRecord r.handle).tla := by
  unfold endRecord
  rw [freedNotice_tla, Core.tell_tla]
  split <;> split <;> simp [postEnded, postKilled]

theorem endRecord_reservation (e : Env) (reason : EndReason) (reported : Bool) (r : Reservation) (c : Core) :
    (endRecord e reason reported r c).reservation r.handle = none := by
  rw [reservation_of_tla_eq (endRecord_tla e reason reported r c), dropRecord_same]

theorem endRecord_silent (e : Env) (reason : EndReason) (r : Reservation) (c : Core) :
    endRecord e reason false r c = freedNotice e ((c.dropRecord r.handle).tell
      (.recordEnded r.handle r.owner r.cls (some reason) r.session r.endTime)) := rfl

theorem stopOccurrence_active {e : Env} {r : Reservation} {c : Core} (h : r.state = .active) :
    stopOccurrence e r c = truncate e r c := by simp only [stopOccurrence, h]

theorem stopOccurrence_preparing {e : Env} {r : Reservation} {c : Core} (h : r.state = .preparing) :
    stopOccurrence e r c = dropPreparation e r.handle c := by simp only [stopOccurrence, h]

theorem stopOccurrence_idle {e : Env} {r : Reservation} {c : Core} (ha : r.state ≠ .active) (hp : r.state ≠ .preparing) :
    stopOccurrence e r c = c := by
  unfold stopOccurrence
  split
  · exact absurd ‹_› hp
  · exact absurd ‹_› ha
  · rfl

/-! ### Closing a preparation and a view (R131, R137) -/

theorem closePrep_other {r : Rcc} {h : Handle} (hp : ∀ p ∈ r.prep, p.handle ≠ h) : r.closePrep h = r := by
  unfold Rcc.closePrep
  split
  · rfl
  · rename_i p hprep
    rw [if_neg (hp p hprep)]

theorem closePrep_same {r : Rcc} {h : Handle} {p : Prep} (hp : r.prep = some p) (hh : p.handle = h) :
    r.closePrep h = { r with prep := none, bus := r.bus.map Transfer.drop } := by
  simp only [Rcc.closePrep, hp, if_pos hh]

theorem viewNone_other {e : Env} {h : Handle} {c : Core} (hv : ∀ v ∈ c.rcc.view, v.handle ≠ h) : viewNone e h c = c := by
  unfold viewNone
  split
  · rfl
  · rename_i v hview
    rw [if_neg (hv v hview)]

theorem viewNone_same {e : Env} {h : Handle} {c : Core} {v : RccView} (hview : c.rcc.view = some v) (hh : v.handle = h) :
    viewNone e h c = examineIfHeld e v.owner (examineIfHeld e v.owner.other
      { c with rcc := { c.rcc with view := none } }) := by
  simp only [viewNone, hview, if_pos hh]

theorem headExaminable_iff (c : Core) (x : Sub) : c.headExaminable x = true ↔
    ∃ t, (c.bridge x).queue.head? = some t ∧ t.state ≠ .inFlight ∧ t.state ≠ .restarting := by
  unfold Core.headExaminable
  cases (c.bridge x).queue <;> simp

/-! ### WITHDRAW and STAGE (R34, R36, R38, R39) -/

theorem ownRecord_none {x : Sub} {h : Handle} {s : State} {go : Reservation → Answer} (hr : s.core.reservation h = none) :
    ownRecord x h s go = refuse .noSuch s := by simp only [ownRecord, hr]

theorem ownRecord_foreign {x : Sub} {h : Handle} {s : State} {go : Reservation → Answer} {r : Reservation}
    (hr : s.core.reservation h = some r) (ho : r.owner ≠ x) : ownRecord x h s go = refuse .notOwner s := by
  simp only [ownRecord, hr, if_neg ho]

theorem ownRecord_own {x : Sub} {h : Handle} {s : State} {go : Reservation → Answer} {r : Reservation}
    (hr : s.core.reservation h = some r) (ho : r.owner = x) : ownRecord x h s go = go r := by
  simp only [ownRecord, hr, if_pos ho]

theorem ownedElsewhere_iff (k : Class) : k.ownedElsewhere = true ↔ k = .voice ∨ k = .text ∨ k = .search := by
  cases k <;> simp [Class.ownedElsewhere]

theorem ownedElsewhere_false (k : Class) : k.ownedElsewhere = false ↔ k = .access ∨ k = .page ∨ k = .measure := by
  cases k <;> simp [Class.ownedElsewhere]

theorem ofByte_iff (b : Byte) (d : Device) : Device.ofByte b = some d ↔ b.toNat = d.number := by
  revert b
  cases d <;> decide

theorem presentDevice_some {e : Env} {b : Byte} {d : Device} (h : Device.ofByte b = some d) (hd : e.has d = true) :
    presentDevice e b = some d := by simp [presentDevice, h, hd]

theorem presentDevice_none {e : Env} {b : Byte} (h : ∀ d, Device.ofByte b = some d → e.has d = false) :
    presentDevice e b = none := by
  unfold presentDevice
  split
  · rfl
  · rename_i d hd
    simp [h d hd]

/-- Settles O36. -/
theorem withdrawAndStage : Obligations.WithdrawAndStage := by
  unfold Obligations.WithdrawAndStage
  refine ⟨fun x seq h c s s1 acts hs1 hc => ⟨fun hr => ?_, fun r hr ho => ?_⟩,
    fun x seq h r s s1 acts hs1 hr ho => ⟨fun hcls => ?_, fun device register value => ⟨fun hd => ?_,
      fun d hd hhas hg hfull => ?_⟩⟩, ofByte_iff,
    fun x seq h r s acts hr ho => ⟨fun hcls => ?_, fun device register value d hd hhas => ⟨fun hg hroom => ?_, fun hg => ?_⟩⟩,
    fun e reason reported r c => ⟨?_, fun hg => ?_⟩, fun e h c => ⟨fun hp => ?_, fun p hp hh => ?_⟩,
    fun e h c => ⟨viewNone_other, fun v closed other hv hh hclosed hother => ?_⟩, headExaminable_iff⟩
  · subst hs1
    obtain rfl | ⟨device, register, value, rfl⟩ := hc
    · exact takeRequest_stack_refuse acts (ownRecord_none (by simpa using hr))
    · exact takeRequest_stack_refuse acts (ownRecord_none (by simpa using hr))
  · subst hs1
    obtain rfl | ⟨device, register, value, rfl⟩ := hc
    · exact takeRequest_stack_refuse acts (ownRecord_foreign (by simpa using hr) ho)
    · exact takeRequest_stack_refuse acts (ownRecord_foreign (by simpa using hr) ho)
  · subst hs1
    refine takeRequest_stack_refuse acts ((ownRecord_own (by simpa using hr) ho).trans ?_)
    rw [if_pos ((ownedElsewhere_iff _).mpr hcls)]
  · subst hs1
    refine takeRequest_stack_refuse acts ((ownRecord_own (by simpa using hr) ho).trans ?_)
    simp only [restartMonitor_env, presentDevice_none hd]
  · subst hs1
    refine takeRequest_stack_refuse acts ((ownRecord_own (by simpa using hr) ho).trans ?_)
    have hfull' : Config.stagedSize ≤ r.staged.length := hfull
    simp [presentDevice_some hd hhas, hg, hfull']
  · refine takeRequest_stack_accept acts ((ownRecord_own (by simpa using hr) ho).trans ?_)
    rw [(ownedElsewhere_false _).mpr hcls]
    rfl
  · refine takeRequest_stack_accept acts ((ownRecord_own (by simpa using hr) ho).trans ?_)
    have hroom' : ¬Config.stagedSize ≤ r.staged.length := not_le.mpr hroom
    simp [presentDevice_some hd hhas, hg, hroom', Core.editReservation, bytes8]
  · refine takeRequest_stack_refuse acts ((ownRecord_own (by simpa using hr) ho).trans ?_)
    simp [presentDevice_some hd hhas, hg]
  · exact endRecord_reservation e reason reported r _
  · rw [withdrawRecord, stopOccurrence_idle (by simp [hg]) (by simp [hg]), endRecord_silent]
    exact ⟨tableNotice_pif e _, tableNotice_rcc e _, tableNotice_tla e _⟩
  · rw [dropPreparation, closePrep_other hp]
    rfl
  · rw [dropPreparation, closePrep_same hp hh]
    rfl
  · subst hclosed hother
    exact viewNone_same hv hh

/-! ### The preparation of a window (R28, R131, R132) -/

/-- A reaction that leaves its core to another's. -/
theorem react_congr {s : State} {f g : Env → Core → Core} (h : f s.env s.core = g s.env s.core) : s.react f = s.react g := by
  simp only [State.react, h]

theorem due_first {α : Type} {ok : α → Bool} {due : α → Prop} (hdue : ∀ q, ok q = true ↔ due q) {l : List α} :
    (∀ earlier r later, l = earlier ++ r :: later → due r → (∀ q ∈ earlier, ¬due q) → l.find? ok = some r)
    ∧ ((∀ q ∈ l, ¬due q) → l.find? ok = none) := by
  refine ⟨fun earlier r later hl hr he => ?_, fun h => ?_⟩
  · rw [hl]
    exact find_first ((hdue r).mpr hr) fun b hb => by simpa using mt (hdue b).mp (he b hb)
  · rw [List.find?_eq_none]
    exact fun q hq => mt (hdue q).mp (h q hq)

theorem takePreparation_some {e : Env} {c : Core} {r : Reservation} (h : duePreparation e c = some r) :
    takePreparation e c = askPreparation e r.handle c := by simp only [takePreparation, h]

theorem takePreparation_none {e : Env} {c : Core} (h : duePreparation e c = none) : takePreparation e c = c := by
  simp only [takePreparation, h]

theorem handle_of_reservation {c : Core} {h : Handle} {r : Reservation} (hr : c.reservation h = some r) : r.handle = h := by
  simpa using List.find?_some hr

theorem mem_of_reservation {c : Core} {h : Handle} {r : Reservation} (hr : c.reservation h = some r) :
    r ∈ c.tla.table := List.mem_of_find?_eq_some hr

/-- A change of a record that keeps its handle is what the handle names afterwards. -/
theorem editReservation_some {c : Core} {h : Handle} {f : Reservation → Reservation} {r : Reservation}
    (hf : ∀ r, (f r).handle = r.handle) (hr : c.reservation h = some r) :
    (c.editReservation h f).reservation h = some (f r) := by
  rw [editReservation_same c h f hf, hr]
  rfl

theorem forceAwake_rcc (c : Core) : (forceAwake c).rcc = c.rcc := by
  obtain ⟨p, h⟩ := forceAwake_frame c
  rw [h]

theorem forceAwake_sleep (c : Core) : (forceAwake c).psc.sleep = .awake := by
  unfold forceAwake
  split
  · assumption
  all_goals rfl

theorem examineIfHeld_psc (e : Env) (x : Sub) (c : Core) : (examineIfHeld e x c).psc = c.psc := by
  unfold examineIfHeld
  obtain ⟨-, -, -, -, -, h, -⟩ := examine_frame e x c
  split
  · exact h
  · rfl

theorem examineIfHeld_view (e : Env) (x : Sub) (c : Core) : (examineIfHeld e x c).rcc.view = c.rcc.view := by
  unfold examineIfHeld
  obtain ⟨-, -, -, -, -, -, h, -⟩ := examine_frame e x c
  split
  · exact h
  · rfl

theorem examineIfHeld_prep (e : Env) (x : Sub) (c : Core) : (examineIfHeld e x c).rcc.prep = c.rcc.prep := by
  unfold examineIfHeld
  obtain ⟨-, -, -, -, -, -, -, h, -⟩ := examine_frame e x c
  split
  · exact h
  · rfl

theorem headDeferred_iff (c : Core) (x : Sub) : c.headDeferred x = true ↔
    ∃ t, (c.bridge x).queue.head? = some t ∧ t.state = .deferred := by
  unfold Core.headDeferred
  cases (c.bridge x).queue <;> simp

theorem viewPreparing_eq (e : Env) (x : Sub) (h : Handle) (c : Core) : viewPreparing e x h c =
    if (examineIfHeld e x.other { c with rcc := { c.rcc with view := some ⟨x, h, false⟩ } }).headDeferred x = true
      then examine e x (examineIfHeld e x.other { c with rcc := { c.rcc with view := some ⟨x, h, false⟩ } })
      else examineIfHeld e x.other { c with rcc := { c.rcc with view := some ⟨x, h, false⟩ } } := rfl

/-- A view that shows a window being prepared leaves the rest of the controller's own records. -/
theorem viewPreparing_frame (e : Env) (x : Sub) (h : Handle) (c : Core) :
    (viewPreparing e x h c).psc = c.psc ∧ (viewPreparing e x h c).rcc.view = some ⟨x, h, false⟩
      ∧ (viewPreparing e x h c).rcc.prep = c.rcc.prep := by
  rw [viewPreparing_eq]
  have hpsc := examineIfHeld_psc e x.other { c with rcc := { c.rcc with view := some ⟨x, h, false⟩ } }
  have hview := examineIfHeld_view e x.other { c with rcc := { c.rcc with view := some ⟨x, h, false⟩ } }
  have hprep := examineIfHeld_prep e x.other { c with rcc := { c.rcc with view := some ⟨x, h, false⟩ } }
  split
  · obtain ⟨-, -, -, -, -, h1, h2, h3, -⟩ :=
      examine_frame e x (examineIfHeld e x.other { c with rcc := { c.rcc with view := some ⟨x, h, false⟩ } })
    exact ⟨h1.trans hpsc, h2.trans hview, h3.trans hprep⟩
  · exact ⟨hpsc, hview, hprep⟩

/-- The preparation record of an occurrence. -/
def newPrep (e : Env) (r : Reservation) (c : Core) : Prep where
  owner := r.owner
  handle := r.handle
  cls := r.cls
  staged := r.staged
  step := .awaitingPower
  position := 0
  tuningAtStart := c.rcc.tuningLive
  tuningChanged := false
  awaited := awaitedDevices e r c
  requests := (awaitedDevices e r c).filter fun d => (c.power d).isOffOrFalling

theorem beginPreparation_eq (e : Env) (r : Reservation) (c : Core) : beginPreparation e r c =
    viewPreparing e r.owner r.handle
      { c with rcc := { c.rcc with prep := some (newPrep e r c), bus := c.rcc.bus.map Transfer.drop } } := rfl

theorem mem_awaitedDevices (e : Env) (r : Reservation) (c : Core) (d : Device) : d ∈ awaitedDevices e r c ↔
    e.has d = true ∧ (r.cls.requires d = true ∨ c.rcc.holdsContext r.owner d = true ∨ ∃ w ∈ r.staged, w.device = d) := by
  simp [awaitedDevices, Device.mem_all, or_assoc]

/-- An occurrence that is there is asked for in the part brought AWAKE, with its record PREPARING. -/
theorem askPreparation_eq {e : Env} {h : Handle} {r : Reservation} {c : Core} (hr : c.reservation h = some r) :
    askPreparation e h c = beginPreparation e { r with state := .preparing }
      ((forceAwake c).editReservation h fun q => { q with state := .preparing }) := by
  have hawake : ((forceAwake c).editReservation h fun q => { q with state := .preparing }).reservation h
      = some { r with state := .preparing } :=
    editReservation_some (fun _ => rfl) ((reservation_of_tla_eq (forceAwake_tla c) h).trans hr)
  simp only [askPreparation, hawake]

/-- Settles O37. -/
theorem preparationAsked : Obligations.PreparationAsked := by
  unfold Obligations.PreparationAsked
  refine ⟨fun s running => ⟨fun r hr => ?_, fun hr => ?_⟩, fun e c due hdue => due_first fun q => ?_,
    fun e h r c t hr ht => ?_, fun e x h c shown other hshown hother => ⟨fun hdef => ?_, fun hdef => ?_⟩⟩
  · rw [exec_runs rfl running]
    exact congrArg _ (react_congr (g := fun e c => askPreparation e r.handle c) (takePreparation_some hr))
  · rw [exec_runs rfl running]
    exact congrArg _ (react_congr (g := fun _ c => c) (takePreparation_none hr))
  · rw [hdue, Bool.and_eq_true, decide_eq_true_eq]
    rfl
  · obtain rfl := handle_of_reservation hr
    obtain ⟨asked, hasked⟩ : ∃ asked, asked = (forceAwake c).editReservation r.handle fun q =>
      { q with state := .preparing } := ⟨_, rfl⟩
    have hres : asked.reservation r.handle = some { r with state := .preparing } := by
      rw [hasked]
      exact editReservation_some (fun _ => rfl) ((reservation_of_tla_eq (forceAwake_tla c) _).trans hr)
    have hrcc : asked.rcc = c.rcc := by rw [hasked]; exact forceAwake_rcc c
    have hpower : ∀ d, asked.power d = c.power d := fun d => by rw [hasked]; exact forceAwake_power c d
    have hsleep : asked.psc.sleep = .awake := by rw [hasked]; exact forceAwake_sleep c
    have ht' : t = viewPreparing e r.owner r.handle { asked with rcc := { asked.rcc with
        prep := some (newPrep e { r with state := .preparing } asked), bus := asked.rcc.bus.map Transfer.drop } } := by
      rw [← ht, askPreparation_eq hr, beginPreparation_eq, ← hasked]
    obtain ⟨hpsc, hview, hprep⟩ := viewPreparing_frame e r.owner r.handle { asked with rcc := { asked.rcc with
        prep := some (newPrep e { r with state := .preparing } asked), bus := asked.rcc.bus.map Transfer.drop } }
    rw [← ht'] at hpsc hview hprep
    refine ⟨?_, ?_, hview, newPrep e { r with state := .preparing } asked, hprep, rfl, rfl, rfl, rfl, rfl, rfl, ?_, rfl,
      fun d => ?_, fun d => ?_, ?_⟩
    · rw [ht', reservation_of_tla_eq (viewPreparing_tla ..)]
      exact hres
    · rw [hpsc]
      exact hsleep
    · exact congrArg Rcc.tuningLive hrcc
    · rw [← hrcc]
      exact mem_awaitedDevices ..
    · rw [← hpower]
      exact List.mem_filter
    · rw [← hasked, ht', hrcc]
      rfl
  · subst hshown hother
    exact (viewPreparing_eq e x h c).trans (if_pos ((headDeferred_iff ..).mpr hdef))
  · subst hshown hother
    refine (viewPreparing_eq e x h c).trans (if_neg fun hd => ?_)
    obtain ⟨t, ht, hs⟩ := (headDeferred_iff ..).mp hd
    exact hdef t ht hs

/-! ### What an evaluation and the closing of the views leave (R82 to R84, R98 to R102) -/

/-- An evaluation and its events leave every record but the Measurement Unit's tables, the Handover Evaluator's, the event
queues and the monitors. -/
def LeavesAllButCells (c d : Core) : Prop :=
  d.tla = c.tla ∧ d.smg = c.smg ∧ d.csc = c.csc ∧ d.rcc = c.rcc ∧ d.psc = c.psc ∧ d.notices = c.notices
    ∧ d.evaluate = c.evaluate ∧ d.msu.view = c.msu.view ∧ d.msu.stray = c.msu.stray

theorem LeavesAllButCells.trans {c d f : Core} (h1 : LeavesAllButCells c d) (h2 : LeavesAllButCells d f) :
    LeavesAllButCells c f := by
  obtain ⟨a1, a2, a3, a4, a5, a6, a7, a8, a9⟩ := h1
  obtain ⟨b1, b2, b3, b4, b5, b6, b7, b8, b9⟩ := h2
  exact ⟨b1.trans a1, b2.trans a2, b3.trans a3, b4.trans a4, b5.trans a5, b6.trans a6, b7.trans a7, b8.trans a8, b9.trans a9⟩

theorem LeavesAllButCells.refl (c : Core) : LeavesAllButCells c c := ⟨rfl, rfl, rfl, rfl, rfl, rfl, rfl, rfl, rfl⟩

theorem post_leaves (e : Env) (port : Port) (ev : Event) (c : Core) : LeavesAllButCells c (post e port ev c) := by
  obtain h | h | ⟨x, m, -, h⟩ := post_cases e port ev c <;> rw [h] <;> exact .refl c

theorem postAll_leaves (e : Env) (port : Port) (evs : List Event) (c : Core) :
    LeavesAllButCells c (postAll e port evs c) := by
  induction evs generalizing c with
  | nil => exact .refl c
  | cons ev evs ih => exact (post_leaves e port ev c).trans (ih _)

theorem resetTiming_leaves (x : Sub) (c : Core) : LeavesAllButCells c (resetTiming x c) := by
  unfold resetTiming
  simp only
  split <;> exact .refl c

theorem evaluateHandover_leaves (e : Env) (x : Sub) (c : Core) : LeavesAllButCells c (evaluateHandover e x c) := by
  unfold evaluateHandover
  simp only
  split
  · exact .refl c
  · split
    · exact resetTiming_leaves x c
    · exact LeavesAllButCells.trans (.refl c) (postAll_leaves ..)

/-- Closing the Measurement Unit's view leaves it without a view. -/
theorem closeView_leaves (e : Env) (t : Time) (c : Core) :
    LeavesAllButCells { c with msu := { c.msu with view := none } } (closeView e t c) := by
  unfold closeView
  split
  · rename_i h
    exact ⟨rfl, rfl, rfl, rfl, rfl, rfl, rfl, h, rfl⟩
  · simp only
    split
    · exact LeavesAllButCells.trans (.refl _) (evaluateHandover_leaves ..)
    · exact .refl _

theorem viewNone_tla (e : Env) (h : Handle) (c : Core) : (viewNone e h c).tla = c.tla := by
  unfold viewNone
  split
  · rfl
  · simp only
    split
    · rw [examineIfHeld_tla, examineIfHeld_tla]
    · rfl

theorem closeWindow_tla (e : Env) (t : Time) (r : Reservation) (c : Core) :
    (closeWindow e t r c).tla = { c.tla with rxEn := false, txEn := false } := by
  obtain ⟨htla, -⟩ := closeView_leaves e t (viewNone e r.handle (lowerLines c))
  exact htla.trans (viewNone_tla e r.handle (lowerLines c))

theorem closeWindow_view (e : Env) (t : Time) (r : Reservation) (c : Core) : (closeWindow e t r c).msu.view = none := by
  obtain ⟨-, -, -, -, -, -, -, hview, -⟩ := closeView_leaves e t (viewNone e r.handle (lowerLines c))
  exact hview

/-! ### A window goes ACTIVE (R29, R33, R114) -/

theorem searchStarted_placed {r : Reservation} {c : Core} (h : (c.csc.get r.owner).phase = .placed r.handle) :
    searchStarted r c = c.setSearch r.owner { c.csc.get r.owner with phase := .listening r.handle none 0 } := by
  simp only [searchStarted, h, if_true]

theorem searchStarted_other {r : Reservation} {c : Core} (h : (c.csc.get r.owner).phase ≠ .placed r.handle) :
    searchStarted r c = c := by
  unfold searchStarted
  split
  · rename_i h' hp
    rw [if_neg]
    rintro rfl
    exact h hp
  · rfl

/-- What the neighbours told of an ACTIVE window change: the search record of a SEARCH window's owner, and a notice for a PAGE
window. -/
theorem tellActive_eq (r : Reservation) (c : Core) :
    ∃ csc, tellActive r c = { c with
        csc := csc, notices := if r.cls = .page then c.notices ++ [.pageActive r.owner] else c.notices }
      ∧ (r.cls = .search → (c.csc.get r.owner).phase = .placed r.handle →
        csc = c.csc.set r.owner { c.csc.get r.owner with phase := .listening r.handle none 0 })
      ∧ ((r.cls ≠ .search ∨ (c.csc.get r.owner).phase ≠ .placed r.handle) → csc = c.csc) := by
  unfold tellActive
  split
  · rename_i hcls
    by_cases hp : (c.csc.get r.owner).phase = .placed r.handle
    · exact ⟨_, by rw [searchStarted_placed hp, hcls]; rfl, fun _ _ => rfl, by simp [hcls, hp]⟩
    · exact ⟨_, by rw [searchStarted_other hp, hcls]; rfl, fun _ h => absurd h hp, fun _ => rfl⟩
  · rename_i hcls
    exact ⟨_, by rw [hcls]; rfl, by simp [hcls], fun _ => rfl⟩
  · rename_i hs hp
    exact ⟨_, by rw [if_neg hp], fun h => absurd h hs, fun _ => rfl⟩

theorem activate_eq (retune : Bool) (r : Reservation) (c : Core) :
    ∃ csc, activate retune r c = { c.editReservation r.handle (fun q =>
          { q with state := .active, lost := 0, waiting := false }) with
        tla := { (c.editReservation r.handle fun q => { q with state := .active, lost := 0, waiting := false }).tla with
          band := r.band, subSel := r.owner, rxEn := r.cls.receives, txEn := r.cls.transmits }
        msu := { c.msu with view := some ⟨r.owner, r.cls, retune, r.cells, []⟩ }
        csc := csc
        rcc := { c.rcc with view := some ⟨r.owner, r.handle, true⟩, poweredSince := false }
        notices := if r.cls = .page then c.notices ++ [.pageActive r.owner] else c.notices }
      ∧ (r.cls = .search → (c.csc.get r.owner).phase = .placed r.handle →
        csc = c.csc.set r.owner { c.csc.get r.owner with phase := .listening r.handle none 0 })
      ∧ ((r.cls ≠ .search ∨ (c.csc.get r.owner).phase ≠ .placed r.handle) → csc = c.csc) := by
  obtain ⟨csc, h, hplaced, hother⟩ := tellActive_eq r
    { raiseLines r (c.editReservation r.handle fun q => { q with state := .active, lost := 0, waiting := false }) with
      msu := { c.msu with view := some ⟨r.owner, r.cls, retune, r.cells, []⟩ } }
  exact ⟨csc, congrArg (viewActive r.owner r.handle) h, hplaced, hother⟩

/-- What a post leaves of the event queues rests on the queues and the stacks alone. -/
theorem post_pif_congr (e : Env) (port : Port) (ev : Event) {c d : Core} (hp : d.pif = c.pif) (hs : d.ssv = c.ssv) :
    (post e port ev d).pif = (post e port ev c).pif := by
  rcases port with x | _
  · have hatt : d.attached x = c.attached x := by rw [Core.attached, Core.attached, hs]
    simp only [post, hatt, hp]
    split
    · split
      · obtain h1 | ⟨m, h1⟩ := startMonitor_cases e x
          { d with pif := c.pif.set (.stack x) ((c.pif.get (.stack x)).join ev) } <;>
        obtain h2 | ⟨n, h2⟩ := startMonitor_cases e x
          { c with pif := c.pif.set (.stack x) ((c.pif.get (.stack x)).join ev) } <;>
        rw [h1, h2] <;> rfl
      · rfl
    · exact hp
  · simp only [post, hp]

theorem isRetune_iff (c : Core) (p : Prep) : isRetune c p = true ↔
    c.rcc.tuning = none ∨ p.tuningAtStart = none ∨ p.tuningChanged = true ∨ c.rcc.poweredSince = true := by
  simp only [isRetune, Bool.or_eq_true, Option.isNone_iff_eq_none, or_assoc]

theorem receives_iff (k : Class) : k.receives = true ↔ k = .page ∨ k = .measure ∨ k = .search ∨ k = .voice := by
  cases k <;> simp [Class.receives]

theorem transmits_iff (k : Class) : k.transmits = true ↔ k = .access ∨ k = .text ∨ k = .voice := by
  cases k <;> simp [Class.transmits]

theorem activate_reservation {retune : Bool} {r q : Reservation} {c : Core} (h : c.reservation r.handle = some q) :
    (activate retune r c).reservation r.handle = some { q with state := .active, lost := 0, waiting := false } := by
  obtain ⟨csc, hact, -⟩ := activate_eq retune r c
  rw [hact]
  exact editReservation_some (f := fun q => { q with state := .active, lost := 0, waiting := false }) (fun _ => rfl) h

theorem activate_posting (retune : Bool) (r : Reservation) (c : Core) :
    (activate retune r c).pif = c.pif ∧ (activate retune r c).ssv = c.ssv := by
  obtain ⟨csc, hact, -⟩ := activate_eq retune r c
  rw [hact]
  exact ⟨rfl, rfl⟩

/-! ### WINDOW_START and the end of a preparation (R29, R30, R135) -/

theorem dueStart_iff (e : Env) (c : Core) (q : Reservation) :
    (decide (q.state = .preparing) && !q.waiting && reached e.count q.start && before e.count q.endTime
      && decide (c.rcc.view.map RccView.handle = some q.handle)) = true ↔
    q.state = .preparing ∧ q.waiting = false ∧ atOrAfter e.count q.start = true
      ∧ before e.count (q.start + tu q.length) = true ∧ ∃ v, c.rcc.view = some v ∧ v.handle = q.handle := by
  rw [Bool.and_eq_true, Bool.and_eq_true, Bool.and_eq_true, Bool.and_eq_true, decide_eq_true_eq, decide_eq_true_eq,
    Bool.not_eq_true', Option.map_eq_some_iff, and_assoc, and_assoc, and_assoc]
  rfl

theorem takeStart_none {e : Env} {c : Core} (h : dueStart e c = none) : takeStart e c = c := by simp only [takeStart, h]

theorem takeStart_waits {e : Env} {c : Core} {r : Reservation} (h : dueStart e c = some r) (hp : r.prepared = none) :
    takeStart e c = c.editReservation r.handle fun q => { q with waiting := true } := by simp only [takeStart, h, hp]

theorem takeStart_onTime {e : Env} {c : Core} {r : Reservation} {retune : Bool} (h : dueStart e c = some r)
    (hp : r.prepared = some retune) (hs : e.count = r.start) : takeStart e c = activate retune r c := by
  simp only [takeStart, h, hp, if_pos hs]

theorem takeStart_late {e : Env} {c : Core} {r : Reservation} {retune : Bool} (h : dueStart e c = some r)
    (hp : r.prepared = some retune) (hs : e.count ≠ r.start) : takeStart e c = activateLate e retune r c := by
  simp only [takeStart, h, hp, if_neg hs]

theorem activateLate_eq (e : Env) (retune : Bool) (r : Reservation) (c : Core) : activateLate e retune r c =
    post e (.stack r.owner) ⟨.windowLate, .reservation r.owner r.handle, e.count, value16 (e.count - r.start).toNat,
      value16 r.cls.code⟩ ((activate retune r c).editReservation r.handle fun q => { q with late := true }) := rfl

/-- The core as the end of a preparation leaves it before the window that waits goes ACTIVE. -/
def preparationEnded (p : Prep) (c : Core) : Core :=
  { ({ c with rcc := { c.rcc with prep := none } } : Core).editReservation p.handle fun q =>
    { q with prepared := some (isRetune c p), staged := [] } with evaluate := true }

theorem preparationEnded_reservation (p : Prep) (c : Core) : (preparationEnded p c).reservation p.handle =
    (c.reservation p.handle).map fun q => { q with prepared := some (isRetune c p), staged := [] } :=
  editReservation_same { c with rcc := { c.rcc with prep := none } } p.handle
    (fun q => { q with prepared := some (isRetune c p), staged := [] }) fun _ => rfl

theorem endPreparation_eq (e : Env) (p : Prep) (c : Core) : endPreparation e p c =
    match (preparationEnded p c).reservation p.handle with
    | none => preparationEnded p c
    | some r => if r.waiting && before e.count r.endTime then activateLate e (isRetune c p) r (preparationEnded p c)
      else preparationEnded p c := rfl

theorem endPreparation_gone {e : Env} {p : Prep} {c : Core} (h : c.reservation p.handle = none) :
    endPreparation e p c = preparationEnded p c := by
  rw [endPreparation_eq, preparationEnded_reservation, h]
  rfl

theorem endPreparation_waiting {e : Env} {p : Prep} {c : Core} {r : Reservation} (h : c.reservation p.handle = some r)
    (hw : r.waiting = true) (hb : before e.count (r.start + tu r.length) = true) : endPreparation e p c =
      activateLate e (isRetune c p) { r with prepared := some (isRetune c p), staged := [] } (preparationEnded p c) := by
  rw [endPreparation_eq, preparationEnded_reservation, h]
  exact if_pos (by rw [Bool.and_eq_true]; exact ⟨hw, hb⟩)

theorem endPreparation_other {e : Env} {p : Prep} {c : Core} {r : Reservation} (h : c.reservation p.handle = some r)
    (hw : r.waiting = false ∨ before e.count (r.start + tu r.length) = false) :
    endPreparation e p c = preparationEnded p c := by
  rw [endPreparation_eq, preparationEnded_reservation, h]
  refine if_neg ?_
  rw [Bool.and_eq_true]
  rintro ⟨h1, h2⟩
  rcases hw with hw | hw
  · exact Bool.false_ne_true (hw.symm.trans h1)
  · exact Bool.false_ne_true (hw.symm.trans h2)

/-- Settles O38. -/
theorem windowStarts : Obligations.WindowStarts := by
  unfold Obligations.WindowStarts
  refine ⟨fun e c due hdue => due_first fun q => (dueStart_iff e c q).trans (hdue q).symm,
    fun s running hnone => ?_, fun r s running hr => ⟨fun hp => ?_, fun retune hp hs => ?_, fun retune hp hs => ?_⟩,
    fun retune r c t hr ht => ?_, fun e retune r c t hr ht => ⟨?_, ?_⟩,
    fun e p c ended retune hretune hended => ?_⟩
  · rw [exec_runs rfl running]
    exact congrArg _ (react_congr (g := fun _ c => c) (takeStart_none hnone))
  · rw [exec_runs rfl running]
    exact congrArg _ (react_congr (g := fun _ c => c.editReservation r.handle fun q => { q with waiting := true })
      (takeStart_waits hr hp))
  · rw [exec_runs rfl running]
    exact congrArg _ (react_congr (g := fun _ c => activate retune r c) (takeStart_onTime hr hp hs))
  · rw [exec_runs rfl running]
    exact congrArg _ (react_congr (g := fun e c => activateLate e retune r c) (takeStart_late hr hp hs))
  · obtain ⟨csc, hact, hplaced, hother⟩ := activate_eq retune r c
    rw [ht] at hact
    subst hact
    exact ⟨rfl, rfl, receives_iff _, transmits_iff _, by rw [← ht]; exact activate_reservation hr, rfl, rfl, rfl,
      fun h => if_pos h, fun h => if_neg h, hplaced, hother⟩
  · rw [← ht, activateLate_eq, reservation_of_tla_eq (post_tla ..)]
    exact editReservation_some (f := fun q => { q with late := true }) (fun _ => rfl) (activate_reservation hr)
  · obtain ⟨hpif, hssv⟩ := activate_posting retune r c
    rw [← ht, activateLate_eq]
    exact post_pif_congr e _ _ hpif hssv
  · have hr : retune = isRetune c p := Bool.eq_iff_iff.mpr (hretune.trans (isRetune_iff c p).symm)
    subst hr
    have hended' : preparationEnded p c = ended := by rw [hended]; rfl
    subst hended'
    exact ⟨endPreparation_gone, fun r hr => ⟨endPreparation_waiting hr, endPreparation_other hr⟩⟩

/-! ### WINDOW_END (R30 to R32) -/

theorem dueEnd_iff (e : Env) (q : Reservation) :
    ((decide (q.state = .preparing) || decide (q.state = .active)) && reached e.count q.endTime) = true ↔
      (q.state = .preparing ∨ q.state = .active) ∧ atOrAfter e.count (q.start + tu q.length) = true := by
  rw [Bool.and_eq_true, Bool.or_eq_true, decide_eq_true_eq, decide_eq_true_eq]
  rfl

theorem takeEnd_none {e : Env} {c : Core} (h : dueEnd e c = none) : takeEnd e c = c := by simp only [takeEnd, h]

theorem takeEnd_active {e : Env} {c : Core} {r : Reservation} (h : dueEnd e c = some r) (hs : r.state = .active) :
    takeEnd e c = finishWindow e r c := by simp only [takeEnd, h, if_pos hs]

theorem takeEnd_preparing {e : Env} {c : Core} {r : Reservation} (h : dueEnd e c = some r) (hs : r.state ≠ .active) :
    takeEnd e c = skipAtEnd e r c := by simp only [takeEnd, h, if_neg hs]

theorem goOn_once {e : Env} {r : Reservation} {c : Core} (h : r.repeats = none) :
    goOn e r c = endRecord e .completed true r c := by simp only [goOn, h]

theorem goOn_repeats {e : Env} {r : Reservation} {c : Core} (h : r.repeats.isSome = true) : goOn e r c =
    seekAll e seekFuel [⟨r.handle, true⟩] (c.editReservation r.handle fun q => { q with state := .seeking }) := by
  obtain ⟨p, hp⟩ := Option.isSome_iff_exists.mp h
  simp only [goOn, hp]

theorem fall_tla (e : Env) (c : Core) (d : Device) : (fall e c d).tla = c.tla := by
  obtain ⟨t, -, h⟩ | ⟨-, h⟩ | ⟨-, h⟩ := fall_cases e c d <;> rw [h] <;> rfl

theorem powerDownCheck_tla (e : Env) (c : Core) (d : Device) : (powerDownCheck e c d).tla = c.tla := by
  obtain h | ⟨-, -, -, -, -, h⟩ := powerDownCheck_cases e c d <;> rw [h]
  exact fall_tla e c d

theorem windowEndNotice_tla (e : Env) (c : Core) : (windowEndNotice e c).tla = c.tla := by
  rw [windowEndNotice, Core.trigger_tla, tableNotice_tla]
  simp only [Device.all, List.foldl_cons, List.foldl_nil, powerDownCheck_tla]

theorem skipAtEnd_once {e : Env} {r : Reservation} {c : Core} (h : r.repeats = none) : skipAtEnd e r c =
    skipOccurrence e { r with staged := [] } ((dropPreparation e r.handle c).emptyStaged r.handle) := by
  simp only [skipAtEnd, h, Option.isSome_none, Bool.false_eq_true, if_false]

theorem skipAtEnd_repeats {e : Env} {r : Reservation} {c : Core} (h : r.repeats.isSome = true) : skipAtEnd e r c =
    seekAll e seekFuel [⟨r.handle, true⟩]
      (skipOccurrence e { r with staged := [] } ((dropPreparation e r.handle c).emptyStaged r.handle)) := by
  simp only [skipAtEnd, h, if_true]

/-- Settles O39. -/
theorem windowEnds : Obligations.WindowEnds := by
  unfold Obligations.WindowEnds
  refine ⟨fun e c due hdue => due_first fun q => (dueEnd_iff e q).trans (hdue q).symm, fun s running hnone => ?_,
    fun r s running hr => ⟨fun hs => ?_, fun hs => ?_⟩,
    fun e t r c => ⟨rfl, closeWindow_tla e t r c, closeWindow_view e t r c⟩,
    fun e r c closed hclosed => ⟨fun h => ?_, fun h => ?_⟩, fun e r c h => ?_,
    fun e r c dropped hdropped => ⟨fun h => ?_, fun h => ?_⟩,
    fun e reason reported r c => ⟨fun h => ?_, fun h => ?_, fun ha hp => ?_⟩⟩
  · rw [exec_runs rfl running]
    exact congrArg _ (react_congr (g := fun _ c => c) (takeEnd_none hnone))
  · rw [exec_runs rfl running]
    exact congrArg _ (react_congr (g := fun e c => finishWindow e r c) (takeEnd_active hr hs))
  · rw [exec_runs rfl running]
    exact congrArg _ (react_congr (g := fun e c => skipAtEnd e r c) (takeEnd_preparing hr hs))
  · subst hclosed
    rw [finishWindow, goOn_once h]
    rfl
  · subst hclosed
    rw [finishWindow, goOn_repeats h]
    rfl
  · rw [finishWindow, goOn_once h, reservation_of_tla_eq (windowEndNotice_tla ..), endRecord_reservation]
  · subst hdropped
    exact skipAtEnd_once h
  · subst hdropped
    exact skipAtEnd_repeats h
  · rw [withdrawRecord, stopOccurrence_active h]
    rfl
  · rw [withdrawRecord, stopOccurrence_preparing h]
  · rw [withdrawRecord, stopOccurrence_idle ha hp]

end Sys2Proof.Machine

/-! PROOFS. The bridge queues, a transfer on RFC_DAT, and the examination of a head (R124, R127, R139 to R149, R220). -/

namespace Sys2Proof.Machine

/-! ### The bits of a transfer (R220) -/

theorem msbFirst_eq {w : Nat} (v : BitVec w) : msbFirst v = List.ofFn fun i : Fin w => v.getLsbD (w - 1 - i) := by
  refine List.ext_getElem (by simp [msbFirst]) fun i h1 h2 => ?_
  have hi : i < w := by simpa [msbFirst] using h1
  simp [msbFirst, BitVec.getMsbD, hi]

theorem bitsToNat_append (bits : List Bool) (b : Bool) : bitsToNat (bits ++ [b]) = 2 * bitsToNat bits + b.toNat := by
  simp [bitsToNat]

theorem half_div (n j : Nat) : n / 2 ^ j = 2 * (n / 2 ^ (j + 1)) + (n.testBit j).toNat := by
  rw [pow_succ, ← Nat.div_div_eq_div_mul, Nat.toNat_testBit]
  omega

/-- The first bits of a field, most significant first, are its leading part. -/
theorem bitsToNat_prefix {w : Nat} (v : BitVec w) (k : Nat) (hk : k ≤ w) :
    bitsToNat ((List.range k).map fun i => v.getMsbD i) = v.toNat / 2 ^ (w - k) := by
  induction k with
  | zero => simp [bitsToNat, Nat.div_eq_of_lt v.isLt]
  | succ k ih =>
    have hbit : v.getMsbD k = v.toNat.testBit (w - (k + 1)) := by
      simp only [BitVec.getMsbD, BitVec.getLsbD, show k < w by omega, decide_true, Bool.true_and]
      congr 1
      omega
    rw [List.range_succ, List.map_append, List.map_singleton, bitsToNat_append, ih (by omega), hbit,
      show w - k = w - (k + 1) + 1 by omega]
    exact (half_div _ _).symm

theorem bitsToNat_msbFirst {w : Nat} (v : BitVec w) : bitsToNat (msbFirst v) = v.toNat := by
  have h := bitsToNat_prefix v w le_rfl
  rwa [Nat.sub_self, pow_zero, Nat.div_one] at h

theorem value_of_bits {b : BusReply} {v : Half} (h : b.returned = List.ofFn fun i : Fin 16 => v.getLsbD (15 - i)) :
    b.value = v := by
  have hm : b.returned = msbFirst v := h.trans (msbFirst_eq v).symm
  rw [BusReply.value, hm, bitsToNat_msbFirst]
  simp

theorem deviceBits (d : Device) :
    msbFirst (BitVec.ofNat 2 d.number) = [decide (2 ≤ d.number), decide (d.number % 2 = 1)] := by
  cases d <;> decide

theorem steps_write {t : Transfer} {v : Half} (h : t.kind = .write v) : t.steps =
    [.driven (false :: msbFirst (BitVec.ofNat 2 t.device.number)), .acknowledge false .addressNak,
      .driven (msbFirst t.register), .driven (msbFirst v), .acknowledge true .dataNak, .busy] := by
  simp only [Transfer.steps, h]

theorem steps_read {t : Transfer} (h : t.kind = .read) : t.steps =
    [.driven (true :: msbFirst (BitVec.ofNat 2 t.device.number)), .acknowledge false .addressNak,
      .driven (msbFirst t.register), .acknowledge true .dataNak, .busy, .returned] := by
  simp only [Transfer.steps, h]

/-- The outcome by the first slot that nothing acknowledges, and then by the busy step. -/
theorem outcome_steps (b : BusReply) (t : Transfer) : b.outcome t.steps =
    if b.slots.address = true then .addressNak else if b.slots.data = true then .dataNak
      else if b.heldLong = true then .timeout else .done := by
  cases hk : t.kind with
  | write v =>
    rw [steps_write hk]
    cases ha : b.slots.address <;> cases hd : b.slots.data <;> cases hl : b.heldLong <;>
      simp [BusReply.failure, ha, hd, hl]
  | read =>
    rw [steps_read hk]
    cases ha : b.slots.address <;> cases hd : b.slots.data <;> cases hl : b.heldLong <;>
      simp [BusReply.failure, ha, hd, hl]

/-! ### RF_WRITE and RF_READ (R139, R148, R149) -/

theorem acceptTransaction_absent {x : Sub} {kind : TxnKind} {device register : Byte} {s : State}
    (h : ∀ d, Device.ofByte device = some d → s.env.has d = false) :
    acceptTransaction x kind device register s = refuse .badParam s := by
  simp only [acceptTransaction, presentDevice_none h]

theorem acceptTransaction_full {x : Sub} {kind : TxnKind} {device register : Byte} {d : Device} {s : State}
    (hd : Device.ofByte device = some d) (hhas : s.env.has d = true) (h : 4 ≤ (s.core.bridge x).queue.length) :
    acceptTransaction x kind device register s = refuse .busy s := by
  have hfull : Config.bridgeSize ≤ (s.core.bridge x).queue.length := h
  simp only [acceptTransaction, presentDevice_some hd hhas, hfull, if_true]

theorem acceptTransaction_joins {x : Sub} {kind : TxnKind} {device register : Byte} {d : Device} {s : State} {c : Core}
    (hd : Device.ofByte device = some d) (hhas : s.env.has d = true) (h : (s.core.bridge x).queue.length < 4)
    (hc : joinQueue s.env x kind d register s.core = c) : acceptTransaction x kind device register s =
      accept (s.setCore c).settled
        [(s.core.bridge x).ticket + 1, BitVec.ofNat 8 (ticketPosition c x ((s.core.bridge x).ticket + 1))] := by
  have hroom : ¬Config.bridgeSize ≤ (s.core.bridge x).queue.length := not_le.mpr h
  simp only [acceptTransaction, presentDevice_some hd hhas, if_neg hroom, hc]
  rfl

theorem restartMonitor_bridge (port : Port) (s : State) (x : Sub) :
    (restartMonitor port s).core.bridge x = s.core.bridge x := by simp [Core.bridge]

theorem ticketPosition_none {c : Core} {x : Sub} {ticket : Byte} (h : ∀ t ∈ (c.bridge x).queue, t.ticket ≠ ticket) :
    ticketPosition c x ticket = 0 := by
  have hnone : ((c.bridge x).queue.findIdx? fun t => decide (t.ticket = ticket)) = none := by
    simpa [List.findIdx?_eq_none_iff] using h
  simp only [ticketPosition, hnone]

theorem ticketPosition_some {c : Core} {x : Sub} {ticket : Byte} {earlier later : List Txn} {t : Txn}
    (hq : (c.bridge x).queue = earlier ++ t :: later) (ht : t.ticket = ticket)
    (he : ∀ q ∈ earlier, q.ticket ≠ ticket) : ticketPosition c x ticket = earlier.length + 1 := by
  have hfound : ((c.bridge x).queue.findIdx? fun t => decide (t.ticket = ticket)) = some earlier.length := by
    have hnone : (earlier.findIdx? fun t => decide (t.ticket = ticket)) = none := by
      simpa [List.findIdx?_eq_none_iff] using he
    rw [hq, List.findIdx?_append, hnone]
    simp [List.findIdx?_cons, ht]
  simp only [ticketPosition, hfound]

/-- Settles O52. -/
theorem bridgeCommands : Obligations.BridgeCommands := by
  unfold Obligations.BridgeCommands
  refine ⟨fun x seq device register d s s1 acts hs1 hd hhas => ⟨fun hroom => ⟨fun value c hc => ?_, fun c hc => ?_⟩,
      fun hfull => ⟨?_, fun value => ?_⟩⟩,
    fun e x kind d reg c => ⟨fun hq => ?_, fun hq => ?_⟩, fun x seq device register s s1 acts hs1 hd => ⟨?_, fun value => ?_⟩,
    fun c x ticket => ⟨ticketPosition_none, fun earlier t later => ticketPosition_some⟩,
    fun t device register hdevice hregister => ⟨fun v hk => ?_, fun hk => ?_⟩,
    fun b t => ⟨fun ha => ?_, fun ha hdat => ?_, fun ha hdat => ?_, fun v => value_of_bits⟩,
    fun t s running hbus => ⟨fun slots value returned outcome hr ho => ?_, ?_⟩⟩
  · subst hs1
    have hjoins := acceptTransaction_joins (s := restartMonitor (.stack x) s) (kind := .write value) hd
      (by simpa using hhas) (by rwa [restartMonitor_bridge]) (by simpa using hc)
    rw [restartMonitor_bridge] at hjoins
    exact takeRequest_stack_accept acts hjoins
  · subst hs1
    have hjoins := acceptTransaction_joins (s := restartMonitor (.stack x) s) (kind := .read) hd
      (by simpa using hhas) (by rwa [restartMonitor_bridge]) (by simpa using hc)
    rw [restartMonitor_bridge] at hjoins
    exact takeRequest_stack_accept acts hjoins
  · subst hs1
    exact takeRequest_stack_refuse acts (acceptTransaction_full hd (by simpa using hhas) (by rwa [restartMonitor_bridge]))
  · subst hs1
    exact takeRequest_stack_refuse acts (acceptTransaction_full hd (by simpa using hhas) (by rwa [restartMonitor_bridge]))
  · exact if_neg (by simpa using hq)
  · refine (if_pos (by simpa using hq)).trans ?_
    rw [hq]
    rfl
  · subst hs1
    exact takeRequest_stack_refuse acts (acceptTransaction_absent (by simpa using hd))
  · subst hs1
    exact takeRequest_stack_refuse acts (acceptTransaction_absent (by simpa using hd))
  · have hr : register = msbFirst t.register := hregister.trans (msbFirst_eq _).symm
    rw [steps_write hk, deviceBits, ← hdevice, ← hr, msbFirst_eq]
  · have hr : register = msbFirst t.register := hregister.trans (msbFirst_eq _).symm
    rw [steps_read hk, deviceBits, ← hdevice, ← hr]
  · rw [outcome_steps, if_pos ha]
  · rw [outcome_steps, if_neg (by simp [ha]), if_pos hdat]
  · rw [outcome_steps, if_neg (by simp [ha]), if_neg (by simp [hdat])]
  · rw [exec_runs rfl running]
    refine congrArg _ (react_congr ?_)
    rw [endTransfer_some hbus, outcome_steps, value_of_bits (b := ⟨slots, false, returned⟩) hr, ho]
    rfl
  · rw [exec_runs rfl running]
    refine congrArg _ (react_congr ?_)
    rw [endTransfer_some hbus, outcome_steps]
    rfl

/-! ### Set values and the window in the view (R127, R131, R140) -/

theorem foreign_iff (c : Core) (x : Sub) : c.foreign x = true ↔ ∃ w, c.rcc.view = some w ∧ w.owner = x.other := by
  unfold Core.foreign
  cases c.rcc.view <;> simp

theorem modify_at {α : Type} {l : List α} {i : Nat} {a : α} (h : l[i]? = some a) (f : α → α) :
    l.modify i f = l.set i (f a) := by
  rw [List.modify_eq_set_getElem?, h]
  rfl

theorem ownValue_unmapped {e : Env} {c : Core} {x : Sub} {d : Device} {reg : Byte} (h : c.mapIndex e d reg = none) :
    ownValue e c x d reg = none := by simp only [ownValue, h]

theorem ownValue_mapped {e : Env} {c : Core} {x : Sub} {d : Device} {reg : Byte} {i : Nat} {m : ShadowEntry}
    (h : c.mapIndex e d reg = some i) (hm : c.rcc.shadow[i]? = some m) :
    ownValue e c x d reg = match m.entry.scope with
      | .context => m.own.get x
      | .common => none := by
  cases hs : m.entry.scope with
  | context => simp only [ownValue, h, hm, hs]
  | common => simp only [ownValue, h, hm, hs]

theorem storeValue_unmapped {e : Env} {o : Option Sub} {d : Device} {reg : Byte} {v : Half} {c : Core}
    (h : c.mapIndex e d reg = none) : storeValue e o d reg v c = c := by simp only [storeValue, h]

theorem storeValue_mapped {e : Env} {o : Option Sub} {d : Device} {reg : Byte} {v : Half} {c : Core} {i : Nat}
    {m : ShadowEntry} (h : c.mapIndex e d reg = some i) (hm : c.rcc.shadow[i]? = some m) :
    storeValue e o d reg v c = c.setShadow (c.rcc.shadow.set i (m.store o v)) := by
  simp only [storeValue, h, modify_at hm]

theorem store_common {m : ShadowEntry} (h : m.entry.scope = .common) (o : Option Sub) (v : Half) :
    m.store o v = { m with common := some v } := by simp only [ShadowEntry.store, h]

theorem store_context {m : ShadowEntry} (h : m.entry.scope = .context) (x : Sub) (v : Half) :
    m.store (some x) v = { m with own := m.own.set x (some v) } := by simp only [ShadowEntry.store, h]

/-! ### The findings of an examination (R140) -/

section
variable {e : Env} {x : Sub} {t : Txn} {c : Core}

theorem finding_write_absorbs {v : Half} (hk : t.kind = .write v) (hs : t.scope = some .context)
    (hf : c.foreign x = true) : finding e x t c = .absorb v := by simp only [finding, hk, hs, hf]

theorem finding_write_defers {v : Half} (hk : t.kind = .write v) (hs : t.scope ≠ some .context)
    (hf : c.foreign x = true) : finding e x t c = .defer := by
  rcases h : t.scope with _ | _ | _
  · simp only [finding, hk, h, hf]
  · exact absurd h hs
  · simp only [finding, hk, h, hf]

theorem finding_write_goes {v : Half} (hk : t.kind = .write v) (hf : c.foreign x = false) :
    finding e x t c = .toDevice := by
  rcases h : t.scope with _ | _ | _ <;> simp only [finding, hk, h, hf]

theorem finding_read_answered {v : Half} (hk : t.kind = .read) (hs : t.scope = some .context)
    (hv : ownValue e c x t.device t.register = some v) : finding e x t c = .fromShadow v := by
  cases hf : c.foreign x <;> simp only [finding, hk, hs, hv]

theorem finding_read_goes (hk : t.kind = .read)
    (h : t.scope ≠ some .context ∨ ownValue e c x t.device t.register = none) :
    finding e x t c = if c.foreign x = true then .defer else .toDevice := by
  rcases hs : t.scope with _ | _ | _
  · cases hf : c.foreign x <;> simp only [finding, hk, hs, hf] <;> rfl
  · have hv := h.resolve_left (by simp [hs])
    cases hf : c.foreign x <;> simp only [finding, hk, hs, hf, hv]
  · cases hf : c.foreign x <;> simp only [finding, hk, hs, hf] <;> rfl

/-! ### What a finding does to the head (R141, R142, R144, R146) -/

theorem completeHead_empty {outcome : Nat} {read : Option Half} (h : (c.bridge x).queue = []) :
    completeHead e x outcome read c = c := by simp only [completeHead, h]

theorem completeHead_head {outcome : Nat} {read : Option Half} {rest : List Txn} (h : (c.bridge x).queue = t :: rest) :
    completeHead e x outcome read c = (post e (.stack x)
      ⟨.bridgeDone, .ticket x t.ticket, e.count, value16 outcome, t.doneValue read⟩
      (c.setBridge x { c.bridge x with queue := rest })).trigger := by
  simp only [completeHead, h]
  rfl

theorem doneValue_write {v : Half} {read : Option Half} (h : t.kind = .write v) : t.doneValue read = v := by
  simp only [Txn.doneValue, h]

theorem doneValue_read {read : Option Half} (h : t.kind = .read) : t.doneValue read = read.getD 0 := by
  simp only [Txn.doneValue, h]

theorem storeValue_bridge (o : Option Sub) (d : Device) (reg : Byte) (v : Half) (y : Sub) :
    (storeValue e o d reg v c).bridge y = c.bridge y := by
  rcases storeValue_frame e o d reg v c with h | ⟨m, h⟩ <;> rw [h]
  rfl

theorem setHead_head {rest : List Txn} (h : (c.bridge x).queue = t :: rest) (u : Txn) :
    c.setHead x u = c.setBridge x { c.bridge x with queue := u :: rest } := by simp only [Core.setHead, h]

theorem examineHead_absorb {rest : List Txn} {v : Half} (h : (c.bridge x).queue = t :: rest)
    (hf : finding e x t c = .absorb v) : examineHead e x c =
      (completeHead e x 4 none (storeValue e (some x) t.device t.register v c), true) := by
  simp only [examineHead, h, hf]

theorem examineHead_fromShadow {rest : List Txn} {v : Half} (h : (c.bridge x).queue = t :: rest)
    (hf : finding e x t c = .fromShadow v) : examineHead e x c = (completeHead e x 5 (some v) c, true) := by
  simp only [examineHead, h, hf]

theorem examineHead_defer {rest : List Txn} (h : (c.bridge x).queue = t :: rest) (hf : finding e x t c = .defer) :
    examineHead e x c =
      (c.setHead x { t with state := .deferred, trapped := false, request := false }, false) := by
  simp only [examineHead, h, hf]

theorem examineHead_toDevice {rest : List Txn} (h : (c.bridge x).queue = t :: rest) (hf : finding e x t c = .toDevice) :
    examineHead e x c = (c.setHead x (goToDevice t c), false) := by
  simp only [examineHead, h, hf]

end

theorem isOn_iff (c : Core) (d : Device) : c.isOn d = true ↔ c.power d = .on := by simp [Core.isOn]

theorem isOn_false (c : Core) (d : Device) : c.isOn d = false ↔ c.power d ≠ .on := by simp [Core.isOn]

theorem replayPending_false (r : Rcc) (d : Device) : r.replayPending d = false ↔ ∀ q ∈ r.replay, q.device ≠ d := by
  simp [Rcc.replayPending]

theorem headWaitsFor_iff (c : Core) (x : Sub) (d : Device) : c.headWaitsFor x d = true ↔
    ∃ t, (c.bridge x).queue.head? = some t ∧ t.state = .waitingPower ∧ t.device = d := by
  unfold Core.headWaitsFor
  cases (c.bridge x).queue <;> simp

/-- Settles O53. -/
theorem headExamination : Obligations.HeadExamination := by
  unfold Obligations.HeadExamination
  refine ⟨fun e x d reg v c => ⟨foreign_iff c x, fun h => ⟨ownValue_unmapped h, storeValue_unmapped h⟩, fun i m hi hm =>
      ⟨fun hs => ⟨?_, ?_⟩, fun hs => ⟨?_, ?_⟩⟩⟩,
    fun e x t c => ⟨fun v hk => ⟨finding_write_absorbs hk, finding_write_defers hk, finding_write_goes hk⟩,
      fun hk => ⟨fun v => finding_read_answered hk, fun h => ⟨fun hf => ?_, fun hf => ?_⟩⟩⟩,
    fun e x t rest v c hq => ⟨fun hf hk => ?_, fun hf hk => ?_⟩, fun e x t rest c hq => ⟨fun hf => ?_, fun hf => ?_⟩,
    fun t t1 c ht1 => ⟨fun hoff => ?_, fun hon => ⟨fun hr => ?_, fun hr => ⟨fun ht => ?_, fun ht => ?_⟩⟩⟩,
    fun e x n c d => ⟨fun h => ?_, fun h => ?_, rfl⟩, fun e x outcome read c => ⟨completeHead_empty, fun t rest hq => ?_, rfl⟩,
    fun e d c a waits hwaits ha => ?_⟩
  · rw [ownValue_mapped hi hm, hs]
  · rw [storeValue_mapped hi hm, store_common hs]
  · rw [ownValue_mapped hi hm, hs]
  · rw [storeValue_mapped hi hm, store_context hs]
  · rw [finding_read_goes hk h, if_pos hf]
  · rw [finding_read_goes hk h, if_neg (by simp [hf])]
  · have hbridge := storeValue_bridge (e := e) (c := c) (some x) t.device t.register v x
    rw [examineHead_absorb hq hf, completeHead_head (hbridge.symm ▸ hq), doneValue_write hk, hbridge]
  · rw [examineHead_fromShadow hq hf, completeHead_head hq, doneValue_read hk]
    rfl
  · rw [examineHead_defer hq hf, setHead_head hq]
  · rw [examineHead_toDevice hq hf, setHead_head hq]
  · have hrequest : (c.power t.device).isOffOrFalling
        = decide (c.power t.device = .off ∨ (c.power t.device).isFalling = true) := by
      cases c.power t.device <;> simp [Power.isOffOrFalling, Power.isFalling]
    subst ht1
    rw [goToDevice, if_neg (by simpa using (isOn_false c t.device).mpr hoff), hrequest]
  · subst ht1
    rw [goToDevice, if_pos ((isOn_iff c _).mpr hon), if_pos ((replayPending_iff _ _).mpr hr)]
  · subst ht1
    rw [goToDevice, if_pos ((isOn_iff c _).mpr hon), if_neg (by simpa using (replayPending_false _ _).mpr hr), if_pos ht]
  · subst ht1
    rw [goToDevice, if_pos ((isOn_iff c _).mpr hon), if_neg (by simpa using (replayPending_false _ _).mpr hr),
      if_neg (by simp [ht])]
  · simp only [examineFrom, h]
  · simp only [examineFrom, h]
  · rw [completeHead_head hq]
    cases hk : t.kind with
    | write v => rw [doneValue_write hk]; rfl
    | read =>
      rw [doneValue_read hk]
      cases read <;> rfl
  · have hw : ∀ k x, k.headWaitsFor x d = waits k x := fun k x =>
      Bool.eq_iff_iff.mpr ((headWaitsFor_iff k x d).trans (hwaits k x).symm)
    subst ha
    simp only [examineWaiting, hw]

end Sys2Proof.Machine

/-! PROOFS. The end of a transfer and the decisions of the control-bus arbiter (R124, R125, R127 to R136, R143 to R145). -/

namespace Sys2Proof.Machine

/-! ### What an examination leaves of the RF Context Controller's record -/

theorem completeHead_rcc (e : Env) (x : Sub) (outcome : Nat) (read : Option Half) (c : Core) :
    ∃ b, (completeHead e x outcome read c).rcc = { c.rcc with bridges := b } := by
  unfold completeHead
  split
  · exact ⟨c.rcc.bridges, rfl⟩
  · exact ⟨_, post_rcc ..⟩

theorem storeValue_rcc (e : Env) (o : Option Sub) (d : Device) (reg : Byte) (v : Half) (c : Core) :
    ∃ m, (storeValue e o d reg v c).rcc = { c.rcc with shadow := m } := by
  obtain h | ⟨m, h⟩ := storeValue_frame e o d reg v c
  · exact ⟨c.rcc.shadow, by rw [h]⟩
  · exact ⟨m, by rw [h]; rfl⟩

theorem setHead_rcc (c : Core) (x : Sub) (t : Txn) : ∃ b, (c.setHead x t).rcc = { c.rcc with bridges := b } := by
  unfold Core.setHead
  split
  · exact ⟨c.rcc.bridges, rfl⟩
  · exact ⟨_, rfl⟩

theorem examineHead_rcc (e : Env) (x : Sub) (c : Core) :
    ∃ m b, (examineHead e x c).1.rcc = { c.rcc with shadow := m, bridges := b } := by
  unfold examineHead
  split
  · exact ⟨c.rcc.shadow, c.rcc.bridges, rfl⟩
  · rename_i t rest hq
    split
    · rename_i v hf
      obtain ⟨m, hm⟩ := storeValue_rcc e (some x) t.device t.register v c
      obtain ⟨b, hb⟩ := completeHead_rcc e x 4 none (storeValue e (some x) t.device t.register v c)
      exact ⟨m, b, by rw [hb, hm]⟩
    · rename_i v hf
      obtain ⟨b, hb⟩ := completeHead_rcc e x 5 (some v) c
      exact ⟨c.rcc.shadow, b, hb⟩
    · obtain ⟨b, hb⟩ := setHead_rcc c x { t with state := .deferred, trapped := false, request := false }
      exact ⟨c.rcc.shadow, b, hb⟩
    · obtain ⟨b, hb⟩ := setHead_rcc c x (goToDevice t c)
      exact ⟨c.rcc.shadow, b, hb⟩

theorem examineFrom_rcc (e : Env) (x : Sub) (n : Nat) (c : Core) :
    ∃ m b, (examineFrom e x n c).rcc = { c.rcc with shadow := m, bridges := b } := by
  induction n generalizing c with
  | zero => exact ⟨c.rcc.shadow, c.rcc.bridges, rfl⟩
  | succ n ih =>
    obtain ⟨m, b, h⟩ := examineHead_rcc e x c
    unfold examineFrom
    split <;> rename_i c' heq <;> rw [heq] at h
    · obtain ⟨m', b', h'⟩ := ih c'
      exact ⟨m', b', by rw [h', h]⟩
    · exact ⟨m, b, h⟩

/-- An examination changes the shadow map and the bridge queues of the RF Context Controller's record alone. -/
theorem examine_rcc (e : Env) (x : Sub) (c : Core) :
    ∃ m b, (examine e x c).rcc = { c.rcc with shadow := m, bridges := b } := examineFrom_rcc e x _ c

theorem completeAndExamine_rcc (e : Env) (x : Sub) (outcome : Nat) (read : Option Half) (c : Core) :
    ∃ m b, (completeAndExamine e x outcome read c).rcc = { c.rcc with shadow := m, bridges := b } := by
  obtain ⟨b, hb⟩ := completeHead_rcc e x outcome read c
  obtain ⟨m', b', h⟩ := examine_rcc e x (completeHead e x outcome read c)
  exact ⟨m', b', by rw [completeAndExamine, h, hb]⟩

/-! ### Values after a transfer (R127, R128) -/

section
variable {e : Env} {t : Transfer} {c : Core}

theorem setLive_mapped {d : Device} {reg : Byte} {v : Option Half} {i : Nat} {m : ShadowEntry}
    (h : c.mapIndex e d reg = some i) (hm : c.rcc.shadow[i]? = some m) :
    setLive e d reg v c = c.setShadow (c.rcc.shadow.set i { m with live := v }) := by
  simp only [setLive, h, modify_at hm]

theorem setLive_unmapped {d : Device} {reg : Byte} {v : Option Half} (h : c.mapIndex e d reg = none) :
    setLive e d reg v c = c := by simp only [setLive, h]

theorem transferLive_left {outcome : BusOutcome} {value : Half} (h : t.deviceLeft = true) :
    transferLive e t outcome value c = c := by simp only [transferLive, h, if_true]

theorem transferLive_write {outcome : BusOutcome} {value v : Half} (h : t.deviceLeft = false) (hk : t.kind = .write v) :
    transferLive e t outcome value c =
      setLive e t.device t.register (if outcome = .done then some v else none) c := by
  simp only [transferLive, h, hk, Bool.false_eq_true, if_false]

theorem transferLive_read {outcome : BusOutcome} {value : Half} (h : t.deviceLeft = false) (hk : t.kind = .read) :
    transferLive e t outcome value c =
      if outcome = .done then setLive e t.device t.register (some value) c else c := by
  simp only [transferLive, h, hk, Bool.false_eq_true, if_false]

theorem transferLive_unmapped {outcome : BusOutcome} {value : Half} (h : c.mapIndex e t.device t.register = none) :
    transferLive e t outcome value c = c := by
  cases hl : t.deviceLeft with
  | true => exact transferLive_left hl
  | false =>
    cases hk : t.kind with
    | write v => rw [transferLive_write hl hk, setLive_unmapped h]
    | read => rw [transferLive_read hl hk, setLive_unmapped h, ite_self]

theorem transferStores_read (hk : t.kind = .read) : transferStores e t c = c := by simp only [transferStores, hk]

theorem transferStores_gone (h : t.ownerGone = true) : transferStores e t c = c := by
  cases hk : t.kind with
  | write v => simp only [transferStores, hk, h, if_true]
  | read => exact transferStores_read hk

theorem transferStores_write {v : Half} (hk : t.kind = .write v) (h : t.ownerGone = false) :
    transferStores e t c = storeValue e t.owner t.device t.register v c := by
  simp only [transferStores, hk, h, Bool.false_eq_true, if_false]

theorem noteTuning_eq (before after : Option Half) : noteTuning before after c =
    { c with rcc := { c.rcc with prep := c.rcc.prep.map fun p =>
      { p with tuningChanged := p.tuningChanged || decide (before ≠ after) } } } := by
  unfold noteTuning
  split
  · rename_i h
    rw [h, Option.map_none, ← h]
  · rename_i p h
    rw [h]
    rfl

/-! ### The answer check (R130, R145) -/

theorem endCheck_none {outcome : BusOutcome} (h : t.check = false ∨ t.deviceLeft = true) :
    endCheck e t outcome c = c := by
  rw [endCheck, if_neg]
  rcases h with h | h <;> simp [h]

theorem endCheck_answers {outcome : BusOutcome} (hc : t.check = true) (hl : t.deviceLeft = false)
    (ho : outcome ≠ .addressNak) : endCheck e t outcome c =
      { c with rcc := { c.rcc with answering := c.rcc.answering.set t.device .answering } } := by
  rw [endCheck, if_pos (by simp [hc, hl]), if_neg ho]

theorem endCheck_silent (hc : t.check = true) (hl : t.deviceLeft = false) :
    endCheck e t .addressNak c = notAnswering e t.device c := by
  rw [endCheck, if_pos (by simp [hc, hl]), if_pos rfl]

theorem failTrapped_replay (d : Device) (x : Sub) : (failTrapped e d c x).rcc.replay = c.rcc.replay := by
  unfold failTrapped
  split
  · obtain ⟨m, b, h⟩ := completeAndExamine_rcc e x 6 none c
    rw [h]
  · rfl

theorem notAnswering_eq (d : Device) : notAnswering e d c =
    examineWaiting e d (failTrapped e d (failTrapped e d { c with rcc := { c.rcc with
      answering := c.rcc.answering.set d .notAnswering
      replay := c.rcc.replay.filter fun p => decide (p.device ≠ d) } } .A) .B) := by
  refine if_neg (Bool.not_eq_true _ ▸ (replayPending_false _ d).mpr fun q hq => ?_)
  rw [failTrapped_replay, failTrapped_replay] at hq
  simpa using (List.mem_filter.mp hq).2

theorem failTrapped_fails {d : Device} {x : Sub} {u : Txn} {rest : List Txn} (h : (c.bridge x).queue = u :: rest)
    (ht : u.trapped = true) (hd : u.device = d) : failTrapped e d c x = completeAndExamine e x 6 none c := by
  have htrapped : trappedOn c x d = true := by simp [trappedOn, h, ht, hd]
  rw [failTrapped, if_pos htrapped]

theorem failTrapped_stays {d : Device} {x : Sub} (h : ∀ u rest, (c.bridge x).queue = u :: rest →
    u.trapped = false ∨ u.device ≠ d) : failTrapped e d c x = c := by
  refine if_neg ?_
  unfold trappedOn
  split
  · exact Bool.false_ne_true
  · rename_i u rest hq
    rcases h u rest hq with h | h <;> simp [h]

/-! ### The work a transfer belongs to (R134, R136, R143) -/

theorem degradeView_none (h : c.rcc.view = none) : degradeView e t c = c := by simp only [degradeView, h]

theorem degradeView_marks {v : RccView} (hv : c.rcc.view = some v)
    (h : c.scopeOf e t.device t.register ≠ some .context ∨ (t.owner = some v.owner ∧ t.ownerGone = false)) :
    degradeView e t c = c.editReservation v.handle fun r => { r with degraded := true } := by
  simp only [degradeView, hv, if_pos h]

theorem degradeView_leaves {v : RccView} (hv : c.rcc.view = some v)
    (hs : c.scopeOf e t.device t.register = some .context) (h : t.owner ≠ some v.owner ∨ t.ownerGone = true) :
    degradeView e t c = c := by
  have hnot : ¬(c.scopeOf e t.device t.register ≠ some .context ∨ (t.owner = some v.owner ∧ t.ownerGone = false)) := by
    rintro (h1 | ⟨h1, h2⟩)
    · exact h1 hs
    · rcases h with h | h
      · exact h h1
      · simp [h] at h2
  simp only [degradeView, hv, if_neg hnot]

theorem failedWrite_iff (outcome : BusOutcome) : t.failedWrite outcome = true ↔ outcome ≠ .done ∧ t.kind ≠ .read := by
  unfold Transfer.failedWrite
  cases t.kind <;> simp

theorem eq_failedWrite {outcome : BusOutcome} {failed : Bool} (h : failed = true ↔ outcome ≠ .done ∧ t.kind ≠ .read) :
    failed = t.failedWrite outcome := Bool.eq_iff_iff.mpr (h.trans (failedWrite_iff outcome).symm)

theorem workEnded_preparation {outcome : BusOutcome} {value : Half} (h : t.cause = .preparation) :
    workEnded e t outcome value c =
      if (t.failedWrite outcome && !t.dropped) = true then prepFailed e t outcome c else c := by
  simp only [workEnded, h]

theorem workEnded_replay {outcome : BusOutcome} {value : Half} (h : t.cause = .replay) :
    workEnded e t outcome value c = replayMade e t (noteFailure e t outcome c) := by simp only [workEnded, h]

theorem workEnded_restore {outcome : BusOutcome} {value : Half} {x : Sub} (h : t.cause = .restore x) :
    workEnded e t outcome value c = noteFailure e t outcome c := by simp only [workEnded, h]

theorem workEnded_own {outcome : BusOutcome} {value : Half} {x : Sub} (h : t.cause = .own x) :
    workEnded e t outcome value c = if t.ownerGone = true then noteFailure e t outcome c
      else ownEnded e x outcome value (noteFailure e t outcome c) := by simp only [workEnded, h]

theorem prepFailed_none {outcome : BusOutcome} (h : c.rcc.prep = none) : prepFailed e t outcome c = c := by
  simp only [prepFailed, h]

theorem prepFailed_some {outcome : BusOutcome} {p : Prep} (h : c.rcc.prep = some p) : prepFailed e t outcome c =
    post e (.stack p.owner) ⟨.contextFault, .reservation p.owner p.handle, e.count,
        BitVec.ofNat 16 (256 * t.device.number + t.register.toNat), value16 (BusOutcome.code outcome)⟩
      (c.editReservation p.handle fun r => { r with degraded := true }) := by
  simp only [prepFailed, h]
  rfl

theorem noteFailure_bridge (outcome : BusOutcome) (x : Sub) :
    (noteFailure e t outcome c).bridge x = c.bridge x := by
  unfold noteFailure
  split
  · obtain h | ⟨v, -, h⟩ := degradeView_cases e t c <;> rw [h]
    rfl
  · rfl

theorem ownEnded_completes {x : Sub} {outcome : BusOutcome} {value : Half} {u : Txn} {rest : List Txn}
    (h : (c.bridge x).queue = u :: rest) (hs : u.state = .inFlight) : ownEnded e x outcome value c =
      completeAndExamine e x (BusOutcome.code outcome) (if outcome = .done then some value else none) c := by
  simp only [ownEnded, h, if_pos hs]

theorem ownEnded_over {x : Sub} {outcome : BusOutcome} {value : Half}
    (h : ∀ head ∈ (c.bridge x).queue.head?, head.state ≠ .inFlight) : ownEnded e x outcome value c = c := by
  unfold ownEnded
  split
  · rfl
  · rename_i u rest hq
    exact if_neg (h u (by rw [hq]; rfl))

theorem replayMade_eq : replayMade e t c = replayShortened e t.device { c with rcc := { c.rcc with
    replay := c.rcc.replay.filter fun p =>
      decide (¬(p.device = t.device ∧ c.mapIndex e t.device t.register = some p.entry)) } } := by
  have hfilter : (c.rcc.replay.filter fun p => !(decide (p.device = t.device)
      && decide (c.mapIndex e t.device t.register = some p.entry)))
      = c.rcc.replay.filter fun p =>
        decide (¬(p.device = t.device ∧ c.mapIndex e t.device t.register = some p.entry)) :=
    List.filter_congr fun p _ => by rw [decide_not, Bool.decide_and]
  rw [replayMade, hfilter]

end

/-- Settles O54. -/
theorem transferEnds : Obligations.TransferEnds := by
  unfold Obligations.TransferEnds
  refine ⟨fun e t outcome value c i m hi hm => ⟨transferLive_left, fun hl => ⟨fun v hk => ⟨fun ho => ?_, fun ho => ?_⟩,
      fun hk => ⟨fun ho => ?_, fun ho => ?_⟩⟩⟩,
    fun e t outcome value c => transferLive_unmapped, fun d c => ⟨fun m hm hd => ?_, fun i m hm hd => ?_, fun p hp => ?_, ?_⟩,
    fun e t outcome value c kept told checked hkept htold hchecked => ?_,
    fun e t c => ⟨transferStores_read, transferStores_gone, fun v hk hg => ⟨fun h => ?_, fun i m hi hm =>
      ⟨fun hs => ?_, fun x hs hx => ?_⟩⟩⟩,
    fun e t outcome c => ⟨endCheck_none, fun hc hl => ⟨endCheck_answers hc hl, fun dropped ho hdropped => ?_⟩⟩,
    fun e d x c => ⟨fun hq => ?_, fun t rest hq => ⟨fun ht hd => ?_, fun h => ?_⟩⟩,
    fun e t c => ⟨degradeView_none, fun v hv => ⟨degradeView_marks hv, degradeView_leaves hv⟩⟩,
    fun e t c left hleft => ⟨fun h => ?_, fun h => ?_⟩,
    fun e t outcome value c marked failed hfailed hmarked => ⟨fun hc => ⟨fun h => ?_, fun p hf hd hp => ?_⟩, fun hc => ?_,
      fun x hc => ?_, fun x hc => ⟨fun h => ?_, fun head rest hg hq hs => ?_⟩⟩⟩
  · rw [transferLive_write hl hk, if_pos ho, setLive_mapped hi hm]
    rfl
  · rw [transferLive_write hl hk, if_neg ho, setLive_mapped hi hm]
    rfl
  · rw [transferLive_read hl hk, if_pos ho, setLive_mapped hi hm]
    rfl
  · rw [transferLive_read hl hk, if_neg ho]
  · obtain ⟨q, -, rfl⟩ := List.mem_map.mp hm
    by_cases hq : q.entry.device = d
    · rw [if_pos hq]
    · rw [if_neg hq] at hd
      exact absurd hd hq
  · simp [leavesOn, hm, hd]
  · simpa using (List.mem_filter.mp hp).2
  · exact Quad.get_set_self ..
  · rw [← noteTuning_eq] at htold
    subst hkept htold hchecked
    rfl
  · rw [transferStores_write hk hg, storeValue_unmapped h]
  · rw [transferStores_write hk hg, storeValue_mapped hi hm, store_common hs]
  · rw [transferStores_write hk hg, hx, storeValue_mapped hi hm, store_context hs]
  · subst ho hdropped
    rw [endCheck_silent hc hl, notAnswering_eq]
  · exact failTrapped_stays fun u rest h => by simp [hq] at h
  · rw [failTrapped_fails hq ht hd, completeAndExamine, completeHead_head hq]
    cases hk : t.kind with
    | write v => rw [doneValue_write hk]; rfl
    | read => rw [doneValue_read hk]; rfl
  · refine failTrapped_stays fun u rest' h' => ?_
    obtain ⟨rfl, -⟩ := List.cons.inj (hq.symm.trans h')
    exact h
  · rw [replayMade_eq, ← hleft, replayShortened, if_pos ((replayPending_iff _ _).mpr h)]
  · rw [replayMade_eq, ← hleft, replayShortened, if_neg (by simpa using (replayPending_false _ _).mpr h)]
  · have hf := eq_failedWrite hfailed
    rw [workEnded_preparation hc, ← hf]
    rcases h with h | h | h
    · simp [h]
    · simp [h]
    · rw [prepFailed_none h, ite_self]
  · have hf' : t.failedWrite outcome = true := (failedWrite_iff outcome).mpr (hfailed.mp hf)
    rw [workEnded_preparation hc, if_pos (by simp [hf', hd]), prepFailed_some hp]
  · have hf := eq_failedWrite hfailed
    rw [workEnded_replay hc, noteFailure, ← hf, hmarked]
  · have hf := eq_failedWrite hfailed
    rw [workEnded_restore hc, noteFailure, ← hf, hmarked]
  · have hf := eq_failedWrite hfailed
    have hm : noteFailure e t outcome c = marked := by rw [noteFailure, ← hf, hmarked]
    rw [workEnded_own hc, hm]
    rcases h with h | h
    · rw [if_pos h]
    · rw [← noteFailure_bridge (e := e) (t := t) outcome x, hm] at h
      rw [ownEnded_over h, ite_self]
  · have hf := eq_failedWrite hfailed
    have hm : noteFailure e t outcome c = marked := by rw [noteFailure, ← hf, hmarked]
    rw [← noteFailure_bridge (e := e) (t := t) outcome x, hm] at hq
    rw [workEnded_own hc, hm, if_neg (by simp [hg]), ownEnded_completes hq hs]

/-! ### The arbiter's choice (R125) -/

theorem writing_iff (p : Prep) : p.writing = true ↔ p.step ≠ .awaitingPower := by simp [Prep.writing]

section
variable {e : Env} {c : Core}

theorem busStep_arrives {p : Prep} (hbus : c.rcc.bus = none) (hp : c.rcc.prep = some p) (hs : p.step = .awaitingPower)
    (hon : ∀ d ∈ p.awaited, c.power d = .on) :
    busStep e c = some (c.setPrep { p with step := .context, position := 0 }) := by
  have harrived : powerArrived p c = true := powerArrived_iff.mpr ⟨hs, hon⟩
  simp only [busStep, hbus, hp, harrived, if_true]

theorem busStep_arbitrates (hbus : c.rcc.bus = none)
    (h : ∀ p, c.rcc.prep = some p → p.step = .awaitingPower → ∃ d ∈ p.awaited, c.power d ≠ .on) :
    busStep e c = arbitrate e c := by
  unfold busStep
  rw [hbus]
  simp only
  split
  · rename_i p hp
    refine if_neg fun harrived => ?_
    obtain ⟨hs, hon⟩ := powerArrived_iff.mp harrived
    obtain ⟨d, hd, hne⟩ := h p hp hs
    exact hne (hon d hd)
  · rfl

theorem arbitrate_prep {p : Prep} (hp : c.rcc.prep = some p) (hs : p.step ≠ .awaitingPower) :
    arbitrate e c = some (prepTurn e p c) := by
  simp only [arbitrate, hp, (writing_iff p).mpr hs, if_true]

theorem arbitrate_lower (h : ∀ p, c.rcc.prep = some p → p.step = .awaitingPower) :
    arbitrate e c = arbitrate.lower e c := by
  unfold arbitrate
  split
  · rename_i p hp
    exact if_neg fun hw => (writing_iff p).mp hw (h p hp)
  · rfl

theorem lower_replay {q : Replay} {rest : List Replay} (h : c.rcc.replay = q :: rest) :
    arbitrate.lower e c = some (replayTurn e q rest c) := by simp only [arbitrate.lower, h]

theorem lower_idle (h : c.rcc.replay = []) (hs : chooseStack c = none) : arbitrate.lower e c = none := by
  simp only [arbitrate.lower, h, hs]

theorem lower_head {x : Sub} {t : Txn} (h : c.rcc.replay = []) (hs : chooseStack c = some x)
    (ht : headReady c x = some t) : arbitrate.lower e c = some (headTurn e x t c) := by
  simp only [arbitrate.lower, h, hs, ht]

end

theorem headReady_iff (c : Core) (x : Sub) (t : Txn) : headReady c x = some t ↔
    (c.bridge x).queue.head? = some t ∧ (t.state = .ready ∨ t.state = .restarting) := by
  unfold headReady
  cases (c.bridge x).queue with
  | nil => simp
  | cons u rest =>
    simp only [List.head?_cons, Option.some.injEq]
    constructor
    · intro h
      split at h
      · rename_i hs
        obtain rfl := Option.some.inj h
        exact ⟨rfl, hs⟩
      · simp at h
    · rintro ⟨rfl, hs⟩
      exact if_pos hs

theorem releasedReady_iff (c : Core) (x : Sub) : releasedReady c x = true ↔
    ∃ t, headReady c x = some t ∧ t.released = true := by
  unfold releasedReady
  cases headReady c x <;> simp

theorem seriesBegun_iff (c : Core) (x : Sub) : seriesBegun c x = true ↔
    ∃ t, headReady c x = some t ∧ t.released = false ∧ t.state = .restarting ∧ t.begun = true := by
  unfold seriesBegun
  cases headReady c x <;> simp [and_assoc]

/-- Of two stacks the one that qualifies is served, and of two that qualify the one not served last. -/
theorem alternate_some {last : Sub} {p : Sub → Bool} {x : Sub} (hx : p x = true) (h : p x.other = false ∨ last = x.other) :
    alternate last (p .A) (p .B) = some x := by
  have hother : last = x.other → last.other = x := fun h => by rw [h, Sub.other_other]
  cases x with
  | A =>
    rw [hx]
    cases hb : p .B with
    | false => rfl
    | true => exact congrArg some (hother (h.resolve_left (by simp [Sub.other, hb])))
  | B =>
    rw [hx]
    cases ha : p .A with
    | false => rfl
    | true => exact congrArg some (hother (h.resolve_left (by simp [Sub.other, ha])))

theorem chooseStack_released {c : Core} {x : Sub} (hx : releasedReady c x = true)
    (h : releasedReady c x.other = false ∨ c.rcc.lastServed = x.other) : chooseStack c = some x := by
  simp only [chooseStack, alternate_some (p := releasedReady c) hx h]

theorem chooseStack_series {c : Core} {x : Sub} (ha : releasedReady c .A = false) (hb : releasedReady c .B = false)
    (hx : seriesBegun c x = true) (h : seriesBegun c x.other = false) : chooseStack c = some x := by
  simp only [chooseStack, ha, hb, alternate]
  cases x with
  | A => rw [if_pos hx]
  | B => rw [if_neg (by simpa [Sub.other] using h), if_pos hx]

theorem chooseStack_turn {c : Core} (ha : releasedReady c .A = false) (hb : releasedReady c .B = false)
    (h : ∀ x, seriesBegun c x = false) :
    chooseStack c = alternate c.rcc.lastServed (headReady c .A).isSome (headReady c .B).isSome := by
  simp only [chooseStack, ha, hb, alternate, h, Bool.false_eq_true, if_false]

/-! ### The turns (R130, R133, R143, R144) -/

theorem needsContext_iff (e : Env) (c : Core) (x : Sub) (m : ShadowEntry) : needsContext e c x m = true ↔
    m.entry.scope = .context ∧ e.has m.entry.device = true ∧ c.power m.entry.device = .on
      ∧ m.own.get x ≠ none ∧ m.live ≠ m.own.get x := by
  simp only [needsContext, Bool.and_eq_true, decide_eq_true_eq, isOn_iff, Option.isSome_iff_ne_none, and_assoc]

theorem needsCommon_iff (e : Env) (c : Core) (m : ShadowEntry) : needsCommon e c m = true ↔
    m.entry.scope = .common ∧ e.has m.entry.device = true ∧ c.power m.entry.device = .on
      ∧ m.common ≠ none ∧ m.live = none := by
  simp only [needsCommon, Bool.and_eq_true, decide_eq_true_eq, isOn_iff, Option.isSome_iff_ne_none,
    Option.isNone_iff_eq_none, and_assoc]

section
variable {e : Env} {c : Core}

theorem prepTurn_context {p : Prep} (h : p.step = .context) : prepTurn e p c =
    match firstFrom c.rcc.shadow p.position (needsContext e c p.owner) with
    | some (i, s) => prepWrite p s.entry.device s.entry.register ((s.own.get p.owner).getD 0) (i + 1) c
    | none => c.setPrep { p with step := .common, position := 0 } := by
  obtain ⟨⟩ := p
  cases h
  rfl

theorem prepTurn_common {p : Prep} (h : p.step = .common) : prepTurn e p c =
    match firstFrom c.rcc.shadow p.position (needsCommon e c) with
    | some (i, s) => prepWrite p s.entry.device s.entry.register (s.common.getD 0) (i + 1) c
    | none => c.setPrep { p with step := .staged, position := 0 } := by
  obtain ⟨⟩ := p
  cases h
  rfl

theorem prepTurn_staged {p : Prep} (h : p.step = .staged) : prepTurn e p c =
    match p.staged[p.position]? with
    | some w => prepWrite p w.device w.register w.value (p.position + 1) c
    | none => endPreparation e p c := by
  obtain ⟨⟩ := p
  cases h
  rfl

theorem replayTurn_writes {q : Replay} {rest : List Replay} {m : ShadowEntry} {v : Half}
    (hm : c.rcc.shadow[q.entry]? = some m) (hl : m.live = none) (hv : m.common = some v) :
    replayTurn e q rest c = startTransfer (.write v) q.device m.entry.register .replay none c := by
  simp only [replayTurn, hm, hl, hv]

theorem replayTurn_drops {q : Replay} {rest : List Replay} {m : ShadowEntry} (hm : c.rcc.shadow[q.entry]? = some m)
    (h : m.live ≠ none ∨ m.common = none) :
    replayTurn e q rest c = replayShortened e q.device { c with rcc := { c.rcc with replay := rest } } := by
  simp only [replayTurn, hm]
  split
  · rename_i v hl hv
    rcases h with h | h
    · exact absurd hl h
    · simp [h] at hv
  · rfl

theorem headTurn_series {x : Sub} {t : Txn} (h : t.state = .restarting) : headTurn e x t c = seriesTurn e x t c := by
  rw [headTurn, if_pos h]

theorem seriesTurn_foreign {x : Sub} {t : Txn} (h : c.foreign x = true) :
    seriesTurn e x t c = examine e x (c.setHead x { t with state := .queued }) := by
  rw [seriesTurn, if_pos h]

theorem seriesTurn_restores {x : Sub} {t : Txn} {i : Nat} {m : ShadowEntry} {v : Half} (h : c.foreign x = false)
    (hf : firstFrom c.rcc.shadow t.position (needsRestore e c x t.device) = some (i, m)) (hv : m.own.get x = some v) :
    seriesTurn e x t c = startTransfer (.write v) t.device m.entry.register (.restore x) (some x)
      ((c.setHead x { t with position := i + 1, begun := true }).served (if t.begun then c.rcc.lastServed else x)) := by
  simp only [seriesTurn, h, hf, hv, Bool.false_eq_true, if_false, Option.getD_some]

theorem seriesTurn_last {x : Sub} {t : Txn} (h : c.foreign x = false)
    (hf : firstFrom c.rcc.shadow t.position (needsRestore e c x t.device) = none) :
    (finding e x t c = .toDevice → seriesTurn e x t c = ownTransfer x t c)
    ∧ ∀ v, finding e x t c = .fromShadow v → seriesTurn e x t c = completeAndExamine e x 5 (some v) c := by
  refine ⟨fun hd => ?_, fun v hd => ?_⟩ <;>
    simp only [seriesTurn, h, hf, hd, Bool.false_eq_true, if_false]

theorem headTurn_goes {x : Sub} {t : Txn} (h : t.state ≠ .restarting) (hd : finding e x t c = .toDevice)
    (hon : c.power t.device = .on) (hr : ∀ q ∈ c.rcc.replay, q.device ≠ t.device) :
    headTurn e x t c = ownTransfer x t c := by
  rw [headTurn, if_neg h, hd]
  exact if_pos (by rw [(isOn_iff _ _).mpr hon, (replayPending_false _ _).mpr hr]; rfl)

theorem headTurn_examines {x : Sub} {t : Txn} (h : t.state ≠ .restarting)
    (hd : finding e x t c ≠ .toDevice ∨ c.power t.device ≠ .on ∨ ∃ q ∈ c.rcc.replay, q.device = t.device) :
    headTurn e x t c = examine e x c := by
  rw [headTurn, if_neg h]
  split
  · rename_i hf
    refine if_neg ?_
    rcases hd with hd | hd | hd
    · exact absurd hf hd
    · simp [(isOn_false _ _).mpr hd]
    · simp [(replayPending_iff _ _).mpr hd]
  · rfl

end

theorem needsRestore_false {e : Env} {c : Core} {x : Sub} {d : Device} {q : ShadowEntry}
    (h : ¬(q.entry.device = d ∧ needsContext e c x q = true)) : needsRestore e c x d q = false := by
  rw [← Bool.not_eq_true, needsRestore, Bool.and_eq_true, decide_eq_true_eq]
  exact h

/-- Settles O55. -/
theorem arbiterDecides : Obligations.ArbiterDecides := by
  unfold Obligations.ArbiterDecides
  refine ⟨fun e c => ⟨fun hb => ?_, fun hb => ⟨fun p => busStep_arrives hb, busStep_arbitrates hb⟩⟩,
    fun e c => ⟨fun p => arbitrate_prep, fun hp => ⟨fun q rest hr => ?_, fun hr => ⟨fun hs => ?_, fun x t hs ht => ?_⟩⟩⟩,
    headReady_iff, fun c released ready hreleased hready => ?_,
    fun e p c => ⟨fun i m hstep hi hm hbefore => ⟨fun v hs hn hv => ?_, fun v hs hn hv => ?_⟩, fun hs hno => ?_,
      fun hs hno => ?_, fun hs => ⟨fun w hw => ?_, fun hle => ?_⟩⟩,
    fun e x c m => ⟨needsContext_iff e c x m, needsCommon_iff e c m⟩,
    fun e q rest c m hm => ⟨fun v => replayTurn_writes hm, fun h => ?_⟩,
    fun e x t c => ⟨fun hs => ⟨fun hf => ?_, fun hf => ⟨fun i m v hi hm hd hn hv hbefore => ?_, fun hno => ?_⟩⟩,
      fun hs => ⟨headTurn_goes hs, headTurn_examines hs⟩, rfl⟩, fun _ _ _ _ _ _ => rfl⟩
  · obtain ⟨t, ht⟩ := Option.isSome_iff_exists.mp hb
    exact busStep_busy ht
  · rw [arbitrate_lower hp, lower_replay hr]
  · rw [arbitrate_lower hp, lower_idle hr hs]
  · rw [arbitrate_lower hp, lower_head hr hs ht]
  · have hrel : released = releasedReady c :=
      funext fun x => Bool.eq_iff_iff.mpr ((hreleased x).trans (releasedReady_iff c x).symm)
    subst hrel
    refine ⟨fun x => chooseStack_released, fun ha hb => ⟨fun x t ht hs hbegun hother => ?_, fun hno => ?_⟩⟩
    · have hnot : ∀ y, releasedReady c y = false := fun y => by cases y <;> assumption
      have hunreleased : t.released = false := by
        by_contra h
        have := (releasedReady_iff c x).mpr ⟨t, ht, by simpa using h⟩
        simp [hnot x] at this
      refine chooseStack_series ha hb ((seriesBegun_iff c x).mpr ⟨t, ht, hunreleased, hs, hbegun⟩) ?_
      rw [← Bool.not_eq_true, seriesBegun_iff]
      rintro ⟨u, hu, -, hus, hub⟩
      simp [hother u hu hus] at hub
    · have hseries : ∀ x, seriesBegun c x = false := fun x => by
        rw [← Bool.not_eq_true, seriesBegun_iff]
        rintro ⟨u, hu, -, hus, hub⟩
        simp [hno x u hu hus] at hub
      rw [chooseStack_turn ha hb hseries, ← hready, ← hready]
      exact ⟨fun x => alternate_some, fun h1 h2 => by rw [h1, h2]; rfl⟩
  · have hfirst := firstFrom_some hi hm hn fun j q h1 h2 h3 => (hbefore j q h1 h2 h3).1 hs
    rw [prepTurn_context hs, hfirst]
    simp only [hv]
    rfl
  · have hfirst := firstFrom_some hi hm hn fun j q h1 h2 h3 => (hbefore j q h1 h2 h3).2 hs
    rw [prepTurn_common hs, hfirst]
    simp only [hv]
    rfl
  · rw [prepTurn_context hs, firstFrom_none hno]
    rfl
  · rw [prepTurn_common hs, firstFrom_none hno]
    rfl
  · rw [prepTurn_staged hs, hw]
    rfl
  · rw [prepTurn_staged hs, List.getElem?_eq_none hle]
  · rw [replayTurn_drops hm h, replayShortened]
    by_cases hr : ∃ r ∈ rest, r.device = q.device
    · rw [if_pos hr, if_pos ((replayPending_iff _ _).mpr hr)]
    · rw [if_neg hr, if_neg (mt (replayPending_iff _ _).mp hr)]
  · rw [headTurn_series hs, seriesTurn_foreign hf]
  · rw [headTurn_series hs, seriesTurn_restores hf (firstFrom_some hi hm (by simp [needsRestore, hd, hn])
      fun j q h1 h2 h3 => needsRestore_false (hbefore j q h1 h2 h3)) hv]
  · rw [headTurn_series hs]
    exact seriesTurn_last hf (firstFrom_none fun j q h1 h2 => needsRestore_false (hno j q h1 h2))

end Sys2Proof.Machine

/-! PROOFS. The Session Manager: calls, texts, their segments, and the notices of the Timeline Arbiter (R41 to R69). -/

namespace Sys2Proof.Machine

@[simp] theorem restartMonitor_sessionCount (port : Port) (s : State) :
    sessionCount (restartMonitor port s).core = sessionCount s.core := by simp [sessionCount]

@[simp] theorem restartMonitor_queue (port : Port) (s : State) (x : Sub) :
    (restartMonitor port s).core.queue x = s.core.queue x := by simp [Core.queue]

/-! ### A session of the requester's own (R64, R65, R67, R68) -/

section
variable {x : Sub} {h : Handle} {s : State} {go : Session → Answer} {n : Session}

theorem ownSession_none (hs : s.core.session h = none) : ownSession x h s go = refuse .noSuch s := by
  simp only [ownSession, hs]

theorem ownSession_foreign (hs : s.core.session h = some n) (ho : n.owner ≠ x) :
    ownSession x h s go = refuse .notOwner s := by
  simp only [ownSession, hs, if_neg ho]

theorem ownSession_own (hs : s.core.session h = some n) (ho : n.owner = x) : ownSession x h s go = go n := by
  simp only [ownSession, hs, if_pos ho]

end

/-! ### Voice (R46 to R48) -/

theorem badConnect_iff (now : Time) (period length : Half) (anchor : Time) (band : Byte) :
    badConnect now period length anchor band = true ↔
      period.toNat < 160 ∨ 2560 < period.toNat ∨ length.toNat < 8 ∨ period.toNat < length.toNat + 4 ∨ 7 < band.toNat
      ∨ (atOrAfter anchor (now + 16777216) = true ∧ before anchor now = false) := by
  simp only [badConnect, Bool.or_eq_true, decide_eq_true_eq, farStart_iff, or_assoc]

section
variable {x : Sub} {seq : Byte} {s : State} {h : Handle} {n : Session} {v : Voice} {period length frequency : Half}
  {anchor : Time} {band : Byte}


/-- A call in SETUP whose VOICE record has been asked for answers what the creation answers. -/
theorem voiceConnect_created (acts : Acts s x) (hs : s.core.session h = some n) (ho : n.owner = x)
    (hb : n.body = .voice v) (ht : v.traffic = none) (hbad : badConnect s.env.count period length anchor band = false)
    {c : Core} {made : Creation} (hc : createRecord s.env
      { newRecord x .voice anchor 0 length.toNat frequency (band.setWidth 3) with
        emergency := v.emergency, repeats := some ⟨period.toNat, 0⟩, session := some n.handle }
      (restartMonitor (.stack x) s).core = (c, made)) {a : Answer}
    (ha : a = answerCreation (restartMonitor (.stack x) s) (match made with
      | .created g _ => connectCall s.env n v period length anchor g c
      | _ => c) made) :
    exec (.voiceConnect (.stack x) seq h period length anchor frequency band) s =
      .next (a.state.answerSlot (.stack x) ⟨seq, a.status, a.payload⟩) := by
  subst ho
  refine takeRequest_stack_answers acts ((ownSession_own (by simpa using hs) rfl).trans ?_)
  simp only [hb, ht, Option.isSome_none, Bool.false_eq_true, if_false, restartMonitor_env, hbad, connect, voiceRecord, bandOf,
    hc]
  cases made <;> exact ha.symm

end

/-- Settles O40. -/
theorem voiceCommands : Obligations.VoiceCommands := by
  unfold Obligations.VoiceCommands
  refine ⟨fun x seq s s1 acts hs1 => ⟨fun hv emergency => ?_, fun hv => ⟨fun hc => ?_, fun hc hl => ?_,
      fun emergency hc hl hfull => ?_⟩⟩,
    fun x seq h c s s1 acts hs1 hcmd => ⟨fun hs => ?_, fun n hs => ⟨fun ho => ?_, fun t ho hb => ?_⟩⟩,
    fun x seq h n v period length frequency anchor band s s1 acts hs1 hs ho hb => ⟨fun ht => ?_, fun ht => ⟨fun hbad => ?_,
      fun c made hbad hc => ⟨fun hm => ?_, fun hm => ?_, fun refused hm => ?_⟩⟩⟩,
    badConnect_iff, fun x seq s acts => ⟨fun emergency c h hv hc hl hroom hadd => ?_,
      fun h g n v period length frequency anchor start band c hs ho hb ht hbad hc => ?_, fun h n v hs ho hb => ?_⟩⟩
  · subst hs1
    refine takeRequest_stack_refuse acts ?_
    simp only [restartMonitor_voiceSession, hv, if_true]
  · subst hs1
    refine takeRequest_stack_refuse acts ?_
    simp [hv, hc]
  · subst hs1
    refine takeRequest_stack_refuse acts ?_
    simp [hv, hc, hl]
  · subst hs1
    refine takeRequest_stack_refuse acts ?_
    have hc' : ¬((s.core.csc.get x).coverage ≠ .inService ∧ emergency = false) := by
      rintro ⟨h1, h2⟩; exact hc.elim h1 (by simp [h2])
    have hl' : ¬(s.env.supply = .low ∧ emergency = false) := by
      rintro ⟨h1, h2⟩; exact hl.elim (· h1) (by simp [h2])
    simp only [restartMonitor_voiceSession, hv, restartMonitor_csc, restartMonitor_env, if_neg hc', if_neg hl',
      restartMonitor_sessionCount, if_pos (show Config.sessionSize ≤ sessionCount s.core from hfull), Option.isSome_none,
      Bool.false_eq_true, if_false]
  · subst hs1
    rcases hcmd with rfl | ⟨period, length, anchor, frequency, band, rfl⟩ <;>
      exact takeRequest_stack_refuse acts (ownSession_none (by simpa using hs))
  · subst hs1
    rcases hcmd with rfl | ⟨period, length, anchor, frequency, band, rfl⟩ <;>
      exact takeRequest_stack_refuse acts (ownSession_foreign (by simpa using hs) ho)
  · subst hs1
    rcases hcmd with rfl | ⟨period, length, anchor, frequency, band, rfl⟩ <;>
      exact takeRequest_stack_refuse acts ((ownSession_own (by simpa using hs) ho).trans (by simp only [hb]))
  · subst hs1
    refine takeRequest_stack_refuse acts ((ownSession_own (by simpa using hs) ho).trans ?_)
    simp only [hb, ht, if_true]
  · subst hs1
    refine takeRequest_stack_refuse acts ((ownSession_own (by simpa using hs) ho).trans ?_)
    simp only [hb, ht, Option.isSome_none, Bool.false_eq_true, if_false, restartMonitor_env, hbad, if_true]
  · subst hs1 hm
    exact voiceConnect_created acts hs ho hb ht hbad hc rfl
  · subst hs1 hm
    exact voiceConnect_created acts hs ho hb ht hbad hc rfl
  · subst hs1 hm
    exact voiceConnect_created acts hs ho hb ht hbad hc rfl
  · refine takeRequest_stack_accept acts ?_
    have hc' : ¬((s.core.csc.get x).coverage ≠ .inService ∧ emergency = false) := by
      rintro ⟨h1, h2⟩; exact hc.elim h1 (by simp [h2])
    have hl' : ¬(s.env.supply = .low ∧ emergency = false) := by
      rintro ⟨h1, h2⟩; exact hl.elim (· h1) (by simp [h2])
    simp only [restartMonitor_voiceSession, hv, restartMonitor_csc, restartMonitor_env, if_neg hc', if_neg hl',
      restartMonitor_sessionCount, if_neg (show ¬Config.sessionSize ≤ sessionCount s.core from not_le.mpr hroom),
      Option.isSome_none, Bool.false_eq_true, if_false, hadd]
    rfl
  · subst ho
    exact voiceConnect_created acts hs rfl hb ht hbad hc rfl
  · subst ho
    refine takeRequest_stack_accept acts ((ownSession_own (by simpa using hs) rfl).trans ?_)
    simp only [hb]
    rfl

/-! ### Sessions and segments (R41, R43, R54 to R60) -/

theorem addSession_at {owner : Sub} {body : SessionBody} {c : Core} {i : Nat} {h : Handle} (hi : i < 256)
    (hfree : c.smg.sessions[i]? = some none) (hlow : ∀ j, j < i → ∃ n, c.smg.sessions[j]? = some (some n))
    (hh : h = ⟨BitVec.ofNat 8 i, (c.smg.generations[i]?).getD 0 + 1⟩) :
    addSession owner body c =
      ({ c with smg := { c.smg with
          sessions := c.smg.sessions.set i (some ⟨h, owner, body⟩)
          generations := c.smg.generations.set i h.generation } }, h) := by
  have hfind : c.smg.sessions.findIdx? Option.isNone = some i := by
    obtain ⟨hlt, hget⟩ := List.getElem?_eq_some_iff.mp hfree
    refine List.findIdx?_eq_some_iff_getElem.mpr ⟨hlt, by rw [hget]; rfl, fun j hj => ?_⟩
    obtain ⟨n, hn⟩ := hlow j hj
    obtain ⟨_, hget⟩ := List.getElem?_eq_some_iff.mp hn
    simp [hget]
  have hnew : newSessionHandle c.smg = h := by
    simp only [newSessionHandle, hfind, Option.getD_some, nextGeneration, hh]
  have hidx : h.index.toNat = i := by
    rw [hh, BitVec.toNat_ofNat]
    omega
  simp only [addSession, hnew, hidx, Core.setSmg]

theorem addSession_queue {owner : Sub} {body : SessionBody} {c d : Core} {h : Handle} (hadd : addSession owner body c = (d, h))
    (x : Sub) : d.queue x = c.queue x := by
  obtain ⟨rfl, -⟩ := Prod.mk.inj hadd
  rfl

theorem submitText_waits {e : Env} {x : Sub} {t : TextBody} {c d : Core} {h : Handle}
    (hadd : addSession x (.text t) c = (d, h)) (hq : c.queue x ≠ []) :
    submitText e x t c = (d.setQueue x (c.queue x ++ [h]), h) := by
  simp only [submitText, hadd, addSession_queue hadd, List.isEmpty_iff, if_neg hq]

theorem submitText_first {e : Env} {x : Sub} {t : TextBody} {c d : Core} {h : Handle}
    (hadd : addSession x (.text t) c = (d, h)) (hq : c.queue x = []) :
    submitText e x t c = (sendOrHold e x (d.setQueue x [h]), h) := by
  simp only [submitText, hadd, addSession_queue hadd, List.isEmpty_iff, hq, if_true, List.nil_append]

theorem closeSession_eq {e : Env} {reported : Bool} {n : Session} {c closed freed : Core}
    (hclosed : closed = (c.tla.table.filter fun r => decide (r.session = some n.handle)).foldl
      (fun c' r => withdrawRecord e .sessionClosed reported r c') c)
    (hfreed : freed = { closed with smg := { closed.smg with
      sessions := closed.smg.sessions.set n.handle.index.toNat none
      queues := closed.smg.queues.set n.owner
        ((closed.smg.queues.get n.owner).filter fun h => decide (h ≠ n.handle)) } }) :
    closeSession e reported n c =
      if (closed.queue n.owner).head? = some n.handle then sendOrHold e n.owner freed else freed := by
  have h1 : closeSession e reported n c = freeSession e n closed := by rw [hclosed]; rfl
  rw [h1, freeSession, hfreed]
  simp only [decide_eq_true_eq]
  rfl

theorem pageAhead_iff (e : Env) (x : Sub) (r : Reservation) : pageAhead e x r = true ↔
    r.owner = x ∧ r.cls = .page ∧ r.state = .granted ∧ (r.start - e.count).toNat ≤ 64000 := by
  simp only [pageAhead, Bool.and_eq_true, decide_eq_true_eq, atOrAfter, and_assoc]
  refine ⟨fun ⟨h1, h2, h3, _, h5⟩ => ⟨h1, h2, h3, h5⟩, fun ⟨h1, h2, h3, h5⟩ => ⟨h1, h2, h3, by omega, h5⟩⟩

theorem eligible_iff (e : Env) (c : Core) (x : Sub) (urgent : Bool) : eligible e c x urgent = true ↔
    (c.csc.get x).coverage = .inService ∧ (e.supply ≠ .low ∨ urgent = true) := by
  simp only [eligible, Bool.and_eq_true, Bool.or_eq_true, decide_eq_true_eq, or_comm]

theorem segmentDesired_later {e : Env} {c : Core} {x : Sub} {t : TextBody} {u : Time} (h : t.notBefore = some u)
    (hu : atOrAfter u (e.count + 4) = true) : segmentDesired e c x t = u := by
  simp only [segmentDesired, h]
  exact if_pos hu

theorem segmentDesired_start {e : Env} {c : Core} {x : Sub} {t : TextBody}
    (h : t.notBefore = none ∨ ∃ u, t.notBefore = some u ∧ before u (e.count + 4) = true) :
    segmentDesired e c x t = segmentStart e c x t.urgent := by
  rcases h with h | ⟨u, h, hu⟩
  · simp only [segmentDesired, h]
  · simp only [segmentDesired, h]
    rw [before, Bool.not_eq_true'] at hu
    exact if_neg (by rw [show tu Config.guardGap = 4 from rfl, hu]; decide)

theorem segmentStart_page {e : Env} {c : Core} {x : Sub} {earlier later : List Reservation} {r : Reservation}
    (htable : c.tla.table = earlier ++ r :: later) (hr : pageAhead e x r = true)
    (hearlier : ∀ q ∈ earlier, pageAhead e x q = false) :
    segmentStart e c x false = r.start + tu (r.length + 4) := by
  have hfind : c.tla.table.find? (pageAhead e x) = some r :=
    List.find?_eq_some_iff_append.mpr ⟨hr, earlier, later, htable, fun q hq => by simp [hearlier q hq]⟩
  simp only [segmentStart, hfind, Bool.false_eq_true, if_false]
  rfl

theorem segmentStart_free {e : Env} {c : Core} {x : Sub} (h : ∀ r ∈ c.tla.table, pageAhead e x r = false) :
    segmentStart e c x false = e.count + 4 := by
  have hfind : c.tla.table.find? (pageAhead e x) = none := List.find?_eq_none.mpr fun r hr => by simp [h r hr]
  simp only [segmentStart, hfind, Bool.false_eq_true, if_false]
  rfl

/-- The first and the second failure pause, twice as long the second time (R60). -/
theorem failSegment_retried {e : Env} {cause : Nat} {n : Session} {t : TextBody} {c : Core} (h : t.retries < 2) :
    failSegment e cause n t c = sendSegment e n (c.editText n.handle fun t' =>
      { t' with notBefore := some (e.count + tu (320 * 2 ^ t.retries)), retries := t.retries + 1 }) := by
  rw [failSegment, if_pos h]

theorem failSegment_last {e : Env} {cause : Nat} {n : Session} {t : TextBody} {c : Core} (h : t.retries = 2) :
    failSegment e cause n t c =
      post e (.stack n.owner) ⟨.textFailed, .session n.owner n.handle, e.count, value16 (t.done + 1), value16 cause⟩
        (closeSession e true n c) := by
  rw [failSegment, if_neg (by omega)]
  rfl

theorem segmentSent_last {e : Env} {n : Session} {t : TextBody} {c : Core} (h : t.done + 1 = t.total) :
    segmentSent e n t c = post e (.stack n.owner) ⟨.textDone, .session n.owner n.handle, e.count, value16 t.total, 0⟩
      (closeSession e false n c) := by
  rw [segmentSent, if_pos h]
  rfl

theorem segmentSent_next {e : Env} {n : Session} {t : TextBody} {c : Core} (h : t.done + 1 ≠ t.total) :
    segmentSent e n t c = sendSegment e n (c.editText n.handle fun t' =>
      { t' with done := t.done + 1, retries := 0, notBefore := none }) := by
  rw [segmentSent, if_neg h]

theorem placeSegment_created {e : Env} {n : Session} {t : TextBody} {c d : Core} {h : Handle} {start : Time}
    (hc : createRecord e (segmentRecord e c n t) c = (d, .created h start)) : placeSegment e n t c =
      post e (.stack n.owner)
        ⟨.textWindow, .session n.owner n.handle, start, h.index ++ h.generation, value16 (t.done + 1)⟩
        (d.editText n.handle fun t' => { t' with record := some h, notBefore := none }) := by
  simp only [placeSegment, hc]
  rfl

theorem placeSegment_refused {e : Env} {n : Session} {t : TextBody} {c d : Core} {made : Creation}
    (hc : createRecord e (segmentRecord e c n t) c = (d, made)) (hm : ∀ h start, made ≠ .created h start) :
    placeSegment e n t c = d := by
  cases made with
  | created h start => exact absurd rfl (hm h start)
  | _ => simp only [placeSegment, hc]

theorem sendSegment_head {e : Env} {n : Session} {c : Core} (h : (c.queue n.owner).head? = some n.handle) :
    sendSegment e n c = sendOrHold e n.owner c := by rw [sendSegment, if_pos h]

theorem sendSegment_waits {e : Env} {n : Session} {c : Core} (h : (c.queue n.owner).head? ≠ some n.handle) :
    sendSegment e n c = c := by rw [sendSegment, if_neg h]

/-! ### The head of a text queue (R54, R55, R57) -/

theorem waitsForRoom_iff (t : TextBody) :
    t.waitsForRoom = true ↔ t.state = .sending ∧ t.record = none ∧ t.deadline = none := by
  simp only [TextBody.waitsForRoom, Bool.and_eq_true, decide_eq_true_eq, Option.isNone_iff_eq_none, and_assoc]

section
variable {e : Env} {x : Sub} {c : Core} {n : Session} {t : TextBody}

theorem sendOrHold_none (h : c.headText x = none) : sendOrHold e x c = c := by simp only [sendOrHold, h]
theorem retryPlacement_none (h : c.headText x = none) : retryPlacement e x c = c := by simp only [retryPlacement, h]
theorem lookAgain_none (h : c.headText x = none) : lookAgain e x c = c := by simp only [lookAgain, h]

theorem sendOrHold_sends (h : c.headText x = some (n, t)) (he : eligible e c x t.urgent = true) :
    sendOrHold e x c = placeSegment e n t (c.editText n.handle fun t' => { t' with state := .sending }) := by
  simp only [sendOrHold, h, he, if_true]

theorem sendOrHold_holds (h : c.headText x = some (n, t)) (he : eligible e c x t.urgent = false) :
    sendOrHold e x c = c.editText n.handle fun t' => { t' with state := .held } := by
  simp only [sendOrHold, h, he, Bool.false_eq_true, if_false]

theorem retryPlacement_waits (h : c.headText x = some (n, t)) (hw : t.waitsForRoom = true) :
    retryPlacement e x c = sendOrHold e x c := by simp only [retryPlacement, h, hw, if_true]

theorem retryPlacement_stays (h : c.headText x = some (n, t)) (hw : ¬t.waitsForRoom = true) :
    retryPlacement e x c = c := by simp only [retryPlacement, h, if_neg hw]

theorem lookAgain_held (h : c.headText x = some (n, t)) (hs : t.state = .held) (he : eligible e c x t.urgent = true) :
    lookAgain e x c = sendOrHold e x c := by simp only [lookAgain, h, hs, he]

theorem lookAgain_sending (h : c.headText x = some (n, t)) (hs : t.state = .sending)
    (he : eligible e c x t.urgent = false) : lookAgain e x c = loseEligibility e n t c := by
  simp only [lookAgain, h, hs, he]

theorem lookAgain_stays (h : c.headText x = some (n, t)) (hs : t.state = .queued
    ∨ (t.state = .held ∧ eligible e c x t.urgent = false) ∨ (t.state = .sending ∧ eligible e c x t.urgent = true)) :
    lookAgain e x c = c := by
  rcases hs with hs | ⟨hs, he⟩ | ⟨hs, he⟩
  · simp only [lookAgain, h, hs]
  · simp only [lookAgain, h, hs, he]
  · simp only [lookAgain, h, hs, he]

theorem loseEligibility_granted {h : Handle} {r : Reservation} (ht : t.record = some h) (hr : c.reservation h = some r)
    (hs : r.state = .granted) : loseEligibility e n t c =
      withdrawRecord e .withdrawn true r (c.editText n.handle fun t' => { t' with state := .held, record := none }) := by
  simp only [loseEligibility, ht, hr, hs, if_true]

theorem loseEligibility_begun {h : Handle} {r : Reservation} (ht : t.record = some h) (hr : c.reservation h = some r)
    (hs : r.state ≠ .granted) : loseEligibility e n t c = c := by
  simp only [loseEligibility, ht, hr, if_neg hs]

theorem loseEligibility_none (ht : t.record = none) : loseEligibility e n t c =
    if t.deadline.isNone then c.editText n.handle fun t' => { t' with state := .held } else c := by
  simp only [loseEligibility, ht]

end

/-- Settles O42. -/
theorem segmentRules : Obligations.SegmentRules := by
  unfold Obligations.SegmentRules
  refine ⟨eligible_iff, fun e c x t => ⟨fun u h hu => segmentDesired_later h hu, fun h => ⟨fun hu => ?_, fun hu hfree => ?_,
      fun earlier r later hu htable hr hearlier => ?_⟩⟩, pageAhead_iff,
    fun e cause n t c => ⟨fun h => ?_, fun h => ?_, failSegment_last⟩,
    fun e n t c r hr => ⟨fun d h start hc => ?_, fun d made hc hm => ?_⟩,
    fun e n c => ⟨sendSegment_head, sendSegment_waits⟩,
    fun e x c => ⟨fun h => ⟨sendOrHold_none h, retryPlacement_none h, lookAgain_none h⟩, fun n t h =>
      ⟨sendOrHold_sends h, sendOrHold_holds h, fun h1 h2 h3 => ?_, fun hw => ?_, lookAgain_held h,
        fun hs he => ⟨fun g r ht hr hg => ?_, fun g r ht hr hg => ?_, fun ht hd => ?_, fun ht hd => ?_⟩,
        lookAgain_stays h⟩⟩⟩
  · rw [segmentDesired_start h, segmentStart, if_pos hu]
    rfl
  · rw [segmentDesired_start h, hu, segmentStart_free hfree]
  · rw [segmentDesired_start h, hu, segmentStart_page htable hr hearlier]
  · rw [failSegment_retried (by omega), h]
    rfl
  · rw [failSegment_retried (by omega), h]
    rfl
  · subst hr
    exact placeSegment_created hc
  · subst hr
    exact placeSegment_refused hc hm
  · exact retryPlacement_waits h ((waitsForRoom_iff t).mpr ⟨h1, h2, h3⟩)
  · refine retryPlacement_stays h fun hr => ?_
    obtain ⟨h1, h2, h3⟩ := (waitsForRoom_iff t).mp hr
    rcases hw with hw | hw | hw
    · exact hw h1
    · exact hw h2
    · exact hw h3
  · rw [lookAgain_sending h hs he, loseEligibility_granted ht hr hg]
  · rw [lookAgain_sending h hs he, loseEligibility_begun ht hr hg]
  · rw [lookAgain_sending h hs he, loseEligibility_none ht, hd]
    rfl
  · rw [lookAgain_sending h hs he, loseEligibility_none ht, if_neg (by simpa using hd)]

/-! ### Text commands (R59, R61, R66 to R68) -/

theorem badSubmit_iff (segments : Byte) (length : Half) (band : Byte) : badSubmit segments length band = true ↔
    segments.toNat < 1 ∨ 16 < segments.toNat ∨ length.toNat < 16 ∨ 3200 < length.toNat ∨ 7 < band.toNat := by
  simp only [badSubmit, Bool.or_eq_true, decide_eq_true_eq, or_assoc, Nat.lt_one_iff]

theorem segmentVerdict_none {b : Byte} : 1 < b.toNat → segmentVerdict b = none := by
  revert b
  decide

theorem segmentVerdict_some {b : Byte} : b.toNat ≤ 1 → ∃ ok, segmentVerdict b = some ok := by
  revert b
  decide

section
variable {x : Sub} {seq : Byte} {h : Handle} {n : Session} {t : TextBody} {s : State}

/-- SEGMENT_RESULT with a deadline present is taken. -/
theorem segmentResult_taken (acts : Acts s x) (hs : s.core.session h = some n) (ho : n.owner = x) (hb : n.body = .text t)
    (hd : t.deadline.isSome = true) {result : Byte} {ok : Bool} (hv : segmentVerdict result = some ok) :
    exec (.segmentResult (.stack x) seq h result) s = .next
      (((restartMonitor (.stack x) s).react fun e c => takeVerdict e ok n t c).replied (.stack x) seq
        (bytes8 (t.done + ok.toNat))) := by
  refine takeRequest_stack_accept acts ((ownSession_own (by simpa using hs) ho).trans ?_)
  simp only [hv, hb, hd, if_true]

/-- A reached deadline of the head fails its segment with NO_RESULT (R61). -/
theorem takeResultDeadline_reached {e : Env} {c : Core} {d : Time} (hh : c.headText x = some (n, t))
    (hd : t.deadline = some d) (hr : atOrAfter e.count d = true) : takeResultDeadline x e c =
      failSegment e 1 n t (c.editText n.handle fun t' => { t' with deadline := none, late := true }) := by
  have hdue : dueResult e c x = some (n, t) := by
    simp only [dueResult, hh, hd, (reachedOpt_iff _ _).mpr ⟨d, rfl, hr⟩, if_true]
  simp only [takeResultDeadline, hdue, resultExpired]
  rfl

end

/-- Settles O41. -/
theorem textCommands : Obligations.TextCommands := by
  unfold Obligations.TextCommands
  refine ⟨fun x seq segments length frequency urgent band bad s s1 acts hs1 hbad => ⟨fun h => ?_, fun h hq => ?_,
      fun h hq hfull => ?_⟩,
    fun x seq h c s s1 acts hs1 hcmd => ⟨fun hs => ?_, fun n hs => ⟨fun ho => ?_, fun ho result hr hc => ?_,
      fun v ho hb hres => ?_⟩⟩,
    fun x seq s acts => ⟨fun segments length frequency urgent band c h h1 h2 h3 h4 h5 hq hroom hsub => ?_,
      fun h n t hs ho hb => ⟨fun hd => ⟨?_, ?_⟩, fun hd result hr => ?_, ?_⟩⟩,
    fun x n t d s running hh hd hr => ?_,
    fun owner body c i h hi hfree hlow hh => addSession_at hi hfree hlow hh,
    fun e x t c d h hadd => ⟨submitText_waits hadd, submitText_first hadd⟩,
    fun e n t c => ⟨segmentSent_last, segmentSent_next⟩,
    fun e reported n c closed freed hclosed hfreed => ⟨fun h => ?_, fun h => ?_⟩⟩
  · subst hs1
    refine takeRequest_stack_refuse acts ?_
    simp only [(badSubmit_iff segments length band).mpr (hbad.mp h), if_true]
  · subst hs1
    refine takeRequest_stack_refuse acts ?_
    have hb : ¬badSubmit segments length band = true := fun hb => h (hbad.mpr ((badSubmit_iff _ _ _).mp hb))
    simp only [if_neg hb, restartMonitor_queue, if_pos (show Config.textLimit ≤ (s.core.queue x).length from hq)]
  · subst hs1
    refine takeRequest_stack_refuse acts ?_
    have hb : ¬badSubmit segments length band = true := fun hb => h (hbad.mpr ((badSubmit_iff _ _ _).mp hb))
    simp only [if_neg hb, restartMonitor_queue, restartMonitor_sessionCount,
      if_neg (show ¬Config.textLimit ≤ (s.core.queue x).length from not_le.mpr hq),
      if_pos (show Config.sessionSize ≤ sessionCount s.core from hfull)]
  · subst hs1
    rcases hcmd with rfl | ⟨result, rfl⟩ <;>
      exact takeRequest_stack_refuse acts (ownSession_none (by simpa using hs))
  · subst hs1
    rcases hcmd with rfl | ⟨result, rfl⟩ <;>
      exact takeRequest_stack_refuse acts (ownSession_foreign (by simpa using hs) ho)
  · subst hs1 hc
    refine takeRequest_stack_refuse acts ((ownSession_own (by simpa using hs) ho).trans ?_)
    simp only [segmentVerdict_none hr]
  · subst hs1
    rcases hcmd with rfl | ⟨result, rfl⟩
    · refine takeRequest_stack_refuse acts ((ownSession_own (by simpa using hs) ho).trans ?_)
      simp only [hb]
    · obtain ⟨ok, hok⟩ := segmentVerdict_some (hres result rfl)
      refine takeRequest_stack_refuse acts ((ownSession_own (by simpa using hs) ho).trans ?_)
      simp only [hok, hb]
  · refine takeRequest_stack_accept acts ?_
    have hb : ¬badSubmit segments length band = true := fun hb => by
      have := (badSubmit_iff _ _ _).mp hb
      omega
    have hsub' : submitText s.env x (newText segments length urgent frequency band) (restartMonitor (.stack x) s).core
      = (c, h) := hsub
    simp only [if_neg hb, restartMonitor_queue, restartMonitor_sessionCount, restartMonitor_env,
      if_neg (show ¬Config.textLimit ≤ (s.core.queue x).length from not_le.mpr hq),
      if_neg (show ¬Config.sessionSize ≤ sessionCount s.core from not_le.mpr hroom), hsub']
    rfl
  · exact segmentResult_taken (ok := true) acts hs ho hb hd rfl
  · exact segmentResult_taken (ok := false) acts hs ho hb hd rfl
  · obtain ⟨ok, hok⟩ := segmentVerdict_some hr
    refine takeRequest_stack_refuse acts ((ownSession_own (by simpa using hs) ho).trans ?_)
    simp only [hok, hb, hd, Option.isSome_none, Bool.false_eq_true, if_false]
    cases t.late <;> rfl
  · refine takeRequest_stack_accept acts ((ownSession_own (by simpa using hs) ho).trans ?_)
    simp only [hb]
  · rw [exec_runs rfl running]
    have hcore : takeResultDeadline x s.env s.core = failSegment s.env 1 n t
        (s.core.editText n.handle fun t' => { t' with deadline := none, late := true }) :=
      takeResultDeadline_reached hh hd hr
    exact congrArg _ (react_congr (g := fun e c => failSegment e 1 n t
      (c.editText n.handle fun t' => { t' with deadline := none, late := true })) hcore)
  · rw [closeSession_eq hclosed hfreed, if_pos h]
  · rw [closeSession_eq hclosed hfreed, if_neg h]

/-! ### Notices of the Timeline Arbiter (R44, R48, R52, R57, R58) -/

theorem missPage_counted {e : Env} {x : Sub} {c : Core} {n : Nat} (hn : n = min 255 ((c.smg.missed.get x).count + 1))
    (h : (c.smg.missed.get x).starved = true ∨ n < 3) : missPage e x c =
      { c with smg := { c.smg with missed := c.smg.missed.set x ⟨n, (c.smg.missed.get x).starved⟩ } } := by
  subst hn
  rw [missPage, if_neg]
  · rfl
  · simp only [saturate, Bool.and_eq_true, Bool.not_eq_true', not_and]
    intro h1 h2
    rcases h with h | h
    · exact absurd (h1.symm.trans h) (by decide)
    · exact absurd (of_decide_eq_true h2) (not_le.mpr h)

theorem missPage_starved {e : Env} {x : Sub} {c : Core} {n : Nat} (hn : n = min 255 ((c.smg.missed.get x).count + 1))
    (hs : (c.smg.missed.get x).starved = false) (h : 3 ≤ n) : missPage e x c = { c with
      smg := { c.smg with missed := c.smg.missed.set x ⟨n, true⟩ }
      pif := c.pif.set .app ((c.pif.get .app).join
        ⟨.pageStarved, .subscription x, e.count, value16 n, value16 (c.holdsCall x.other).toNat⟩) } := by
  subst hn
  rw [missPage, if_pos]
  · rfl
  · rw [hs, Bool.not_false, Bool.true_and, decide_eq_true_eq]
    exact h

section
variable {e : Env} {h m : Handle} {x : Sub} {k : Class} {reason : EndReason} {session : Option Handle} {endTime : Time}
  {c : Core} {n : Session} {t : TextBody}

/-- The end of a record that is neither a segment's nor a starved call's only retries. -/
theorem recordEndedNotice_other (hk : k ≠ .text ∧ k ≠ .voice ∨ k = .voice ∧ reason ≠ .starved ∨ session = none) :
    recordEndedNotice e h x k (some reason) session endTime c = retryPlacement e x c := by
  unfold recordEndedNotice
  split <;> simp_all

theorem segmentEnded_none (hs : c.textSession m = none) : segmentEnded e h reason endTime m c = c := by
  simp only [segmentEnded, hs]

theorem segmentEnded_other (hs : c.textSession m = some (n, t)) (ht : t.record ≠ some h) :
    segmentEnded e h reason endTime m c = c := by
  simp only [segmentEnded, hs, if_neg ht]

end

/-- Settles O43. -/
theorem sessionNotices : Obligations.SessionNotices := by
  unfold Obligations.SessionNotices
  refine ⟨fun e x c n hn => ⟨missPage_counted hn, missPage_starved hn⟩,
    fun e c => ⟨fun x => rfl, fun x => rfl, fun h => rfl, fun x h reference => rfl,
      fun h x k reason session endTime => ⟨fun m hk hm => ?_, fun m n hk hr hm hn => ?_, recordEndedNotice_other⟩⟩,
    fun e h m reason endTime c => ⟨segmentEnded_none, fun n t hs => ⟨segmentEnded_other hs,
      fun gone ht hg => ⟨fun hr => ?_, fun hr => ?_, fun hr => ?_⟩⟩⟩⟩
  · subst hk hm
    rfl
  · subst hk hr hm
    have hv : voiceStarved e m c = closeCall e true closeStarved n c := by simp only [voiceStarved, hn]
    exact congrArg (retryPlacement e x) hv
  · subst hr hg
    simp only [segmentEnded, hs, ht, if_true]
    rfl
  · subst hg
    rcases hr with rfl | rfl <;> simp only [segmentEnded, hs, ht, if_true] <;> rfl
  · subst hg
    rcases hr with rfl | rfl <;> simp only [segmentEnded, hs, ht, if_true]

end Sys2Proof.Machine

/-! PROOFS. Three laws that a step does not keep from every state that meets the premises stated. Each counterexample is a
state that the part does not reach from reset: it holds what another law, not among the premises, rules out. -/

namespace Sys2Proof.Machine

/-- The part that a load has ended for, with A ATTACHED and only device 0 present. -/
def bareCore : Core := { Core.initial with ssv := ⟨⟨.attached, none⟩, ⟨.detached, none⟩⟩ }

/-! ### The law of sleep: a second transaction of an absent device

The part settles down with a transfer in flight that checks the falling device 0, and a transaction of the absent device 1
behind the head that waits for device 0. The check fails, the head completes POWER_FAIL, and the transaction behind it becomes a
head that waits for a device that is not there. -/

def waitingWrite : Txn := ⟨0, .write 0, .transceiver, 0, none, .waitingPower, false, true, true, 0, false⟩
def absentWrite : Txn := ⟨1, .write 0, .amplifier, 0, none, .queued, false, false, false, 0, false⟩

def settlingState : State :=
  { State.reset with
    env := { Env.initial with
      load := { Load.initial with phase := .ended }
      image := { Image.default with present := ⟨true, false, false, false⟩ } }
    core := { bareCore with
      psc := { Psc.initial with power := ⟨.falling 5, .off, .off, .off⟩, sleep := .settlingDown .light none }
      rcc := { Rcc.initial with
        bridges := ⟨⟨[waitingWrite, absentWrite], 2⟩, ⟨[], 0⟩⟩
        bus := some ⟨.read, .transceiver, 0, .replay, none, true, false, false, false, false⟩ } }
    pending := [.busTransferEnd ⟨true, true⟩ []] }

/-- What the step leaves: the absent device's transaction at the head, the part still settling down. -/
def settlingAfter : State :=
  { settlingState with
    core := { settlingState.core with
      rcc := { settlingState.core.rcc with
        answering := ⟨.notAnswering, .answering, .answering, .answering⟩
        bridges := ⟨⟨[{ absentWrite with state := .waitingPower, trapped := true, request := true }], 2⟩, ⟨[], 0⟩⟩
        bus := none }
      ssv := ⟨⟨.attached, some 64000⟩, ⟨.detached, none⟩⟩
      pif := ⟨⟨[⟨.bridgeDone, .ticket .A 0, 0, 6, 0⟩], 0⟩, ⟨[], 0⟩, ⟨[], 0⟩⟩ }
    pending := [] }

theorem step_settlingState : step settlingState = .next settlingAfter := rfl

/-- Refutes O13: a transaction of an absent device becomes the head while the part settles down. -/
theorem not_stepKeepsSleepLaw : ¬ Obligations.StepKeepsSleepLaw := by
  unfold Obligations.StepKeepsSleepLaw
  intro h
  have hlaw := h settlingState settlingAfter (by decide) (by decide) (by decide) step_settlingState
  revert hlaw
  decide

/-! ### The law of the device: a replay write left over from before the load

While the load runs the shadow map is empty, so that a pending replay write of entry 0 names no entry. The load ends with a
CONTEXT register in entry 0; a transfer left without effect keeps the bus busy, and the replay write now names that register. -/

def loadingState : State :=
  { State.reset with
    env := { Env.initial with
      load := { Load.initial with
        phase := .reading
        position := 1
        working := { Image.default with map := [⟨.transceiver, 0, .context, none⟩] } } }
    core := { Core.initial with
      psc := { Psc.initial with power := ⟨.on, .off, .off, .off⟩ }
      rcc := { Rcc.initial with
        replay := [⟨0, .transceiver, 0⟩]
        bus := some ⟨.read, .transceiver, 0, .replay, none, false, false, false, false, true⟩ } }
    pending := [.configByteRead (some 0)] }

def loadingAfter : State :=
  { loadingState with
    env := { loadingState.env with
      load := { loadingState.env.load with phase := .ended, position := 2, loaded := true }
      image := loadingState.env.load.working }
    core := { loadingState.core with
      rcc := { loadingState.core.rcc with
        shadow := [⟨⟨.transceiver, 0, .context, none⟩, ⟨none, none⟩, none, none⟩] } }
    pending := [] }

theorem step_loadingState : step loadingState = .next loadingAfter := rfl

/-- Refutes O12: a pending replay write comes to name a CONTEXT register when the load ends. -/
theorem not_stepKeepsContextLaw : ¬ Obligations.StepKeepsContextLaw := by
  unfold Obligations.StepKeepsContextLaw
  intro h
  have hlaw := h loadingState loadingAfter (by decide) (by decide) (by decide) (by decide) (by decide) step_loadingState
  revert hlaw
  decide

/-! ### The order of the table: a notice with a reference time far from now

The notice of a lost attempt carries the time from which the next attempt's start is worked out. Nothing in the premises bounds
it, and the attempt is placed almost half of the clock's range ahead of a record in the past and of one at hand: R1's order of
times turns over between them. -/

def pageAt (index : Byte) (start : Time) : Reservation :=
  { newRecord .A .page start 0 8 0 0 with handle := ⟨index, 0⟩, start := start, state := .granted }

/-- 536000000 tu before now, and 8 tu after it. -/
def pastPage : Reservation := pageAt 0 (0 - 536000000)
def nextPage : Reservation := pageAt 1 8

def searchingState : State :=
  { State.reset with
    env := { Env.initial with
      load := { Load.initial with phase := .ended }
      image := { Image.default with present := ⟨false, false, false, false⟩ } }
    core := { bareCore with
      tla := { Tla.initial with table := [pastPage, nextPage] }
      csc := ⟨{ Search.initial with coverage := .near, phase := .placed ⟨2, 0⟩, attempt := 1 }, Search.initial⟩
      notices := [.searchLost .A ⟨2, 0⟩ 2147441648] }
    pending := [.wakeTime] }

/-- The record of the next attempt, 2147473648 tu ahead of now. -/
def farSearch : Reservation :=
  { newRecord .A .search 2147473648 3200 320 0 0 with handle := ⟨2, 1⟩, start := 2147473648, state := .granted }

def searchingAfter : State :=
  { searchingState with
    core := { searchingState.core with
      tla := { searchingState.core.tla with
        table := [farSearch, pastPage, nextPage]
        generations := searchingState.core.tla.generations.set 2 1 }
      csc := ⟨{ Search.initial with coverage := .near, phase := .placed ⟨2, 1⟩, attempt := 2 }, Search.initial⟩
      ssv := ⟨⟨.attached, some 64000⟩, ⟨.detached, none⟩⟩
      pif := ⟨⟨[⟨.searchReport, .none, 0, 0, 65535⟩, ⟨.searchWindow, .reservation .A ⟨2, 1⟩, 2147473648, 2, 2⟩], 0⟩,
        ⟨[], 0⟩, ⟨[], 0⟩⟩
      notices := [] }
    pending := [] }

theorem step_searchingState : step searchingState = .next searchingAfter := rfl

/-- Refutes O7: an attempt counted from a far reference time is placed half of the clock's range away. -/
theorem not_stepKeepsTableOrder : ¬ Obligations.StepKeepsTableOrder := by
  unfold Obligations.StepKeepsTableOrder
  intro h
  have hlaw := h searchingState searchingAfter (by decide) (by decide) (by decide) (by decide) step_searchingState
  revert hlaw
  decide

end Sys2Proof.Machine

/-! PROOFS. What a reaction of the blocks is made of: the changes of one record at a time, and the sound state of the
reservation table and of the work of the RF Context Controller, which each of them keeps (R11, R12, R31, R33, R131, R132). The
laws of the blocks are kept by every reaction because they are kept by each of these changes. -/

namespace Sys2Proof.Machine

/-! ### What a subscription holds -/

/-- X owns a reservation, a session, a queued text, a bridge transaction, a context value or a search. -/
def Core.owns (c : Core) (x : Sub) : Prop :=
  (∃ r ∈ c.tla.table, r.owner = x) ∨ (∃ n, some n ∈ c.smg.sessions ∧ n.owner = x) ∨ c.queue x ≠ []
    ∨ (c.bridge x).queue ≠ [] ∨ (∃ m ∈ c.rcc.shadow, m.own.get x ≠ none)
    ∨ (c.csc.get x).coverage ≠ .noCell ∨ (c.csc.get x).phase ≠ .idle

/-- X is ATTACHED, or owns something already. -/
def Core.alive (c : Core) (x : Sub) : Prop := c.attached x = true ∨ c.owns x

/-- Nothing holds on to the record that the handle names: no preparation, no view, and not the window lines. -/
def Core.Free (c : Core) (h : Handle) : Prop :=
  (∀ p ∈ c.rcc.prep, p.handle ≠ h) ∧ (∀ v ∈ c.rcc.view, v.handle ≠ h)
    ∧ ((c.tla.rxEn || c.tla.txEn) = true → ∃ r ∈ c.tla.table, r.handle ≠ h ∧ r.drives c.tla = true)

/-- The law of the sessions for the credit maximum in force (R41 to R43, R49). -/
def Core.SessionsLaw (e : Env) (c : Core) : Prop :=
  c.smg.sessions.length = 8 ∧ c.smg.generations.length = 8
    ∧ (∀ i < 8, ∀ n ∈ (c.smg.sessions[i]?).join, n.handle.index.toNat = i)
    ∧ ((c.smg.sessions.filterMap id).filter fun n => n.body.voice?.isSome).length ≤ 1
    ∧ queueLaw c .A ∧ queueLaw c .B
    ∧ (∀ o ∈ c.smg.sessions, ∀ n ∈ o, ∀ v ∈ n.body.voice?, ∀ tr ∈ v.traffic, tr.credit ≤ e.policy.creditMax)
    ∧ ∀ r ∈ c.tla.table, ∀ h ∈ r.session, c.ownsSession r.owner h = true

/-- The table is sound, and what the RF Context Controller and the window lines show are windows of it. -/
structure Core.Works (c : Core) : Prop where
  table : c.TableLaw
  prep : ∀ p ∈ c.rcc.prep, ∃ r ∈ c.tla.table,
    r.handle = p.handle ∧ r.owner = p.owner ∧ r.state = .preparing ∧ r.prepared = none
  view : ∀ v ∈ c.rcc.view, ∃ r ∈ c.tla.table,
    r.handle = v.handle ∧ r.owner = v.owner ∧ (r.state = .preparing ∨ r.state = .active)
  granted : ∀ r ∈ c.tla.table, r.state = .granted → r.prepared = none
  lines : c.LinesLaw

/-- A change of a record's fields that touches neither what it is nor whose it is, and stages writes to present devices
alone. -/
structure Touches (e : Env) (f : Reservation → Reservation) : Prop where
  handle : ∀ r, (f r).handle = r.handle
  owner : ∀ r, (f r).owner = r.owner
  cls : ∀ r, (f r).cls = r.cls
  band : ∀ r, (f r).band = r.band
  session : ∀ r, (f r).session = r.session
  state : ∀ r, (f r).state = r.state
  prepared : ∀ r, (f r).prepared = r.prepared
  staged : ∀ r, ∀ w ∈ (f r).staged, w ∈ r.staged ∨ e.has w.device = true

/-- The law of the live table, but for what it says of the load. -/
structure Core.Live (e : Env) (c : Core) : Prop where
  live : ∀ m ∈ c.rcc.shadow, m.live.isSome = true → c.isOn m.entry.device = true
  bus : ∀ t ∈ c.rcc.bus, t.void = true ∨ t.deviceLeft = true ∨ c.isOn t.device = true
  replay : ∀ p ∈ c.rcc.replay, c.isOn p.device = true
  series : ∀ x, seriesLaw c x
  prep : ∀ p ∈ c.rcc.prep, p.Law e c
  staged : ∀ r ∈ c.tla.table, stagedPresent e r.staged

/-- Which laws are claimed of the state a reaction starts from: a change has to respect what it rests on of these alone.
A calm reaction leaves who owns which session, and the search records. -/
structure Claims where
  table : Prop
  works : Prop
  sessions : Prop
  live : Prop
  calm : Prop
  table_of_works : works → table
  works_of_live : live → works

/-- The claimed laws hold. -/
structure Sound (g : Claims) (e : Env) (c : Core) : Prop where
  table : g.table → c.TableLaw
  works : g.works → c.Works
  sessions : g.sessions → c.SessionsLaw e
  live : g.live → c.Live e

/-- One change of one record of the blocks, which respects the claimed laws. -/
inductive Change (g : Claims) (e : Env) : Core → Core → Prop
  -- the Port Interface and the Subscription Supervisor
  | post {c : Core} (port : Port) (ev : Event) : Change g e c (post e port ev c)
  | empty {c : Core} (port : Port) : Change g e c (emptyQueue port c)
  | read {c : Core} (port : Port) : Change g e c (readQueue port c)
  -- notices and triggers
  | notices {c : Core} (ns : List Notice) : Change g e c { c with notices := ns }
  | evaluate {c : Core} (b : Bool) : Change g e c { c with evaluate := b }
  -- the Measurement Unit, the Handover Evaluator, the Coverage Search Controller
  | measure {c : Core} (m : Msu) : (c.CellLaw → ({ c with msu := m } : Core).CellLaw) → Change g e c { c with msu := m }
  | handover {c : Core} (h : Pair Hoe) : Change g e c { c with hoe := h }
  | search {c : Core} (x : Sub) (s : Search) :
    (g.works → c.alive x ∨ (s.coverage = .noCell ∧ s.phase = .idle)) → ¬ g.calm → Change g e c (c.setSearch x s)
  -- the Session Manager
  | sessions {c : Core} (m : Smg) : (c.SessionsLaw e → ({ c with smg := m } : Core).SessionsLaw e)
    → (g.works → ∀ n, some n ∈ m.sessions → c.alive n.owner) → (g.works → ∀ x, m.queues.get x ≠ [] → c.alive x)
    → (g.calm → ∀ x h, ({ c with smg := m } : Core).ownsSession x h = c.ownsSession x h) → Change g e c { c with smg := m }
  -- the Timeline Arbiter
  | drop {c : Core} (h : Handle) : (g.works → c.Free h) → Change g e c (c.dropRecord h)
  | put {c : Core} (r : Reservation) : (g.table → ∃ q ∈ c.tla.table, q.handle = r.handle ∧ q.owner = r.owner
      ∧ ∀ w ∈ r.staged, w ∈ q.staged)
    → (g.sessions → ∀ h ∈ r.session, c.ownsSession r.owner h = true)
    → (g.works → c.Free r.handle ∧ (r.state = .seeking ∨ (r.state = .granted ∧ r.prepared = none)))
    → Change g e c (c.putRecord r)
  | create {c : Core} (r : Reservation) : (g.table → roomFor c r.owner = true) → r.handle = newHandle c.tla
    → (g.works → c.alive r.owner) → (g.sessions → ∀ h ∈ r.session, c.ownsSession r.owner h = true) → r.staged = []
    → r.state = .granted → r.prepared = none → Change g e c ((c.takeHandle r.handle).putRecord r)
  | touch {c : Core} (h : Handle) (f : Reservation → Reservation) : Touches e f → Change g e c (c.editReservation h f)
  | prepares {c : Core} (h : Handle) : (g.works → ∀ r ∈ c.tla.table, r.handle = h → r.state = .granted)
    → Change g e c (c.editReservation h fun r => { r with state := .preparing })
  | reports {c : Core} (h : Handle) (b : Bool) : (g.works → (∀ r ∈ c.tla.table, r.handle = h → r.state ≠ .granted)
      ∧ ∀ p ∈ c.rcc.prep, p.handle ≠ h)
    → Change g e c (c.editReservation h fun r => { r with prepared := some b, staged := [] })
  | activates {c : Core} (h : Handle) : (g.works → ∀ p ∈ c.rcc.prep, p.handle ≠ h)
    → Change g e c (c.editReservation h fun r => { r with state := .active, lost := 0, waiting := false })
  | seeks {c : Core} (h : Handle) : (g.works → c.Free h)
    → Change g e c (c.editReservation h fun r => { r with state := .seeking })
  | raiseLines {c : Core} (r : Reservation) : (g.works → ∃ q ∈ c.tla.table, q.state = .active ∧ q.band = r.band
      ∧ q.owner = r.owner ∧ q.cls = r.cls) → Change g e c (raiseLines r c)
  | lowerLines {c : Core} : Change g e c (lowerLines c)
  -- the RF Context Controller
  | store {c : Core} (o : Option Sub) (d : Device) (reg : Byte) (v : Half) : (g.works → ∀ x ∈ o, c.alive x)
    → Change g e c (storeValue e o d reg v c)
  | live {c : Core} (d : Device) (reg : Byte) (v : Option Half) : (g.live → v = none ∨ c.isOn d = true)
    → Change g e c (setLive e d reg v c)
  | examined {c : Core} (x : Sub) : Change g e c (examine e x c)
  | completed {c : Core} (x : Sub) (outcome : Nat) (read : Option Half) :
    Change g e c (completeAndExamine e x outcome read c)
  | head {c : Core} (x : Sub) (t : Txn) : (g.live → t.state = .restarting → c.isOn t.device = true)
    → Change g e c (c.setHead x t)
  | join {c : Core} (x : Sub) (t : Txn) (ticket : Byte) : (g.works → c.alive x) → (c.bridge x).queue.length < 4
    → t.state ≠ .restarting → Change g e c (c.setBridge x ⟨(c.bridge x).queue ++ [t], ticket⟩)
  | powered {c : Core} (d : Device) : Change g e c { c with
      rcc := { c.rcc with bridges := ⟨c.rcc.bridges.a.powered d, c.rcc.bridges.b.powered d⟩ } }
  | transfer {c : Core} (t : Transfer) : (g.live → c.isOn t.device = true) → (g.works → ∀ x ∈ t.owner, c.alive x)
    → Change g e c { c with rcc := { c.rcc with bus := some t } }
  | idle {c : Core} : Change g e c { c with rcc := { c.rcc with bus := none } }
  | replay {c : Core} (l : List Replay) : (g.live → ∀ p ∈ l, p ∈ c.rcc.replay ∨ c.isOn p.device = true)
    → Change g e c { c with rcc := { c.rcc with replay := l } }
  | marks {c : Core} (a : Quad Answering) (s : Bool) (x : Sub) :
    Change g e c { c with rcc := { c.rcc with answering := a, poweredSince := s, lastServed := x } }
  | view {c : Core} (v : Option RccView) : (g.works → ∀ w ∈ v, ∃ r ∈ c.tla.table,
      r.handle = w.handle ∧ r.owner = w.owner ∧ (r.state = .preparing ∨ r.state = .active))
    → Change g e c { c with rcc := { c.rcc with view := v } }
  | begins {c : Core} (p : Prep) (r : Reservation) : r ∈ c.tla.table → r.handle = p.handle → r.owner = p.owner
    → r.state = .preparing → (g.works → r.prepared = none) → p.staged = r.staged
    → (∀ w ∈ p.staged, e.has w.device = true → w.device ∈ p.awaited) → p.step = .awaitingPower
    → Change g e c { c with rcc := { c.rcc with prep := some p, bus := c.rcc.bus.map Transfer.drop } }
  | proceeds {c : Core} (p q : Prep) : c.rcc.prep = some p → q.handle = p.handle → q.owner = p.owner → q.staged = p.staged
    → q.awaited = p.awaited → (q.step ≠ .awaitingPower → p.step ≠ .awaitingPower ∨ ∀ d ∈ q.awaited, c.isOn d = true)
    → Change g e c (c.setPrep q)
  | ends {c : Core} : Change g e c { c with rcc := { c.rcc with prep := none } }
  | closes {c : Core} (h : Handle) : Change g e c { c with rcc := c.rcc.closePrep h }
  | tearsDown {c : Core} (x : Sub) : Change g e c (rccTeardown x c)
  -- the Power and Sleep Controller
  | sleep {c : Core} (p : Psc) : p.power = c.psc.power → Change g e c { c with psc := p }
  | power {c : Core} (d : Device) (p : Power) : c.isOn d = false → Change g e c (c.setPower d p)
  | leaves {c : Core} (d : Device) (p : Power) : (g.live → (∀ q ∈ c.rcc.prep, q.step ≠ .awaitingPower → d ∉ q.awaited)
      ∧ ∀ x, ∀ t ∈ (c.bridge x).queue.head?, t.device = d → t.state ≠ .restarting)
    → Change g e c (leavesOn d (c.setPower d p))

/-! ### The sound state -/

theorem Core.Works.congr {c d : Core} (h : c.Works) (htla : d.tla = c.tla) (hp : d.rcc.prep = c.rcc.prep)
    (hv : d.rcc.view = c.rcc.view) : d.Works := by
  obtain ⟨h1, h2, h3, h4, h5⟩ := h
  refine ⟨?_, ?_, ?_, ?_, ?_⟩
  · simpa only [Core.TableLaw, Core.recordsOwned, htla] using h1
  · simpa only [htla, hp] using h2
  · simpa only [htla, hv] using h3
  · simpa only [htla] using h4
  · simpa only [Core.LinesLaw, htla] using h5

/-! ### Handles and owners of the table (R11, R12) -/

/-- What the law of the table looks at. -/
def Reservation.key (r : Reservation) : Handle × Sub := (r.handle, r.owner)

/-- The law of the table, of the handles and owners alone. -/
def keysLaw (ks : List (Handle × Sub)) : Prop :=
  ks.length ≤ 48 ∧ (∀ x, (ks.filter fun k => decide (k.2 = x)).length ≤ 32) ∧ (∀ k ∈ ks, k.1.index.toNat < 48)
    ∧ (ks.map fun k => k.1.index).Nodup

theorem tableLaw_iff_keys (c : Core) :
    c.TableLaw ↔ keysLaw (c.tla.table.map Reservation.key) ∧ c.tla.generations.length = 48 := by
  have howned : ∀ x, ((c.tla.table.map Reservation.key).filter fun k => decide (k.2 = x)).length
      = (c.recordsOwned x).length := fun x => by
    rw [List.filter_map, List.length_map]
    rfl
  have hnodup : ((c.tla.table.map Reservation.key).map fun k => k.1.index).Nodup
      ↔ c.tla.table.Pairwise fun r q => r.handle.index ≠ q.handle.index := by
    rw [List.map_map, List.Nodup, List.pairwise_map]
    rfl
  simp only [keysLaw, hnodup, List.length_map, List.forall_mem_map, howned]
  constructor
  · rintro ⟨h1, ha, hb, h3, h4, h5⟩
    exact ⟨⟨h1, fun x => by cases x <;> assumption, h3, h4⟩, h5⟩
  · rintro ⟨⟨h1, h2, h3, h4⟩, h5⟩
    exact ⟨h1, h2 .A, h2 .B, h3, h4, h5⟩

theorem keysLaw_of_subperm {l ks : List (Handle × Sub)} (hs : l.Subperm ks) (h : keysLaw ks) : keysLaw l := by
  obtain ⟨h1, h2, h3, h4⟩ := h
  refine ⟨hs.length_le.trans h1, fun x => ((hs.filter _).length_le).trans (h2 x), fun k hk => h3 k (hs.subset hk), ?_⟩
  obtain ⟨m, hp, hm⟩ := hs
  exact (hp.map _).nodup_iff.mp ((hm.map _).nodup h4)

theorem tableLaw_of_subperm {c d : Core} (hs : (d.tla.table.map Reservation.key).Subperm (c.tla.table.map Reservation.key))
    (hg : d.tla.generations = c.tla.generations) (h : c.TableLaw) : d.TableLaw := by
  rw [tableLaw_iff_keys] at h ⊢
  exact ⟨keysLaw_of_subperm hs h.1, hg ▸ h.2⟩

theorem insertByStart_perm (r : Reservation) (l : List Reservation) : (insertByStart r l).Perm (r :: l) := by
  induction l with
  | nil => exact List.Perm.refl _
  | cons q l ih =>
    unfold insertByStart
    split
    · exact List.Perm.refl _
    · exact (ih.cons q).trans (List.Perm.swap r q l)

/-- A record put back in the place of one with its handle and owner leaves the handles and owners. -/
theorem putRecord_keys {c : Core} {r q : Reservation} (hq : q ∈ c.tla.table) (hh : q.handle = r.handle)
    (ho : q.owner = r.owner) :
    ((c.putRecord r).tla.table.map Reservation.key).Subperm (c.tla.table.map Reservation.key) := by
  have hkey : r.key = q.key := by rw [Reservation.key, Reservation.key, hh, ho]
  have hsplit := (List.filter_append_perm (fun p : Reservation => decide (p.handle = r.handle)) c.tla.table).map
    Reservation.key
  have hmem : [q].Sublist (c.tla.table.filter fun p : Reservation => decide (p.handle = r.handle)) :=
    List.singleton_sublist.mpr (List.mem_filter.mpr ⟨hq, by simpa using hh⟩)
  have hnot : (c.tla.table.filter fun p : Reservation => !decide (p.handle = r.handle))
      = c.tla.table.filter fun p => decide (p.handle ≠ r.handle) := by simp
  rw [hnot] at hsplit
  refine (((insertByStart_perm r _).map Reservation.key).subperm).trans ?_
  rw [List.map_cons, hkey, ← List.map_cons]
  refine List.Subperm.trans ?_ hsplit.subperm
  exact ((hmem.append (List.Sublist.refl _)).map Reservation.key).subperm

theorem dropRecord_keys (c : Core) (h : Handle) :
    ((c.dropRecord h).tla.table.map Reservation.key).Subperm (c.tla.table.map Reservation.key) :=
  (List.filter_sublist.map _).subperm

theorem editReservation_keys {f : Reservation → Reservation} (hh : ∀ r, (f r).handle = r.handle)
    (ho : ∀ r, (f r).owner = r.owner) (c : Core) (h : Handle) :
    (c.editReservation h f).tla.table.map Reservation.key = c.tla.table.map Reservation.key := by
  simp only [Core.editReservation, List.map_map]
  refine List.map_congr_left fun r _ => ?_
  simp only [Function.comp_apply, Reservation.key]
  split
  · rw [hh, ho]
  · rfl

theorem handle_inj {c : Core} (h : c.TableLaw) {r q : Reservation} (hr : r ∈ c.tla.table) (hq : q ∈ c.tla.table)
    (hh : r.handle = q.handle) : r = q := by
  obtain ⟨-, -, -, -, hp, -⟩ := h
  by_contra hne
  have hsymm : Std.Symm fun r q : Reservation => r.handle.index ≠ q.handle.index := ⟨fun _ _ h => h.symm⟩
  exact hp.forall hr hq hne (congrArg Handle.index hh)

/-- A new record has room and an index of its own. -/
theorem createRecord_keys {c : Core} {r : Reservation} (h : c.TableLaw) (room : roomFor c r.owner = true)
    (hh : r.handle = newHandle c.tla) :
    c.tla.table.filter (fun q => decide (q.handle ≠ r.handle)) = c.tla.table
      ∧ keysLaw ((r :: c.tla.table).map Reservation.key) := by
  obtain ⟨hlen, howner⟩ : c.tla.table.length < 48 ∧ (c.recordsOwned r.owner).length < 32 := by
    rw [roomFor, Bool.and_eq_true] at room
    exact ⟨of_decide_eq_true room.1, of_decide_eq_true room.2⟩
  have hindex : r.handle.index.toNat = freeIndex c.tla.table := by rw [hh, newHandle_index hlen]
  obtain ⟨hlt, hfree⟩ := freeIndex_spec hlen
  have hfresh : ∀ q ∈ c.tla.table, q.handle.index ≠ r.handle.index := fun q hq hqr =>
    hfree q hq (by rw [hqr, hindex])
  refine ⟨List.filter_eq_self.mpr fun q hq => ?_, ?_⟩
  · simpa using fun hqr => hfresh q hq (congrArg Handle.index hqr)
  · obtain ⟨⟨h1, h2, h3, h4⟩, -⟩ := (tableLaw_iff_keys c).mp h
    refine ⟨by simpa using hlen, fun x => ?_, ?_, ?_⟩
    · rw [List.map_cons, List.filter_cons]
      split
      · rename_i hx
        have hx' : r.owner = x := of_decide_eq_true hx
        have : ((c.tla.table.map Reservation.key).filter fun k => decide (k.2 = x)).length
            = (c.recordsOwned r.owner).length := by
          rw [List.filter_map, List.length_map, ← hx']
          rfl
        simp only [List.length_cons, this]
        omega
      · exact h2 x
    · rw [List.map_cons, List.forall_mem_cons]
      exact ⟨by simpa [Reservation.key, hindex] using hlt, h3⟩
    · rw [List.map_cons, List.map_cons, List.nodup_cons]
      refine ⟨fun hmem => ?_, h4⟩
      obtain ⟨k, hk, hki⟩ := List.mem_map.mp hmem
      obtain ⟨q, hq, rfl⟩ := List.mem_map.mp hk
      exact hfresh q hq hki

/-! ### Changes of the table keep the sound state -/

section
variable {c : Core} {h : Handle} {f : Reservation → Reservation}

theorem mem_editReservation {q : Reservation} : q ∈ (c.editReservation h f).tla.table ↔
    ∃ r ∈ c.tla.table, (if r.handle = h then f r else r) = q := by
  simp only [Core.editReservation, List.mem_map]

/-- A record with another handle stands. -/
theorem mem_editReservation_other {r : Reservation} (hr : r ∈ c.tla.table) (hh : r.handle ≠ h) :
    r ∈ (c.editReservation h f).tla.table := mem_editReservation.mpr ⟨r, hr, if_neg hh⟩

theorem mem_editReservation_same {r : Reservation} (hr : r ∈ c.tla.table) (hh : r.handle = h) :
    f r ∈ (c.editReservation h f).tla.table := mem_editReservation.mpr ⟨r, hr, if_pos hh⟩

/-- An edit keeps the sound state when what a preparation, the view and the lines need of the record stands. -/
theorem works_edit (w : c.Works) (hh : ∀ r, (f r).handle = r.handle) (ho : ∀ r, (f r).owner = r.owner)
    (hp : ∀ p ∈ c.rcc.prep, p.handle = h → ∀ r ∈ c.tla.table, r.handle = h → r.state = .preparing → r.prepared = none →
      (f r).state = .preparing ∧ (f r).prepared = none)
    (hv : ∀ v ∈ c.rcc.view, v.handle = h → ∀ r ∈ c.tla.table, r.handle = h → r.state = .preparing ∨ r.state = .active →
      (f r).state = .preparing ∨ (f r).state = .active)
    (hg : ∀ r ∈ c.tla.table, r.handle = h → (f r).state = .granted → (f r).prepared = none)
    (hl : (c.tla.rxEn || c.tla.txEn) = true → ∃ r ∈ c.tla.table, r.drives c.tla = true
      ∧ (r.handle = h → (f r).drives c.tla = true)) : (c.editReservation h f).Works := by
  refine ⟨tableLaw_of_subperm (c := c) ?_ rfl w.table, fun p hpp => ?_, fun v hvv => ?_, fun q hq => ?_, fun high => ?_⟩
  · rw [editReservation_keys hh ho]
  · obtain ⟨r, hr, hrh, hro, hrs, hrp⟩ := w.prep p hpp
    by_cases hrh' : r.handle = h
    · obtain ⟨hs, hn⟩ := hp p hpp (hrh ▸ hrh') r hr hrh' hrs hrp
      exact ⟨f r, mem_editReservation_same hr hrh', (hh r).trans hrh, (ho r).trans hro, hs, hn⟩
    · exact ⟨r, mem_editReservation_other hr hrh', hrh, hro, hrs, hrp⟩
  · obtain ⟨r, hr, hrh, hro, hrs⟩ := w.view v hvv
    by_cases hrh' : r.handle = h
    · exact ⟨f r, mem_editReservation_same hr hrh', (hh r).trans hrh, (ho r).trans hro, hv v hvv (hrh ▸ hrh') r hr hrh' hrs⟩
    · exact ⟨r, mem_editReservation_other hr hrh', hrh, hro, hrs⟩
  · obtain ⟨r, hr, rfl⟩ := mem_editReservation.mp hq
    by_cases hrh : r.handle = h
    · rw [if_pos hrh]
      exact hg r hr hrh
    · rw [if_neg hrh]
      exact w.granted r hr
  · obtain ⟨r, hr, hd, hf⟩ := hl high
    by_cases hrh : r.handle = h
    · exact ⟨f r, mem_editReservation_same hr hrh, hf hrh⟩
    · exact ⟨r, mem_editReservation_other hr hrh, hd⟩

theorem mem_dropRecord {q : Reservation} : q ∈ (c.dropRecord h).tla.table ↔ q ∈ c.tla.table ∧ q.handle ≠ h := by
  simp only [Core.dropRecord, Core.setTable_table, List.mem_filter, decide_eq_true_eq]

theorem works_drop (w : c.Works) (free : c.Free h) : (c.dropRecord h).Works := by
  obtain ⟨hp, hv, hl⟩ := free
  refine ⟨tableLaw_of_subperm (dropRecord_keys c h) rfl w.table, fun p hpp => ?_, fun v hvv => ?_, fun q hq => ?_,
    fun high => ?_⟩
  · obtain ⟨r, hr, hrh, hrest⟩ := w.prep p hpp
    exact ⟨r, mem_dropRecord.mpr ⟨hr, hrh ▸ hp p hpp⟩, hrh, hrest⟩
  · obtain ⟨r, hr, hrh, hrest⟩ := w.view v hvv
    exact ⟨r, mem_dropRecord.mpr ⟨hr, hrh ▸ hv v hvv⟩, hrh, hrest⟩
  · exact w.granted q (mem_dropRecord.mp hq).1
  · obtain ⟨r, hr, hrh, hd⟩ := hl high
    exact ⟨r, mem_dropRecord.mpr ⟨hr, hrh⟩, hd⟩

theorem mem_putRecord {r u : Reservation} :
    u ∈ (c.putRecord r).tla.table ↔ u = r ∨ (u ∈ c.tla.table ∧ u.handle ≠ r.handle) := by
  simp only [Core.putRecord, Core.setTable_table, mem_insertByStart, List.mem_filter, decide_eq_true_eq]

theorem works_put {r q : Reservation} (w : c.Works) (hq : q ∈ c.tla.table) (hh : q.handle = r.handle)
    (ho : q.owner = r.owner) (free : c.Free r.handle)
    (hs : r.state = .seeking ∨ (r.state = .granted ∧ r.prepared = none)) : (c.putRecord r).Works := by
  obtain ⟨hp, hv, hl⟩ := free
  refine ⟨tableLaw_of_subperm (putRecord_keys hq hh ho) rfl w.table, fun p hpp => ?_, fun v hvv => ?_, fun u hu => ?_,
    fun high => ?_⟩
  · obtain ⟨u, hu, huh, hrest⟩ := w.prep p hpp
    exact ⟨u, mem_putRecord.mpr (.inr ⟨hu, huh ▸ hp p hpp⟩), huh, hrest⟩
  · obtain ⟨u, hu, huh, hrest⟩ := w.view v hvv
    exact ⟨u, mem_putRecord.mpr (.inr ⟨hu, huh ▸ hv v hvv⟩), huh, hrest⟩
  · rcases mem_putRecord.mp hu with rfl | ⟨hu, -⟩
    · intro hg
      rcases hs with hs | ⟨-, hs⟩
      · rw [hs] at hg
        cases hg
      · exact hs
    · exact w.granted u hu
  · obtain ⟨u, hu, huh, hd⟩ := hl high
    exact ⟨u, mem_putRecord.mpr (.inr ⟨hu, huh⟩), hd⟩

theorem tableLaw_create {r : Reservation} (w : c.TableLaw) (room : roomFor c r.owner = true)
    (hh : r.handle = newHandle c.tla) : ((c.takeHandle r.handle).putRecord r).TableLaw := by
  obtain ⟨hfilter, hkeys⟩ := createRecord_keys w room hh
  have htable : ((c.takeHandle r.handle).putRecord r).tla.table = insertByStart r c.tla.table := by
    simp only [Core.putRecord, Core.setTable_table, Core.takeHandle, hfilter]
  refine (tableLaw_iff_keys _).mpr ⟨?_, (List.length_set).trans ((tableLaw_iff_keys c).mp w).2⟩
  rw [htable]
  exact keysLaw_of_subperm ((insertByStart_perm r _).map _).subperm hkeys

theorem works_create {r : Reservation} (w : c.Works) (room : roomFor c r.owner = true) (hh : r.handle = newHandle c.tla)
    (hs : r.state = .granted) (hn : r.prepared = none) : ((c.takeHandle r.handle).putRecord r).Works := by
  have hfilter := (createRecord_keys w.table room hh).1
  have htable : ((c.takeHandle r.handle).putRecord r).tla.table = insertByStart r c.tla.table := by
    simp only [Core.putRecord, Core.setTable_table, Core.takeHandle, hfilter]
  have hmem : ∀ u, u ∈ c.tla.table → u ∈ ((c.takeHandle r.handle).putRecord r).tla.table := fun u hu => by
    rw [htable]
    exact mem_insertByStart.mpr (.inr hu)
  refine ⟨tableLaw_create w.table room hh, fun p hpp => ?_, fun v hvv => ?_, fun u hu => ?_, fun high => ?_⟩
  · obtain ⟨u, hu, hrest⟩ := w.prep p hpp
    exact ⟨u, hmem u hu, hrest⟩
  · obtain ⟨u, hu, hrest⟩ := w.view v hvv
    exact ⟨u, hmem u hu, hrest⟩
  · rw [htable] at hu
    rcases mem_insertByStart.mp hu with rfl | hu
    · exact fun _ => hn
    · exact w.granted u hu
  · obtain ⟨u, hu, hd⟩ := w.lines high
    exact ⟨u, hmem u hu, hd⟩

end

theorem drives_congr {t : Tla} {r q : Reservation} (hs : q.state = r.state) (hb : q.band = r.band) (ho : q.owner = r.owner)
    (hc : q.cls = r.cls) : q.drives t = r.drives t := by
  simp only [Reservation.drives, hs, hb, ho, hc]

theorem Touches.drives {e : Env} {f : Reservation → Reservation} (hf : Touches e f) (t : Tla) (r : Reservation) :
    (f r).drives t = r.drives t := drives_congr (hf.state r) (hf.band r) (hf.owner r) (hf.cls r)

/-- A record that is not ACTIVE does not drive the lines. -/
theorem state_of_drives {t : Tla} {r : Reservation} (h : r.drives t = true) : r.state = .active := (drives_iff.mp h).1

/-! ### What the other changes leave -/

/-- Two cores that differ in nothing the sound state looks at. -/
def SameWorks (c d : Core) : Prop := d.tla = c.tla ∧ d.rcc.prep = c.rcc.prep ∧ d.rcc.view = c.rcc.view

theorem SameWorks.works {c d : Core} (h : SameWorks c d) (w : c.Works) : d.Works := w.congr h.1 h.2.1 h.2.2

theorem sameWorks_of_rcc {c d : Core} (ht : d.tla = c.tla) (hr : d.rcc = c.rcc) : SameWorks c d :=
  ⟨ht, by rw [hr], by rw [hr]⟩

theorem emptyQueue_frame (port : Port) (c : Core) : ∃ q s b, emptyQueue port c = { c with pif := q, ssv := s, evaluate := b } := by
  unfold emptyQueue
  simp only
  split
  · exact ⟨_, _, _, rfl⟩
  · cases port <;> exact ⟨_, _, _, rfl⟩

theorem readQueue_frame (port : Port) (c : Core) : ∃ q s b, readQueue port c = { c with pif := q, ssv := s, evaluate := b } := by
  unfold readQueue
  simp only
  split
  · cases port <;> exact ⟨_, _, _, rfl⟩
  · exact ⟨_, _, _, rfl⟩

theorem setLive_frame (e : Env) (d : Device) (reg : Byte) (v : Option Half) (c : Core) :
    setLive e d reg v c = c ∨ ∃ m, setLive e d reg v c = c.setShadow m := by
  unfold setLive
  split
  · exact .inl rfl
  · exact .inr ⟨_, rfl⟩

theorem storeValue_same (e : Env) (o : Option Sub) (d : Device) (reg : Byte) (v : Half) (c : Core) :
    SameWorks c (storeValue e o d reg v c) := by
  rcases storeValue_frame e o d reg v c with h | ⟨m, h⟩ <;> rw [h]
  · exact ⟨rfl, rfl, rfl⟩
  · exact ⟨rfl, rfl, rfl⟩

theorem setLive_same (e : Env) (d : Device) (reg : Byte) (v : Option Half) (c : Core) : SameWorks c (setLive e d reg v c) := by
  rcases setLive_frame e d reg v c with h | ⟨m, h⟩ <;> rw [h]
  · exact ⟨rfl, rfl, rfl⟩
  · exact ⟨rfl, rfl, rfl⟩

theorem examine_same (e : Env) (x : Sub) (c : Core) : SameWorks c (examine e x c) := by
  obtain ⟨ht, -, -, -, -, -, hv, hp, -⟩ := examine_frame e x c
  exact ⟨ht, hp, hv⟩

theorem completeHead_same (e : Env) (x : Sub) (outcome : Nat) (read : Option Half) (c : Core) :
    SameWorks c (completeHead e x outcome read c) := by
  obtain ⟨ht, -, -, -, -, -, hv, hp, -⟩ := completeHead_frame e x outcome read c
  exact ⟨ht, hp, hv⟩

theorem setHead_same (x : Sub) (t : Txn) (c : Core) : SameWorks c (c.setHead x t) := by
  obtain ⟨ht, -, -, -, -, -, hv, hp, -⟩ := setHead_frame c x t
  exact ⟨ht, hp, hv⟩

theorem rccTeardown_frame (x : Sub) (c : Core) : ∃ b, rccTeardown x c = { c with
    rcc := { c.rcc with
      shadow := c.rcc.shadow.map fun s => { s with own := s.own.set x none }
      bus := c.rcc.bus.map (Transfer.orphan x)
      bridges := c.rcc.bridges.set x { c.bridge x with queue := [] } }
    evaluate := b } := by
  unfold rccTeardown
  simp only
  split
  · rename_i h
    have hb : c.rcc.bridges.set x { c.bridge x with queue := [] } = c.rcc.bridges := by
      have hq : (c.rcc.bridges.get x).queue = [] := List.isEmpty_iff.mp h
      have : ({ c.bridge x with queue := [] } : Bridge) = c.rcc.bridges.get x := by
        rw [← hq]
        rfl
      rw [this]
      cases x <;> rfl
    exact ⟨c.evaluate, by rw [hb]⟩
  · exact ⟨true, rfl⟩

theorem closePrep_view (r : Rcc) (h : Handle) : (r.closePrep h).view = r.view := by
  unfold Rcc.closePrep
  split
  · rfl
  · split <;> rfl

theorem closePrep_prep (r : Rcc) (h : Handle) : ∀ p ∈ (r.closePrep h).prep, p ∈ r.prep ∧ p.handle ≠ h := by
  unfold Rcc.closePrep
  intro p hp
  split at hp
  · rename_i hn
    rw [hn] at hp
    cases hp
  · rename_i q hq
    split at hp
    · cases hp
    · rename_i hne
      refine ⟨hp, ?_⟩
      rw [hq] at hp
      cases hp
      exact hne

/-- Every change keeps the sound state. -/
theorem Change.works {g : Claims} {e : Env} {c d : Core} (h : Change g e c d) (hg : g.works) (w : c.Works) : d.Works := by
  cases h with
  | post port ev => exact w.congr (by simp) (by simp) (by simp)
  | empty port =>
    obtain ⟨q, s, b, heq⟩ := emptyQueue_frame port c
    rw [heq]
    exact w.congr rfl rfl rfl
  | read port =>
    obtain ⟨q, s, b, heq⟩ := readQueue_frame port c
    rw [heq]
    exact w.congr rfl rfl rfl
  | notices ns => exact w.congr rfl rfl rfl
  | evaluate b => exact w.congr rfl rfl rfl
  | measure m hm => exact w.congr rfl rfl rfl
  | handover h => exact w.congr rfl rfl rfl
  | search x s hs _ => exact w.congr rfl rfl rfl
  | sessions m h1 h2 h3 _ => exact w.congr rfl rfl rfl
  | drop h free => exact works_drop w (free hg)
  | put r hq hsess hs =>
    obtain ⟨q, hq, hh, ho, -⟩ := hq (g.table_of_works hg)
    exact works_put w hq hh ho (hs hg).1 (hs hg).2
  | create r room hh alive hsess hst hs hn => exact works_create w (room (g.table_of_works hg)) hh hs hn
  | touch h f hf =>
    refine works_edit w hf.handle hf.owner (fun _ _ _ r _ _ hs hn => ⟨(hf.state r).trans hs, (hf.prepared r).trans hn⟩)
      (fun _ _ _ r _ _ hs => by rwa [hf.state r]) (fun r hr _ hg => ?_) (fun high => ?_)
    · exact (hf.prepared r).trans (w.granted r hr ((hf.state r).symm.trans hg))
    · obtain ⟨r, hr, hd⟩ := w.lines high
      exact ⟨r, hr, hd, fun _ => (hf.drives _ r).trans hd⟩
  | prepares h hgranted =>
    refine works_edit w (fun _ => rfl) (fun _ => rfl) (fun _ _ _ r _ _ _ hn => ⟨rfl, hn⟩) (fun _ _ _ r _ _ _ => .inl rfl)
      (fun r _ _ hs => by cases hs) (fun high => ?_)
    obtain ⟨r, hr, hd⟩ := w.lines high
    refine ⟨r, hr, hd, fun hh => ?_⟩
    have := (hgranted hg r hr hh).symm.trans (state_of_drives hd)
    cases this
  | reports h b hs =>
    obtain ⟨hs, hp⟩ := hs hg
    refine works_edit w (fun _ => rfl) (fun _ => rfl) (fun p hpp hh => absurd hh (hp p hpp)) (fun _ _ _ r _ _ hs => hs)
      (fun r hr hh hg => absurd hg (hs r hr hh)) (fun high => ?_)
    obtain ⟨r, hr, hd⟩ := w.lines high
    exact ⟨r, hr, hd, fun _ => (drives_congr rfl rfl rfl rfl).trans hd⟩
  | activates h hp =>
    replace hp := hp hg
    refine works_edit w (fun _ => rfl) (fun _ => rfl) (fun p hpp hh => absurd hh (hp p hpp)) (fun _ _ _ r _ _ _ => .inr rfl)
      (fun r _ _ hs => by cases hs) (fun high => ?_)
    obtain ⟨r, hr, hd⟩ := w.lines high
    exact ⟨r, hr, hd, fun _ => drives_iff.mpr ⟨rfl, (drives_iff.mp hd).2⟩⟩
  | seeks h free =>
    obtain ⟨hp, hv, hl⟩ := free hg
    refine works_edit w (fun _ => rfl) (fun _ => rfl) (fun p hpp hh => absurd hh (hp p hpp))
      (fun v hvv hh => absurd hh (hv v hvv)) (fun r _ _ hs => by cases hs) (fun high => ?_)
    obtain ⟨r, hr, hne, hd⟩ := hl high
    exact ⟨r, hr, hd, fun hh => absurd hh hne⟩
  | raiseLines r hr =>
    obtain ⟨h1, h2, h3, h4, -⟩ := w
    obtain ⟨q, hq, hs, hb, ho, hc⟩ := hr hg
    exact ⟨h1, h2, h3, h4, fun _ => ⟨q, hq, drives_iff.mpr ⟨hs, hb.symm, ho.symm, by rw [hc]; rfl, by rw [hc]; rfl⟩⟩⟩
  | lowerLines =>
    obtain ⟨h1, h2, h3, h4, -⟩ := w
    exact ⟨h1, h2, h3, h4, fun high => by cases high⟩
  | store o d reg v ha => exact (storeValue_same e o d reg v c).works w
  | live d reg v ho => exact (setLive_same e d reg v c).works w
  | examined x => exact (examine_same e x c).works w
  | completed x outcome read => exact (examine_same e x _).works ((completeHead_same e x outcome read c).works w)
  | head x t hs => exact (setHead_same x t c).works w
  | join x t ticket ha hl hs => exact w.congr rfl rfl rfl
  | powered d => exact w.congr rfl rfl rfl
  | transfer t ho ha => exact w.congr rfl rfl rfl
  | idle => exact w.congr rfl rfl rfl
  | replay l hl => exact w.congr rfl rfl rfl
  | marks a s x => exact w.congr rfl rfl rfl
  | view v hv =>
    obtain ⟨h1, h2, -, h4, h5⟩ := w
    exact ⟨h1, h2, hv hg, h4, h5⟩
  | begins p r hr hh ho hs hn hst hd hst' =>
    obtain ⟨h1, -, h3, h4, h5⟩ := w
    refine ⟨h1, fun q hq => ?_, h3, h4, h5⟩
    cases hq
    exact ⟨r, hr, hh, ho, hs, hn hg⟩
  | proceeds p q hp hh ho hst ha hstep =>
    obtain ⟨h1, h2, h3, h4, h5⟩ := w
    refine ⟨h1, fun u hu => ?_, h3, h4, h5⟩
    cases hu
    rw [hh, ho]
    exact h2 p hp
  | ends =>
    obtain ⟨h1, -, h3, h4, h5⟩ := w
    exact ⟨h1, fun _ hu => (nomatch hu), h3, h4, h5⟩
  | closes h =>
    obtain ⟨h1, h2, h3, h4, h5⟩ := w
    refine ⟨h1, fun u hu => h2 u (closePrep_prep c.rcc h u hu).1, ?_, h4, h5⟩
    intro v hv
    rw [closePrep_view] at hv
    exact h3 v hv
  | tearsDown x =>
    obtain ⟨b, heq⟩ := rccTeardown_frame x c
    rw [heq]
    exact w.congr rfl rfl rfl
  | sleep p hp => exact w.congr rfl rfl rfl
  | power d p ho => exact w.congr rfl rfl rfl
  | leaves d p hl => exact w.congr rfl rfl rfl

/-- Every change keeps the law of the table. -/
theorem Change.tableLaw {g : Claims} {e : Env} {c d : Core} (h : Change g e c d) (hg : g.table) (w : c.TableLaw) :
    d.TableLaw := by
  have hsame : ∀ d : Core, d.tla = c.tla → d.TableLaw := fun d hd => by
    simpa only [Core.TableLaw, Core.recordsOwned, hd] using w
  have hedit : ∀ (f : Reservation → Reservation) (h : Handle), (∀ r, (f r).handle = r.handle) → (∀ r, (f r).owner = r.owner)
      → (c.editReservation h f).TableLaw := fun f h hh ho =>
    tableLaw_of_subperm (c := c) (by rw [editReservation_keys hh ho]) rfl w
  cases h with
  | post port ev => exact hsame _ (by simp)
  | empty port =>
    obtain ⟨q, s, b, heq⟩ := emptyQueue_frame port c
    exact hsame _ (by rw [heq])
  | read port =>
    obtain ⟨q, s, b, heq⟩ := readQueue_frame port c
    exact hsame _ (by rw [heq])
  | drop h free => exact tableLaw_of_subperm (dropRecord_keys c h) rfl w
  | put r hq hsess hs =>
    obtain ⟨q, hq, hh, ho, -⟩ := hq hg
    exact tableLaw_of_subperm (putRecord_keys hq hh ho) rfl w
  | create r room hh alive hsess hst hs hn => exact (tableLaw_create w (room hg) hh)
  | touch h f hf => exact hedit _ _ hf.handle hf.owner
  | prepares h _ => exact hedit _ _ (fun _ => rfl) fun _ => rfl
  | reports h b _ => exact hedit _ _ (fun _ => rfl) fun _ => rfl
  | activates h _ => exact hedit _ _ (fun _ => rfl) fun _ => rfl
  | seeks h _ => exact hedit _ _ (fun _ => rfl) fun _ => rfl
  | raiseLines r _ => exact w
  | lowerLines => exact w
  | store o d reg v ha => exact hsame _ (storeValue_same e o d reg v c).1
  | live d reg v ho => exact hsame _ (setLive_same e d reg v c).1
  | examined x => exact hsame _ (examine_same e x c).1
  | completed x outcome read =>
    exact hsame _ ((examine_same e x _).1.trans (completeHead_same e x outcome read c).1)
  | head x t hs => exact hsame _ (setHead_same x t c).1
  | tearsDown x =>
    obtain ⟨b, heq⟩ := rccTeardown_frame x c
    exact hsame _ (by rw [heq])
  | _ => exact hsame _ rfl

end Sys2Proof.Machine

/-! PROOFS. What every change keeps: the stacks that are not ATTACHED own nothing (R110), the event queues and the silence
monitors (R182, R202), the sessions (R41 to R43, R49), the cell tables (R71, R79, R81, R83), the live table (R128). -/

namespace Sys2Proof.Machine

/-! ### An examination, one part at a time (R140, R141) -/

/-- A write is absorbed in a foreign window alone (R140). -/
theorem foreign_of_absorb {e : Env} {x : Sub} {t : Txn} {c : Core} {v : Half} (h : finding e x t c = .absorb v) :
    c.foreign x = true := by
  cases hf : c.foreign x with
  | true => rfl
  | false =>
    unfold finding at h
    rw [hf] at h
    split at h <;> try contradiction
    split at h <;> contradiction

/-- A relation between cores that an examination of X's head keeps part by part, it keeps. -/
theorem examineFrom_goes {e : Env} {x : Sub} {P : Core → Core → Prop} (hrefl : ∀ c, P c c)
    (htrans : ∀ a b c, P a b → P b c → P a c)
    (hstore : ∀ c d reg v, (c.bridge x).queue ≠ [] → c.foreign x = true → P c (storeValue e (some x) d reg v c))
    (hdone : ∀ c outcome read, P c (completeHead e x outcome read c)) (hhead : ∀ c t, P c (c.setHead x t)) (n : Nat)
    (c : Core) : P c (examineFrom e x n c) := by
  have hone : ∀ c, P c (examineHead e x c).1 := by
    intro c
    unfold examineHead
    split
    · exact hrefl c
    · rename_i t rest hq
      split
      · rename_i v hf
        exact htrans _ _ _ (hstore c _ _ _ (by rw [hq]; exact List.cons_ne_nil _ _) (foreign_of_absorb hf)) (hdone _ _ _)
      · exact hdone c _ _
      · exact hhead c _
      · exact hhead c _
  induction n generalizing c with
  | zero => exact hrefl c
  | succ n ih =>
    have h := hone c
    unfold examineFrom
    split
    · rename_i c' heq
      rw [heq] at h
      exact htrans _ _ _ h (ih c')
    · rename_i c' heq
      rw [heq] at h
      exact h

/-! ### Who owns something (R110) -/

/-- Whoever is ATTACHED, owns something or has a transfer in flight afterwards was ATTACHED or owned something before. -/
structure Narrower (c d : Core) : Prop where
  attached : ∀ x, d.attached x = true → c.attached x = true
  table : ∀ r ∈ d.tla.table, c.alive r.owner
  sessions : ∀ n, some n ∈ d.smg.sessions → c.alive n.owner
  queue : ∀ x, d.queue x ≠ [] → c.alive x
  bridge : ∀ x, (d.bridge x).queue ≠ [] → c.alive x
  shadow : ∀ x, ∀ m ∈ d.rcc.shadow, m.own.get x ≠ none → c.alive x
  coverage : ∀ x, (d.csc.get x).coverage ≠ .noCell → c.alive x
  phase : ∀ x, (d.csc.get x).phase ≠ .idle → c.alive x
  bus : ∀ t ∈ d.rcc.bus, ∀ x ∈ t.owner, t.ownerGone = false →
    c.alive x ∨ ∃ u ∈ c.rcc.bus, u.owner = t.owner ∧ u.ownerGone = false

theorem Narrower.refl (c : Core) : Narrower c c where
  attached := fun _ h => h
  table := fun r hr => .inr (.inl ⟨r, hr, rfl⟩)
  sessions := fun n hn => .inr (.inr (.inl ⟨n, hn, rfl⟩))
  queue := fun _ h => .inr (.inr (.inr (.inl h)))
  bridge := fun _ h => .inr (.inr (.inr (.inr (.inl h))))
  shadow := fun _ m hm h => .inr (.inr (.inr (.inr (.inr (.inl ⟨m, hm, h⟩)))))
  coverage := fun _ h => .inr (.inr (.inr (.inr (.inr (.inr (.inl h))))))
  phase := fun _ h => .inr (.inr (.inr (.inr (.inr (.inr (.inr h))))))
  bus := fun t ht _ _ hg => .inr ⟨t, ht, rfl, hg⟩

theorem Narrower.alive {c d : Core} (h : Narrower c d) {x : Sub} (ha : d.alive x) : c.alive x := by
  rcases ha with ha | ⟨r, hr, rfl⟩ | ⟨n, hn, rfl⟩ | hq | hb | ⟨m, hm, hx⟩ | hc | hp
  · exact .inl (h.attached x ha)
  · exact h.table r hr
  · exact h.sessions n hn
  · exact h.queue x hq
  · exact h.bridge x hb
  · exact h.shadow x m hm hx
  · exact h.coverage x hc
  · exact h.phase x hp

theorem Narrower.trans {c d f : Core} (h1 : Narrower c d) (h2 : Narrower d f) : Narrower c f where
  attached := fun x h => h1.attached x (h2.attached x h)
  table := fun r hr => h1.alive (h2.table r hr)
  sessions := fun n hn => h1.alive (h2.sessions n hn)
  queue := fun x h => h1.alive (h2.queue x h)
  bridge := fun x h => h1.alive (h2.bridge x h)
  shadow := fun x m hm h => h1.alive (h2.shadow x m hm h)
  coverage := fun x h => h1.alive (h2.coverage x h)
  phase := fun x h => h1.alive (h2.phase x h)
  bus := fun t ht x hx hg => by
    rcases h2.bus t ht x hx hg with ha | ⟨u, hu, ho, hg'⟩
    · exact .inl (h1.alive ha)
    · rw [← ho] at hx ⊢
      exact h1.bus u hu x hx hg'

/-- A record of the table shows that its owner owns something. -/
theorem alive_of_mem {c : Core} {r : Reservation} (h : r ∈ c.tla.table) : c.alive r.owner := .inr (.inl ⟨r, h, rfl⟩)

theorem alive_of_head {c : Core} {x : Sub} (h : (c.bridge x).queue ≠ []) : c.alive x :=
  .inr (.inr (.inr (.inr (.inl h))))

theorem alive_of_queue {c : Core} {x : Sub} (h : c.queue x ≠ []) : c.alive x := .inr (.inr (.inr (.inl h)))

theorem alive_of_session {c : Core} {n : Session} (h : some n ∈ c.smg.sessions) : c.alive n.owner :=
  .inr (.inr (.inl ⟨n, h, rfl⟩))

theorem alive_of_phase {c : Core} {x : Sub} (h : (c.csc.get x).phase ≠ .idle) : c.alive x :=
  .inr (.inr (.inr (.inr (.inr (.inr (.inr h))))))

theorem post_narrower (e : Env) (port : Port) (ev : Event) (c : Core) : Narrower c (post e port ev c) := by
  have h := Narrower.refl c
  exact ⟨by simp, by simpa using h.table, by simpa using h.sessions, by simpa [Core.queue] using h.queue,
    by simpa [Core.bridge] using h.bridge, by simpa using h.shadow, by simpa using h.coverage, by simpa using h.phase,
    by simpa using h.bus⟩

theorem attached_setMonitor (c : Core) (x : Sub) (m : Option Time) (y : Sub) :
    (c.setMonitor x m).attached y = c.attached y := by simp [Core.attached]

/-- A change of queues, monitors and the trigger alone, with the stack states as they were. -/
theorem narrower_of_stacks {c d : Core} (ha : ∀ x, d.attached x = true → c.attached x = true) (ht : d.tla = c.tla)
    (hs : d.smg = c.smg) (hc : d.csc = c.csc) (hr : d.rcc = c.rcc) : Narrower c d := by
  have h := Narrower.refl c
  refine ⟨ha, by rw [ht]; exact h.table, by rw [hs]; exact h.sessions, ?_, ?_, by rw [hr]; exact h.shadow,
    by rw [hc]; exact h.coverage, by rw [hc]; exact h.phase, by rw [hr]; exact h.bus⟩
  · rw [show d.queue = c.queue by unfold Core.queue; rw [hs]]
    exact h.queue
  · rw [show d.bridge = c.bridge by unfold Core.bridge; rw [hr]]
    exact h.bridge

theorem emptyQueue_attached (port : Port) (c : Core) (x : Sub) : (emptyQueue port c).attached x = c.attached x := by
  unfold emptyQueue
  simp only
  split
  · rfl
  · cases port with
    | app => rfl
    | stack y => exact attached_setMonitor _ y none x

theorem readQueue_attached (port : Port) (c : Core) (x : Sub) : (readQueue port c).attached x = c.attached x := by
  unfold readQueue
  simp only
  split
  · cases port with
    | app => rfl
    | stack y => exact attached_setMonitor _ y none x
  · rfl

theorem setShadow_narrower {c : Core} {m : List ShadowEntry}
    (h : ∀ x, ∀ n ∈ m, n.own.get x ≠ none → c.alive x) : Narrower c (c.setShadow m) :=
  { Narrower.refl c with shadow := h }

/-- A stored value belongs to the subscription it was written for. -/
theorem store_own {s : ShadowEntry} {o : Option Sub} {v : Half} {x : Sub} (h : (s.store o v).own.get x ≠ none) :
    s.own.get x ≠ none ∨ o = some x := by
  unfold ShadowEntry.store at h
  split at h
  · exact .inl h
  · split at h
    · exact .inl h
    · rename_i y
      by_cases hxy : x = y
      · exact .inr (by rw [hxy])
      · left
        rw [Pair.get_set, if_neg hxy] at h
        exact h

theorem mem_modify {α : Type} {l : List α} {i : Nat} {g : α → α} {a : α} (h : a ∈ l.modify i g) :
    a ∈ l ∨ ∃ b ∈ l, a = g b := by
  obtain ⟨j, hj, hget⟩ := List.mem_iff_getElem.mp h
  rw [List.getElem_modify] at hget
  have hj' : j < l.length := by simpa using hj
  split at hget
  · exact .inr ⟨l[j], List.getElem_mem hj', hget.symm⟩
  · exact .inl (hget ▸ List.getElem_mem hj')

theorem storeValue_narrower {e : Env} {o : Option Sub} {d : Device} {reg : Byte} {v : Half} {c : Core}
    (h : ∀ x ∈ o, c.alive x) : Narrower c (storeValue e o d reg v c) := by
  unfold storeValue
  split
  · exact Narrower.refl c
  · refine setShadow_narrower fun x n hn hx => ?_
    rcases mem_modify hn with hn | ⟨m, hm, rfl⟩
    · exact (Narrower.refl c).shadow x n hn hx
    · rcases store_own hx with hx | hx
      · exact (Narrower.refl c).shadow x m hm hx
      · exact h x hx

theorem setLive_narrower (e : Env) (d : Device) (reg : Byte) (v : Option Half) (c : Core) :
    Narrower c (setLive e d reg v c) := by
  unfold setLive
  split
  · exact Narrower.refl c
  · refine setShadow_narrower fun x n hn hx => ?_
    rcases mem_modify hn with hn | ⟨m, hm, rfl⟩
    · exact (Narrower.refl c).shadow x n hn hx
    · exact (Narrower.refl c).shadow x m hm hx

theorem setBridge_narrower {c : Core} {x : Sub} {b : Bridge} (h : b.queue ≠ [] → c.alive x) :
    Narrower c (c.setBridge x b) :=
  { Narrower.refl c with
    bridge := fun y hy => by
      rw [Core.bridge, Core.setBridge, Pair.get_set] at hy
      split at hy
      · rename_i hyx
        exact hyx ▸ h hy
      · exact (Narrower.refl c).bridge y hy }

theorem setHead_narrower (x : Sub) (t : Txn) (c : Core) : Narrower c (c.setHead x t) := by
  unfold Core.setHead
  split
  · exact Narrower.refl c
  · rename_i u rest hq
    exact setBridge_narrower fun _ => alive_of_head (by rw [hq]; exact List.cons_ne_nil _ _)

theorem completeHead_narrower (e : Env) (x : Sub) (outcome : Nat) (read : Option Half) (c : Core) :
    Narrower c (completeHead e x outcome read c) := by
  unfold completeHead
  split
  · exact Narrower.refl c
  · rename_i u rest hq
    have h1 : Narrower c (c.setBridge x { c.bridge x with queue := rest }) :=
      setBridge_narrower fun _ => alive_of_head (by rw [hq]; exact List.cons_ne_nil _ _)
    exact (h1.trans (post_narrower e _ _ _)).trans { Narrower.refl _ with }

theorem examine_narrower (e : Env) (x : Sub) (c : Core) : Narrower c (examine e x c) :=
  examineFrom_goes Narrower.refl (fun _ _ _ => Narrower.trans)
    (fun _ _ _ _ hq _ => storeValue_narrower fun y hy => by cases hy; exact alive_of_head hq)
    (fun c outcome read => completeHead_narrower e x outcome read c) (fun c t => setHead_narrower x t c) _ c

/-- A change of the reservation table alone. -/
theorem narrower_of_table {c d : Core} (hd : ∃ t, d = { c with tla := t }) (h : ∀ r ∈ d.tla.table, c.alive r.owner) :
    Narrower c d := by
  obtain ⟨t, rfl⟩ := hd
  exact { Narrower.refl c with table := h }

theorem editReservation_narrower (c : Core) (h : Handle) {f : Reservation → Reservation}
    (ho : ∀ r, (f r).owner = r.owner) : Narrower c (c.editReservation h f) := by
  refine narrower_of_table ⟨_, rfl⟩ fun r hr => ?_
  obtain ⟨q, hq, rfl⟩ := mem_editReservation.mp hr
  have ha := alive_of_mem hq
  split
  · rwa [ho]
  · exact ha

/-- A change of the RF Context Controller's record that leaves the shadow map and the bridge queues. -/
theorem narrower_of_rcc {c d : Core} {r : Rcc} (hd : d = { c with rcc := r }) (hs : r.shadow = c.rcc.shadow)
    (hb : r.bridges = c.rcc.bridges) (hbus : ∀ t ∈ r.bus, ∀ x ∈ t.owner, t.ownerGone = false →
      c.alive x ∨ ∃ u ∈ c.rcc.bus, u.owner = t.owner ∧ u.ownerGone = false) : Narrower c d := by
  subst hd
  refine { Narrower.refl c with
    shadow := fun x m hm hx => (Narrower.refl c).shadow x m (hs ▸ hm) hx, bridge := fun x hx => ?_, bus := hbus }
  exact (Narrower.refl c).bridge x (by
    rw [show ({ c with rcc := r } : Core).bridge x = c.bridge x by simp only [Core.bridge, hb]] at hx
    exact hx)

/-- A transfer of the other record with its owner. -/
theorem bus_map_narrower {c : Core} {g : Transfer → Transfer} (ho : ∀ t, (g t).owner = t.owner)
    (hg : ∀ t, (g t).ownerGone = false → t.ownerGone = false) :
    ∀ t ∈ c.rcc.bus.map g, ∀ x ∈ t.owner, t.ownerGone = false →
      c.alive x ∨ ∃ u ∈ c.rcc.bus, u.owner = t.owner ∧ u.ownerGone = false := by
  intro t ht x _ hgone
  obtain ⟨u, hu, rfl⟩ := Option.mem_map.mp ht
  exact .inr ⟨u, hu, (ho u).symm, hg u hgone⟩

theorem drop_owner (t : Transfer) : t.drop.owner = t.owner ∧ t.drop.ownerGone = t.ownerGone := by
  unfold Transfer.drop
  split <;> exact ⟨rfl, rfl⟩

theorem leave_owner (d : Device) (t : Transfer) : (t.leave d).owner = t.owner ∧ (t.leave d).ownerGone = t.ownerGone := by
  unfold Transfer.leave
  split <;> exact ⟨rfl, rfl⟩

theorem orphan_owner (x : Sub) (t : Transfer) :
    (t.orphan x).owner = t.owner ∧ ((t.orphan x).ownerGone = false → t.ownerGone = false) := by
  unfold Transfer.orphan
  split
  · exact ⟨rfl, fun h => by cases h⟩
  · exact ⟨rfl, id⟩

theorem bus_drop_narrower (c : Core) : ∀ t ∈ c.rcc.bus.map Transfer.drop, ∀ x ∈ t.owner, t.ownerGone = false →
    c.alive x ∨ ∃ u ∈ c.rcc.bus, u.owner = t.owner ∧ u.ownerGone = false :=
  bus_map_narrower (fun t => (drop_owner t).1) (fun t h => (drop_owner t).2 ▸ h)

theorem rccTeardown_narrower (x : Sub) (c : Core) : Narrower c (rccTeardown x c) := by
  obtain ⟨b, heq⟩ := rccTeardown_frame x c
  rw [heq]
  refine { Narrower.refl c with shadow := fun y m hm hy => ?_, bridge := fun y hy => ?_, bus := ?_ }
  · refine (Narrower.refl c).bridge y fun hnone => hy ?_
    change (Pair.get (c.rcc.bridges.set x _) y).queue = []
    rw [Pair.get_set]
    split
    · rfl
    · exact hnone
  · obtain ⟨n, hn, rfl⟩ := List.mem_map.mp hm
    refine (Narrower.refl c).shadow y n hn fun hnone => hy ?_
    rw [Pair.get_set]
    split
    · rfl
    · exact hnone
  · exact bus_map_narrower (fun t => (orphan_owner x t).1) (fun t => (orphan_owner x t).2)

theorem leavesOn_narrower (d : Device) (p : Power) (c : Core) : Narrower c (leavesOn d (c.setPower d p)) := by
  refine { Narrower.refl c with shadow := fun y m hm hy => ?_, bus := ?_ }
  · obtain ⟨n, hn, rfl⟩ := List.mem_map.mp hm
    refine (Narrower.refl c).shadow y n hn fun hnone => hy ?_
    split
    · exact hnone
    · exact hnone
  · exact bus_map_narrower (fun t => (leave_owner d t).1) (fun t h => (leave_owner d t).2 ▸ h)

theorem closePrep_narrower (h : Handle) (c : Core) : Narrower c { c with rcc := c.rcc.closePrep h } := by
  unfold Rcc.closePrep
  split
  · exact Narrower.refl c
  · split
    · exact narrower_of_rcc rfl rfl rfl (bus_drop_narrower c)
    · exact Narrower.refl c

/-- No change gives anything to a subscription that is not ATTACHED and owns nothing. -/
theorem detach_narrower (c : Core) (x : Sub) {left : StackState} (hl : left ≠ .attached) :
    Narrower c (c.setStack x ⟨left, none⟩) := by
  refine narrower_of_stacks (fun y hy => ?_) rfl rfl rfl rfl
  rw [Core.attached, Core.setStack, Pair.get_set] at hy
  split at hy
  · exact absurd (of_decide_eq_true hy) hl
  · exact hy

theorem Change.narrower {g : Claims} {e : Env} {c d : Core} (h : Change g e c d) (hg : g.works) : Narrower c d := by
  cases h with
  | post port ev => exact post_narrower e port ev c
  | empty port =>
    obtain ⟨q, s, b, heq⟩ := emptyQueue_frame port c
    exact narrower_of_stacks (fun x hx => by rwa [emptyQueue_attached] at hx) (by rw [heq]) (by rw [heq]) (by rw [heq])
      (by rw [heq])
  | read port =>
    obtain ⟨q, s, b, heq⟩ := readQueue_frame port c
    exact narrower_of_stacks (fun x hx => by rwa [readQueue_attached] at hx) (by rw [heq]) (by rw [heq]) (by rw [heq])
      (by rw [heq])
  | notices ns => exact narrower_of_stacks (fun _ h => h) rfl rfl rfl rfl
  | evaluate b => exact narrower_of_stacks (fun _ h => h) rfl rfl rfl rfl
  | measure m hm => exact narrower_of_stacks (fun _ h => h) rfl rfl rfl rfl
  | handover h => exact narrower_of_stacks (fun _ h => h) rfl rfl rfl rfl
  | search x s hs _ =>
    refine { Narrower.refl c with coverage := fun y hy => ?_, phase := fun y hy => ?_ }
    · rw [Core.setSearch_csc, Pair.get_set] at hy
      split at hy
      · rename_i hyx
        exact hyx ▸ (hs hg).resolve_right fun h => hy h.1
      · exact (Narrower.refl c).coverage y hy
    · rw [Core.setSearch_csc, Pair.get_set] at hy
      split at hy
      · rename_i hyx
        exact hyx ▸ (hs hg).resolve_right fun h => hy h.2
      · exact (Narrower.refl c).phase y hy
  | sessions m h1 h2 h3 _ => exact { Narrower.refl c with sessions := h2 hg, queue := h3 hg }
  | drop h free =>
    exact narrower_of_table ⟨_, rfl⟩ fun r hr => alive_of_mem (mem_dropRecord.mp hr).1
  | put r hq hsess hs =>
    obtain ⟨q, hq, hh, ho, -⟩ := hq (g.table_of_works hg)
    have halive : c.alive r.owner := ho ▸ alive_of_mem hq
    refine narrower_of_table ⟨_, rfl⟩ fun u hu => ?_
    rcases mem_putRecord.mp hu with rfl | ⟨hu, -⟩
    · exact halive
    · exact alive_of_mem hu
  | create r room hh alive hsess hst hs hn =>
    refine narrower_of_table ⟨_, rfl⟩ fun u hu => ?_
    rcases mem_putRecord.mp hu with rfl | ⟨hu, -⟩
    · exact alive hg
    · exact alive_of_mem hu
  | touch h f hf => exact editReservation_narrower c h hf.owner
  | prepares h _ => exact editReservation_narrower c h fun _ => rfl
  | reports h b hs => exact editReservation_narrower c h fun _ => rfl
  | activates h _ => exact editReservation_narrower c h fun _ => rfl
  | seeks h _ => exact editReservation_narrower c h fun _ => rfl
  | raiseLines r hr => exact narrower_of_table ⟨_, rfl⟩ fun r hr => alive_of_mem hr
  | lowerLines => exact narrower_of_table ⟨_, rfl⟩ fun r hr => alive_of_mem hr
  | store o d reg v ha => exact storeValue_narrower (ha hg)
  | live d reg v ho => exact setLive_narrower e d reg v c
  | examined x => exact examine_narrower e x c
  | completed x outcome read => exact (completeHead_narrower e x outcome read c).trans (examine_narrower e x _)
  | head x t hs => exact setHead_narrower x t c
  | join x t ticket ha hl hs => exact setBridge_narrower fun _ => ha hg
  | powered d =>
    refine { Narrower.refl c with bridge := fun x hx => (Narrower.refl c).bridge x fun hnone => hx ?_ }
    cases x
    · exact List.map_eq_nil_iff.mpr hnone
    · exact List.map_eq_nil_iff.mpr hnone
  | transfer t ho ha => exact narrower_of_rcc rfl rfl rfl fun u hu x hx _ => by cases hu; exact .inl (ha hg x hx)
  | idle => exact narrower_of_rcc rfl rfl rfl fun u hu => by cases hu
  | replay l hl => exact narrower_of_rcc rfl rfl rfl (Narrower.refl c).bus
  | marks a s x => exact narrower_of_rcc rfl rfl rfl (Narrower.refl c).bus
  | view v hv => exact narrower_of_rcc rfl rfl rfl (Narrower.refl c).bus
  | begins p r hr hh ho hs hn hst hd hst' => exact narrower_of_rcc rfl rfl rfl (bus_drop_narrower c)
  | proceeds p q hp hh ho hst ha hstep => exact narrower_of_rcc rfl rfl rfl (Narrower.refl c).bus
  | ends => exact narrower_of_rcc rfl rfl rfl (Narrower.refl c).bus
  | closes h => exact closePrep_narrower h c
  | tearsDown x => exact rccTeardown_narrower x c
  | sleep p hp => exact narrower_of_stacks (fun _ h => h) rfl rfl rfl rfl
  | power d p ho => exact narrower_of_stacks (fun _ h => h) rfl rfl rfl rfl
  | leaves d p hl => exact leavesOn_narrower d p c

/-! ### Event queues and silence monitors (R182, R202, R205) -/

/-- The law of the queues and the monitors while the stacks of `att` are ATTACHED or being torn down. -/
structure Queues (att : Sub → Bool) (e : Env) (c : Core) : Prop where
  bounded : ∀ port, (c.pif.get port).Bounded
  attached : ∀ x, c.attached x = true → att x = true
  quiet : ∀ x, att x = false → c.pif.get (.stack x) = ⟨[], 0⟩
  monitor : ∀ x, (c.ssv.get x).monitor.isSome = true ↔
    (c.attached x = true ∧ (c.pif.get (.stack x)).events ≠ [] ∧ e.policy.limits.get x ≠ 0)

theorem Queues.congr {att : Sub → Bool} {e : Env} {c d : Core} (h : Queues att e c) (hs : d.ssv = c.ssv)
    (hp : d.pif = c.pif) : Queues att e d := by
  have ha : ∀ x, d.attached x = c.attached x := fun x => by rw [Core.attached, Core.attached, hs]
  exact ⟨by rw [hp]; exact h.bounded, fun x => by rw [ha]; exact h.attached x, by rw [hp]; exact h.quiet,
    fun x => by rw [hs, hp, ha]; exact h.monitor x⟩

theorem join_events_ne (q : EventQueue) (ev : Event) : (q.join ev).events ≠ [] := by
  unfold EventQueue.join
  split
  · simp
  · rename_i h
    intro hnil
    rw [show q.events = [] from hnil] at h
    exact h (by decide)

theorem get_set_stack_other (p : Trio EventQueue) {x y : Sub} (h : x ≠ y) (q : EventQueue) :
    (p.set (.stack y) q).get (.stack x) = p.get (.stack x) := by
  rw [Trio.get_set, if_neg]
  rintro h'
  cases h'
  exact h rfl

theorem get_set_app_stack (p : Trio EventQueue) (x : Sub) (q : EventQueue) :
    (p.set .app q).get (.stack x) = p.get (.stack x) := by
  rw [Trio.get_set, if_neg]
  rintro ⟨⟩

theorem bounded_set {p : Trio EventQueue} {port : Port} {q : EventQueue} (h : ∀ port, (p.get port).Bounded) (hq : q.Bounded)
    (other : Port) : ((p.set port q).get other).Bounded := by
  rw [Trio.get_set]
  split
  · exact hq
  · exact h other

theorem attached_setMonitor_ssv (c : Core) (y : Sub) (m : Option Time) (x : Sub) :
    ((c.setMonitor y m).ssv.get x).monitor = if x = y then m else (c.ssv.get x).monitor := by
  rw [Core.setMonitor, Pair.get_set]
  split <;> rfl

section
variable {e : Env} {c : Core} {y : Sub} (hy : c.attached y = true) (ev : Event)
include hy

theorem post_stack_pif : (post e (.stack y) ev c).pif = c.pif.set (.stack y) ((c.pif.get (.stack y)).join ev) := by
  unfold post
  simp only [if_pos hy]
  split
  · unfold startMonitor
    split <;> rfl
  · rfl

theorem post_stack_monitor_other {x : Sub} (hx : x ≠ y) :
    ((post e (.stack y) ev c).ssv.get x).monitor = (c.ssv.get x).monitor := by
  unfold post
  simp only [if_pos hy]
  split
  · unfold startMonitor
    split
    · rw [attached_setMonitor_ssv, if_neg hx]
    · rfl
  · rfl

/-- An event of its own leaves the monitor running when a limit is set: it runs already, or starts (R182). -/
theorem post_stack_monitor_self (h : (c.ssv.get y).monitor.isSome = true ↔
      (c.attached y = true ∧ (c.pif.get (.stack y)).events ≠ [] ∧ e.policy.limits.get y ≠ 0)) :
    ((post e (.stack y) ev c).ssv.get y).monitor.isSome = true ↔ e.policy.limits.get y ≠ 0 := by
  unfold post
  simp only [if_pos hy]
  split
  · rename_i hempty
    have hoff : (c.ssv.get y).monitor.isSome ≠ true := fun hm => (h.mp hm).2.1 (List.isEmpty_iff.mp hempty)
    unfold startMonitor
    split
    · rename_i hon
      rw [attached_setMonitor_ssv, if_pos rfl]
      exact ⟨fun _ => of_decide_eq_true (Bool.and_eq_true _ _ ▸ hon).2, fun _ => rfl⟩
    · rename_i hon
      refine ⟨fun hm => absurd hm hoff, fun hl => absurd ?_ hon⟩
      rw [Bool.and_eq_true]
      exact ⟨hy, decide_eq_true hl⟩
  · rename_i hne
    have hne' : (c.pif.get (.stack y)).events ≠ [] := fun hnil => hne (by rw [hnil]; rfl)
    exact h.trans ⟨fun hm => hm.2.2, fun hl => ⟨hy, hne', hl⟩⟩

end

theorem post_queues {att : Sub → Bool} {e : Env} {c : Core} (h : Queues att e c) (port : Port) (ev : Event) :
    Queues att e (post e port ev c) := by
  cases port with
  | app =>
    exact ⟨bounded_set h.bounded (join_bounded (h.bounded _) ev), h.attached,
      fun x hx => (get_set_app_stack _ x _).trans (h.quiet x hx), fun x => by
        rw [show (post e .app ev c).pif.get (.stack x) = c.pif.get (.stack x) from get_set_app_stack _ x _]
        exact h.monitor x⟩
  | stack y =>
    by_cases hy : c.attached y = true
    · refine ⟨?_, fun x => by rw [post_attached]; exact h.attached x, fun x hx => ?_, fun x => ?_⟩
      · rw [post_stack_pif hy]
        exact bounded_set h.bounded (join_bounded (h.bounded _) ev)
      · have hxy : x ≠ y := by
          rintro rfl
          rw [h.attached x hy] at hx
          cases hx
        rw [post_stack_pif hy, get_set_stack_other _ hxy]
        exact h.quiet x hx
      · rw [post_attached, post_stack_pif hy]
        by_cases hxy : x = y
        · subst hxy
          rw [Trio.get_set_self]
          exact (post_stack_monitor_self hy ev (h.monitor x)).trans
            ⟨fun hl => ⟨hy, join_events_ne _ ev, hl⟩, fun hl => hl.2.2⟩
        · rw [post_stack_monitor_other hy ev hxy, get_set_stack_other _ hxy]
          exact h.monitor x
    · rw [show post e (.stack y) ev c = c from if_neg hy]
      exact h

/-- A queue that is replaced by a shorter one, with the monitor of its stack stopped when it becomes empty. -/
theorem queues_shorter {att : Sub → Bool} {e : Env} {c d : Core} (h : Queues att e c) (port : Port) {q : EventQueue}
    (hp : d.pif = c.pif.set port q) (hq : q.Bounded) (hquiet : c.pif.get port = ⟨[], 0⟩ → q = ⟨[], 0⟩)
    (ha : ∀ x, d.attached x = c.attached x)
    (hm : ∀ x, (d.ssv.get x).monitor.isSome = true ↔ ((c.ssv.get x).monitor.isSome = true
      ∧ (port = .stack x → q.events ≠ [])))
    (hsub : q.events ≠ [] → (c.pif.get port).events ≠ []) : Queues att e d := by
  refine ⟨?_, fun x => by rw [ha]; exact h.attached x, fun x hx => ?_, fun x => ?_⟩
  · rw [hp]
    exact bounded_set h.bounded hq
  · rw [hp, Trio.get_set]
    split
    · rename_i heq
      exact hquiet (heq ▸ h.quiet x hx)
    · exact h.quiet x hx
  · rw [hm, h.monitor, ha, hp, Trio.get_set]
    split
    · rename_i heq
      subst heq
      exact ⟨fun ⟨⟨h1, _, h3⟩, h2⟩ => ⟨h1, h2 rfl, h3⟩, fun ⟨h1, h2, h3⟩ => ⟨⟨h1, hsub h2, h3⟩, fun _ => h2⟩⟩
    · rename_i hne
      exact ⟨fun h => h.1, fun h => ⟨h, fun heq => absurd heq.symm hne⟩⟩

theorem queueEmptied_monitor (port : Port) (c : Core) (x : Sub) :
    ((queueEmptied port c).ssv.get x).monitor = if port = .stack x then none else (c.ssv.get x).monitor := by
  cases port with
  | app => rfl
  | stack y =>
    change ((c.setMonitor y none).ssv.get x).monitor = _
    rw [attached_setMonitor_ssv]
    by_cases hxy : x = y
    · rw [if_pos hxy, if_pos (by rw [hxy])]
    · rw [if_neg hxy, if_neg (fun h => hxy (by cases h; rfl))]

theorem emptyQueue_queues {att : Sub → Bool} {e : Env} {c : Core} (h : Queues att e c) (port : Port) :
    Queues att e (emptyQueue port c) := by
  refine queues_shorter h port (q := ⟨[], 0⟩) ?_ ⟨Nat.zero_le _, Nat.zero_le _⟩ (fun _ => rfl)
    (emptyQueue_attached port c) (fun x => ?_) (fun hne => absurd rfl hne)
  · unfold emptyQueue
    simp only
    split
    · rfl
    · cases port <;> rfl
  · unfold emptyQueue
    simp only
    split
    · rename_i hempty
      refine ⟨fun hm => ⟨hm, fun hport => ?_⟩, fun hm => hm.1⟩
      subst hport
      exact absurd (List.isEmpty_iff.mp hempty) ((h.monitor x).mp hm).2.1
    · rw [queueEmptied_monitor]
      split
      · rename_i hport
        exact ⟨fun hm => (by cases hm), fun hm => absurd rfl (hm.2 hport)⟩
      · rename_i hport
        exact ⟨fun hm => ⟨hm, fun hp => absurd hp hport⟩, fun hm => hm.1⟩

theorem readQueue_queues {att : Sub → Bool} {e : Env} {c : Core} (h : Queues att e c) (port : Port) :
    Queues att e (readQueue port c) := by
  have hread : ∀ q : EventQueue, q.read.events = q.events.drop Config.eventReadMax := fun _ => rfl
  refine queues_shorter h port (q := (c.pif.get port).read) ?_ ⟨?_, Nat.zero_le _⟩ (fun hq => by rw [hq]; rfl)
    (readQueue_attached port c) (fun x => ?_) (fun hne hnil => hne (by rw [hread, hnil]; rfl))
  · unfold readQueue
    simp only
    split
    · cases port <;> rfl
    · rfl
  · rw [hread, List.length_drop]
    exact (Nat.sub_le _ _).trans (h.bounded port).1
  · unfold readQueue
    simp only
    split
    · rename_i hemptied
      rw [Bool.and_eq_true] at hemptied
      rw [queueEmptied_monitor]
      split
      · rename_i hport
        exact ⟨fun hm => (by cases hm), fun hm => absurd (List.isEmpty_iff.mp hemptied.2) (hm.2 hport)⟩
      · rename_i hport
        exact ⟨fun hm => ⟨hm, fun hp => absurd hp hport⟩, fun hm => hm.1⟩
    · rename_i hnot
      refine ⟨fun hm => ⟨hm, fun hport hnil => hnot ?_⟩, fun hm => hm.1⟩
      subst hport
      rw [Bool.and_eq_true, hnil]
      exact ⟨by simpa [List.isEmpty_iff] using ((h.monitor x).mp hm).2.1, rfl⟩

theorem detach_queues {att : Sub → Bool} {e : Env} {c : Core} (h : Queues att e c) {x : Sub} {left : StackState}
    (hl : left ≠ .attached) : Queues att e (c.setStack x ⟨left, none⟩) := by
  have ha : ∀ y, (c.setStack x ⟨left, none⟩).attached y = true ↔ (y ≠ x ∧ c.attached y = true) := by
    intro y
    rw [Core.attached, Core.setStack, Pair.get_set, decide_eq_true_eq]
    split
    · rename_i hyx
      exact ⟨fun h => absurd h hl, fun h => absurd hyx h.1⟩
    · rename_i hyx
      exact ⟨fun h => ⟨hyx, decide_eq_true h⟩, fun h => of_decide_eq_true h.2⟩
  refine ⟨h.bounded, fun y hy => h.attached y ((ha y).mp hy).2, h.quiet, fun y => ?_⟩
  rw [ha, Core.setStack, Pair.get_set]
  split
  · rename_i hyx
    exact ⟨fun h => (by cases h), fun h => absurd hyx h.1.1⟩
  · rename_i hyx
    exact (h.monitor y).trans ⟨fun h => ⟨⟨hyx, h.1⟩, h.2⟩, fun h => ⟨h.1.2, h.2⟩⟩

theorem storeValue_queues {att : Sub → Bool} {e e' : Env} {c : Core} (h : Queues att e c) (o : Option Sub) (d : Device)
    (reg : Byte) (v : Half) : Queues att e (storeValue e' o d reg v c) := by
  rcases storeValue_frame e' o d reg v c with hs | ⟨m, hs⟩ <;> rw [hs]
  · exact h
  · exact h.congr rfl rfl

theorem setHead_queues {att : Sub → Bool} {e : Env} {c : Core} (h : Queues att e c) (x : Sub) (t : Txn) :
    Queues att e (c.setHead x t) := by
  unfold Core.setHead
  split
  · exact h
  · exact h.congr rfl rfl

theorem completeHead_queues {att : Sub → Bool} {e : Env} {c : Core} (h : Queues att e c) (x : Sub) (outcome : Nat)
    (read : Option Half) : Queues att e (completeHead e x outcome read c) := by
  cases hq : (c.bridge x).queue with
  | nil => rwa [completeHead_empty hq]
  | cons t rest =>
    rw [completeHead_head hq]
    have h1 : Queues att e (c.setBridge x { c.bridge x with queue := rest }) := h.congr rfl rfl
    exact (post_queues h1 _ _).congr rfl rfl

theorem examine_queues {att : Sub → Bool} {e : Env} {c : Core} (h : Queues att e c) (x : Sub) :
    Queues att e (examine e x c) :=
  examineFrom_goes (P := fun a b => Queues att e a → Queues att e b) (fun _ => id) (fun _ _ _ f g h => g (f h))
    (fun _ d reg v _ _ h => storeValue_queues h _ d reg v) (fun _ outcome read h => completeHead_queues h x outcome read)
    (fun _ t h => setHead_queues h x t) _ c h

/-- Every change keeps the law of the queues and the monitors. -/
theorem Change.queues {g : Claims} {att : Sub → Bool} {e : Env} {c d : Core} (h : Change g e c d) (w : Queues att e c) :
    Queues att e d := by
  cases h with
  | post port ev => exact post_queues w port ev
  | empty port => exact emptyQueue_queues w port
  | read port => exact readQueue_queues w port
  | store o d reg v ha => exact storeValue_queues w o d reg v
  | live d reg v ho => rcases setLive_frame e d reg v c with hs | ⟨m, hs⟩ <;> rw [hs] <;> exact w.congr rfl rfl
  | examined x => exact examine_queues w x
  | completed x outcome read => exact examine_queues (completeHead_queues w x outcome read) x
  | head x t hs => exact setHead_queues w x t
  | tearsDown x =>
    obtain ⟨b, heq⟩ := rccTeardown_frame x c
    rw [heq]
    exact w.congr rfl rfl
  | _ => exact w.congr rfl rfl

/-! ### Sessions and cells (R41, R71) -/

theorem ownsSession_congr {c d : Core} (hs : d.smg = c.smg) (x : Sub) (h : Handle) :
    d.ownsSession x h = c.ownsSession x h := by
  simp only [Core.ownsSession, Core.session, hs]

/-- The law of the sessions stands when the Session Manager's record does and every record names a session of its owner's. -/
theorem Core.SessionsLaw.congr {e : Env} {c d : Core} (w : c.SessionsLaw e) (hs : d.smg = c.smg)
    (hr : ∀ r ∈ d.tla.table, ∀ h ∈ r.session, c.ownsSession r.owner h = true) : d.SessionsLaw e := by
  obtain ⟨h1, h2, h3, h4, h5, h6, h7, -⟩ := w
  have hq : ∀ x, queueLaw c x → queueLaw d x := fun x hx => by
    simpa only [queueLaw, Core.queue, Core.ownsSession, Core.session, Core.textSession, hs] using hx
  exact ⟨by rw [hs]; exact h1, by rw [hs]; exact h2, by rw [hs]; exact h3, by rw [hs]; exact h4, hq .A h5, hq .B h6,
    by rw [hs]; exact h7, fun r hr' h hh => by rw [ownsSession_congr hs]; exact hr r hr' h hh⟩

theorem Core.SessionsLaw.named {e : Env} {c : Core} (w : c.SessionsLaw e) {r : Reservation} (hr : r ∈ c.tla.table)
    {h : Handle} (hh : h ∈ r.session) : c.ownsSession r.owner h = true := w.2.2.2.2.2.2.2 r hr h hh

theorem edit_sessions {e : Env} {c : Core} (w : c.SessionsLaw e) (h : Handle) {f : Reservation → Reservation}
    (ho : ∀ r, (f r).owner = r.owner) (hs : ∀ r, (f r).session = r.session) : (c.editReservation h f).SessionsLaw e := by
  refine w.congr rfl fun q hq m hm => ?_
  obtain ⟨r, hr, rfl⟩ := mem_editReservation.mp hq
  split
  · rename_i hrh
    rw [if_pos hrh, hs] at hm
    rw [ho]
    exact w.named hr hm
  · rename_i hrh
    rw [if_neg hrh] at hm
    exact w.named hr hm

theorem SameWorks.sessions {e : Env} {c d : Core} (h : SameWorks c d) (hs : d.smg = c.smg) (w : c.SessionsLaw e) :
    d.SessionsLaw e := w.congr hs (by rw [h.1]; exact fun r hr m hm => w.named hr hm)

/-- Every change keeps the law of the sessions. -/
theorem Change.sessionsLaw {g : Claims} {e : Env} {c d : Core} (h : Change g e c d) (hg : g.sessions) (w : c.SessionsLaw e) : d.SessionsLaw e := by
  have hsame : ∀ r ∈ c.tla.table, ∀ h ∈ r.session, c.ownsSession r.owner h = true := fun r hr m hm => w.named hr hm
  cases h with
  | post port ev => exact w.congr (by simp) (by simpa using hsame)
  | empty port =>
    obtain ⟨q, s, b, heq⟩ := emptyQueue_frame port c
    rw [heq]
    exact w.congr rfl hsame
  | read port =>
    obtain ⟨q, s, b, heq⟩ := readQueue_frame port c
    rw [heq]
    exact w.congr rfl hsame
  | sessions m h1 h2 h3 _ => exact h1 w
  | drop h free => exact w.congr rfl fun r hr => hsame r (mem_dropRecord.mp hr).1
  | put r hq hsess hs =>
    refine w.congr rfl fun u hu m hm => ?_
    rcases mem_putRecord.mp hu with rfl | ⟨hu, -⟩
    · exact hsess hg m hm
    · exact w.named hu hm
  | create r room hh alive hsess hst hs hn =>
    refine w.congr rfl fun u hu m hm => ?_
    rcases mem_putRecord.mp hu with rfl | ⟨hu, -⟩
    · exact hsess hg m hm
    · exact w.named hu hm
  | touch h f hf => exact edit_sessions w h hf.owner hf.session
  | prepares h _ => exact edit_sessions w h (fun _ => rfl) fun _ => rfl
  | reports h b hs => exact edit_sessions w h (fun _ => rfl) fun _ => rfl
  | activates h hp => exact edit_sessions w h (fun _ => rfl) fun _ => rfl
  | seeks h free => exact edit_sessions w h (fun _ => rfl) fun _ => rfl
  | store o d reg v ha =>
    rcases storeValue_frame e o d reg v c with hs | ⟨m, hs⟩ <;> rw [hs]
    · exact w
    · exact w.congr rfl hsame
  | live d reg v ho =>
    rcases setLive_frame e d reg v c with hs | ⟨m, hs⟩ <;> rw [hs]
    · exact w
    · exact w.congr rfl hsame
  | examined x => exact (examine_same e x c).sessions (examine_frame e x c).2.1 w
  | completed x outcome read =>
    exact (examine_same e x _).sessions (examine_frame e x _).2.1
      ((completeHead_same e x outcome read c).sessions (completeHead_frame e x outcome read c).2.1 w)
  | head x t hs => exact (setHead_same x t c).sessions (setHead_frame c x t).2.1 w
  | tearsDown x =>
    obtain ⟨b, heq⟩ := rccTeardown_frame x c
    rw [heq]
    exact w.congr rfl hsame
  | _ => exact w.congr rfl hsame

theorem Core.CellLaw.congr {c d : Core} (w : c.CellLaw) (hm : d.msu = c.msu) : d.CellLaw := by
  simpa only [Core.CellLaw, Core.cells, hm] using w

/-- Every change keeps the law of the cell tables. -/
theorem Change.cellLaw {g : Claims} {e : Env} {c d : Core} (h : Change g e c d) (w : c.CellLaw) : d.CellLaw := by
  cases h with
  | post port ev => exact w.congr (by simp)
  | empty port =>
    obtain ⟨q, s, b, heq⟩ := emptyQueue_frame port c
    rw [heq]
    exact w.congr rfl
  | read port =>
    obtain ⟨q, s, b, heq⟩ := readQueue_frame port c
    rw [heq]
    exact w.congr rfl
  | measure m hm => exact hm w
  | store o d reg v ha => rcases storeValue_frame e o d reg v c with hs | ⟨m, hs⟩ <;> rw [hs] <;> exact w.congr rfl
  | live d reg v ho => rcases setLive_frame e d reg v c with hs | ⟨m, hs⟩ <;> rw [hs] <;> exact w.congr rfl
  | examined x => exact w.congr (examine_frame e x c).2.2.1
  | completed x outcome read =>
    exact (w.congr (completeHead_frame e x outcome read c).2.2.1).congr (examine_frame e x _).2.2.1
  | head x t hs => exact w.congr (setHead_frame c x t).2.2.1
  | tearsDown x =>
    obtain ⟨b, heq⟩ := rccTeardown_frame x c
    rw [heq]
    exact w.congr rfl
  | _ => exact w.congr rfl

/-! ### The live table (R128, R130, R133, R144) -/

/-- What an examination of X's head leaves, for the law of the live table. -/
structure Examines (x : Sub) (c d : Core) : Prop where
  shadow : ∀ m ∈ d.rcc.shadow, ∃ n ∈ c.rcc.shadow, m.entry = n.entry ∧ m.live = n.live
  bus : d.rcc.bus = c.rcc.bus
  replay : d.rcc.replay = c.rcc.replay
  prep : d.rcc.prep = c.rcc.prep
  power : d.psc.power = c.psc.power
  table : d.tla = c.tla
  other : ∀ y, y ≠ x → d.bridge y = c.bridge y
  shorter : (d.bridge x).queue.length ≤ (c.bridge x).queue.length

theorem Examines.refl (x : Sub) (c : Core) : Examines x c c :=
  ⟨fun m hm => ⟨m, hm, rfl, rfl⟩, rfl, rfl, rfl, rfl, rfl, fun _ _ => rfl, le_rfl⟩

theorem Examines.trans {x : Sub} {c d f : Core} (h1 : Examines x c d) (h2 : Examines x d f) : Examines x c f where
  shadow := fun m hm => by
    obtain ⟨n, hn, he, hl⟩ := h2.shadow m hm
    obtain ⟨k, hk, he', hl'⟩ := h1.shadow n hn
    exact ⟨k, hk, he.trans he', hl.trans hl'⟩
  bus := h2.bus.trans h1.bus
  replay := h2.replay.trans h1.replay
  prep := h2.prep.trans h1.prep
  power := h2.power.trans h1.power
  table := h2.table.trans h1.table
  other := fun y hy => (h2.other y hy).trans (h1.other y hy)
  shorter := h2.shorter.trans h1.shorter

theorem Examines.isOn {x : Sub} {c d : Core} (h : Examines x c d) (f : Device) : d.isOn f = c.isOn f := by
  unfold Core.isOn Core.power
  rw [h.power]

theorem store_entry (s : ShadowEntry) (o : Option Sub) (v : Half) :
    (s.store o v).entry = s.entry ∧ (s.store o v).live = s.live := by
  unfold ShadowEntry.store
  split
  · exact ⟨rfl, rfl⟩
  · split <;> exact ⟨rfl, rfl⟩

theorem storeValue_examines (e : Env) (x : Sub) (o : Option Sub) (d : Device) (reg : Byte) (v : Half) (c : Core) :
    Examines x c (storeValue e o d reg v c) := by
  unfold storeValue
  split
  · exact Examines.refl x c
  · refine { Examines.refl x c with shadow := fun m hm => ?_ }
    rcases mem_modify hm with hm | ⟨n, hn, rfl⟩
    · exact ⟨m, hm, rfl, rfl⟩
    · exact ⟨n, hn, store_entry n o v⟩

theorem setBridge_other {c : Core} {x y : Sub} (h : y ≠ x) {b : Bridge} : (c.setBridge x b).bridge y = c.bridge y := by
  rw [Core.bridge, Core.setBridge, Pair.get_set, if_neg h]
  rfl

theorem setBridge_examines {x : Sub} {c : Core} {b : Bridge} (h : b.queue.length ≤ (c.bridge x).queue.length) :
    Examines x c (c.setBridge x b) :=
  { Examines.refl x c with
    other := fun y hy => setBridge_other hy
    shorter := by rwa [Core.setBridge_bridge] }

theorem setHead_examines (x : Sub) (t : Txn) (c : Core) : Examines x c (c.setHead x t) := by
  unfold Core.setHead
  split
  · exact Examines.refl x c
  · rename_i u rest hq
    exact setBridge_examines (by rw [hq]; exact le_rfl)

theorem post_examines (e : Env) (x : Sub) (port : Port) (ev : Event) (c : Core) : Examines x c (post e port ev c) := by
  have hb : ∀ y, (post e port ev c).bridge y = c.bridge y := fun y => by simp only [Core.bridge, post_rcc]
  exact ⟨fun m hm => ⟨m, by simpa using hm, rfl, rfl⟩, by simp, by simp, by simp, by simp, by simp, fun y _ => hb y,
    by rw [hb]⟩

theorem completeHead_examines (e : Env) (x : Sub) (outcome : Nat) (read : Option Half) (c : Core) :
    Examines x c (completeHead e x outcome read c) := by
  cases hq : (c.bridge x).queue with
  | nil => rw [completeHead_empty hq]; exact Examines.refl x c
  | cons t rest =>
    rw [completeHead_head hq]
    have h1 : Examines x c (c.setBridge x { c.bridge x with queue := rest }) :=
      setBridge_examines (by rw [hq]; exact Nat.le_succ _)
    exact (h1.trans (post_examines e x _ _ _)).trans { Examines.refl x _ with }

theorem examineFrom_examines (e : Env) (x : Sub) (n : Nat) (c : Core) : Examines x c (examineFrom e x n c) :=
  examineFrom_goes (Examines.refl x) (fun _ _ _ => Examines.trans) (fun c d reg v _ _ => storeValue_examines e x _ d reg v c)
    (fun c outcome read => completeHead_examines e x outcome read c) (fun c t => setHead_examines x t c) n c

theorem completeHead_bridge {e : Env} {x : Sub} {outcome : Nat} {read : Option Half} {c : Core} {t : Txn} {rest : List Txn}
    (hq : (c.bridge x).queue = t :: rest) : ((completeHead e x outcome read c).bridge x).queue = rest := by
  rw [completeHead_head hq]
  simp only [Core.bridge, Core.trigger_rcc, post_rcc, Core.setBridge, Pair.get_set_self]

theorem goToDevice_device (t : Txn) (c : Core) : (goToDevice t c).device = t.device := by
  unfold goToDevice
  simp only
  split
  · split
    · rfl
    · split <;> rfl
  · rfl

/-- A head goes into its restart series only with its device ON (R144). -/
theorem goToDevice_series {t : Txn} {c : Core} (h : (goToDevice t c).state = .restarting) : c.isOn t.device = true := by
  by_contra hoff
  unfold goToDevice at h
  simp only [if_neg hoff] at h
  cases h

/-- The head that an examination of the whole queue leaves is in its restart series only with its device ON (R144). -/
theorem examineFrom_series {e : Env} {x : Sub} (n : Nat) (c : Core) (hn : (c.bridge x).queue.length < n) :
    ∀ t ∈ ((examineFrom e x n c).bridge x).queue.head?, t.state = .restarting →
      (examineFrom e x n c).isOn t.device = true := by
  induction n generalizing c with
  | zero => exact absurd hn (Nat.not_lt_zero _)
  | succ n ih =>
    cases hq : (c.bridge x).queue with
    | nil =>
      have hex : examineHead e x c = (c, false) := by simp only [examineHead, hq]
      have h : examineFrom e x (n + 1) c = c := by simp only [examineFrom, hex]
      rw [h, hq]
      exact fun t ht => by cases ht
    | cons t rest =>
      have hrest : rest.length < n := by
        rw [hq, List.length_cons] at hn
        omega
      cases hf : finding e x t c with
      | absorb v =>
        have hex : examineHead e x c
            = (completeHead e x 4 none (storeValue e (some x) t.device t.register v c), true) := by
          simp only [examineHead, hq, hf]
        have h : examineFrom e x (n + 1) c
            = examineFrom e x n (completeHead e x 4 none (storeValue e (some x) t.device t.register v c)) := by
          simp only [examineFrom, hex]
        rw [h]
        exact ih _ (by rw [completeHead_bridge ((congrArg Bridge.queue (storeValue_bridge _ _ _ _ x)).trans hq)]
                       exact hrest)
      | fromShadow v =>
        have hex : examineHead e x c = (completeHead e x 5 (some v) c, true) := by simp only [examineHead, hq, hf]
        have h : examineFrom e x (n + 1) c = examineFrom e x n (completeHead e x 5 (some v) c) := by
          simp only [examineFrom, hex]
        rw [h]
        exact ih _ (by rw [completeHead_bridge hq]; exact hrest)
      | defer =>
        have hex : examineHead e x c
            = (c.setHead x { t with state := .deferred, trapped := false, request := false }, false) := by
          simp only [examineHead, hq, hf]
        have h : examineFrom e x (n + 1) c
            = c.setHead x { t with state := .deferred, trapped := false, request := false } := by
          simp only [examineFrom, hex]
        rw [h]
        intro u hu hs
        rw [show (c.setHead x { t with state := .deferred, trapped := false, request := false }).bridge x
            = { c.bridge x with queue := { t with state := .deferred, trapped := false, request := false } :: rest } by
          simp only [Core.setHead, hq, Core.setBridge_bridge]] at hu
        cases hu
        cases hs
      | toDevice =>
        have hex : examineHead e x c = (c.setHead x (goToDevice t c), false) := by simp only [examineHead, hq, hf]
        have h : examineFrom e x (n + 1) c = c.setHead x (goToDevice t c) := by simp only [examineFrom, hex]
        rw [h]
        intro u hu hs
        rw [show (c.setHead x (goToDevice t c)).bridge x = { c.bridge x with queue := goToDevice t c :: rest } by
          simp only [Core.setHead, hq, Core.setBridge_bridge]] at hu
        cases hu
        rw [(setHead_examines x _ c).isOn, goToDevice_device]
        exact goToDevice_series hs

theorem Core.Live.congr {e : Env} {c d : Core} (w : c.Live e) (hr : d.rcc = c.rcc) (hp : d.psc.power = c.psc.power)
    (ht : ∀ r ∈ d.tla.table, stagedPresent e r.staged) : d.Live e := by
  have hon : d.isOn = c.isOn := by
    funext f
    unfold Core.isOn Core.power
    rw [hp]
  have hb : d.bridge = c.bridge := by
    funext x
    unfold Core.bridge
    rw [hr]
  exact ⟨by rw [hr, hon]; exact w.live, by rw [hr, hon]; exact w.bus, by rw [hr, hon]; exact w.replay,
    by unfold seriesLaw; rw [hb, hon]; exact w.series, by unfold Prep.Law; rw [hr, hon]; exact w.prep, ht⟩

theorem edit_live {e : Env} {c : Core} (w : c.Live e) (h : Handle) {f : Reservation → Reservation}
    (hs : ∀ r, ∀ s ∈ (f r).staged, s ∈ r.staged ∨ e.has s.device = true) : (c.editReservation h f).Live e := by
  refine w.congr rfl rfl fun q hq => ?_
  obtain ⟨r, hr, rfl⟩ := mem_editReservation.mp hq
  split
  · intro s hs'
    rcases hs r s hs' with hs' | hs'
    · exact w.staged r hr s hs'
    · exact hs'
  · exact w.staged r hr

/-- What an examination leaves keeps the law, when the head it leaves does. -/
theorem Examines.keepsLive {e : Env} {x : Sub} {c d : Core} (h : Examines x c d) (w : c.Live e)
    (hs : ∀ t ∈ (d.bridge x).queue.head?, t.state = .restarting → d.isOn t.device = true) : d.Live e := by
  have hon : d.isOn = c.isOn := funext h.isOn
  refine ⟨fun m hm hl => ?_, by rw [h.bus, hon]; exact w.bus, by rw [h.replay, hon]; exact w.replay, fun y => ?_,
    by unfold Prep.Law; rw [h.prep, hon]; exact w.prep, by rw [h.table]; exact w.staged⟩
  · obtain ⟨n, hn, he, hl'⟩ := h.shadow m hm
    rw [hon, he]
    exact w.live n hn (hl' ▸ hl)
  · by_cases hy : y = x
    · subst hy
      exact ⟨h.shorter.trans (w.series y).1, hs⟩
    · unfold seriesLaw
      rw [h.other y hy, hon]
      exact w.series y

/-- An examination reaches every transaction of a queue of four at most (R139, R141). -/
theorem examine_series {e : Env} {x : Sub} {c : Core} (hn : (c.bridge x).queue.length ≤ 4) :
    ∀ t ∈ ((examine e x c).bridge x).queue.head?, t.state = .restarting → (examine e x c).isOn t.device = true :=
  examineFrom_series _ c (Nat.lt_succ_of_le hn)

theorem examine_live {e : Env} {c : Core} (w : c.Live e) (x : Sub) : (examine e x c).Live e :=
  (examineFrom_examines e x _ c).keepsLive w (examine_series (w.series x).1)

theorem completeAndExamine_live {e : Env} {c : Core} (w : c.Live e) (x : Sub) (outcome : Nat) (read : Option Half) :
    (completeAndExamine e x outcome read c).Live e := by
  have h := completeHead_examines e x outcome read c
  exact (h.trans (examineFrom_examines e x _ _)).keepsLive w (examine_series (h.shorter.trans (w.series x).1))

theorem storeValue_live {e : Env} {c : Core} (w : c.Live e) (o : Option Sub) (d : Device) (reg : Byte) (v : Half) :
    (storeValue e o d reg v c).Live e := by
  have h := storeValue_examines e .A o d reg v c
  refine h.keepsLive w ?_
  rw [storeValue_bridge, show (storeValue e o d reg v c).isOn = c.isOn from funext h.isOn]
  exact (w.series .A).2

theorem setHead_live {e : Env} {c : Core} (w : c.Live e) (x : Sub) {t : Txn}
    (ht : t.state = .restarting → c.isOn t.device = true) : (c.setHead x t).Live e := by
  have h := setHead_examines x t c
  refine h.keepsLive w ?_
  rw [show (c.setHead x t).isOn = c.isOn from funext h.isOn]
  cases hq : (c.bridge x).queue with
  | nil =>
    rw [show c.setHead x t = c by simp only [Core.setHead, hq], hq]
    exact fun u hu => nomatch hu
  | cons u rest =>
    rw [show (c.setHead x t).bridge x = { c.bridge x with queue := t :: rest } by
      simp only [Core.setHead, hq, Core.setBridge_bridge]]
    intro v hv
    cases hv
    exact ht

theorem mem_modify_at {α : Type} {l : List α} {i : Nat} {g : α → α} {a : α} (h : a ∈ l.modify i g) :
    a ∈ l ∨ ∃ hi : i < l.length, a = g l[i] := by
  obtain ⟨j, hj, hget⟩ := List.mem_iff_getElem.mp h
  rw [List.getElem_modify] at hget
  have hj' : j < l.length := by simpa using hj
  split at hget
  · rename_i hij
    subst hij
    exact .inr ⟨hj', hget.symm⟩
  · exact .inl (hget ▸ List.getElem_mem hj')

theorem mapIndex_spec {e : Env} {c : Core} {d : Device} {reg : Byte} {i : Nat} (h : c.mapIndex e d reg = some i) :
    ∃ hi : i < c.rcc.shadow.length, c.rcc.shadow[i].entry.device = d := by
  unfold Core.mapIndex at h
  split at h
  · obtain ⟨hi, hp, -⟩ := List.findIdx?_eq_some_iff_getElem.mp h
    rw [Bool.and_eq_true] at hp
    exact ⟨hi, of_decide_eq_true hp.1⟩
  · cases h

/-- A live entry takes a value only of a device that is ON (R128). -/
theorem setLive_live {e : Env} {c : Core} (w : c.Live e) {d : Device} (reg : Byte) {v : Option Half}
    (hv : v = none ∨ c.isOn d = true) : (setLive e d reg v c).Live e := by
  unfold setLive
  split
  · exact w
  · rename_i i hi
    refine ⟨fun m hm hl => ?_, w.bus, w.replay, w.series, w.prep, w.staged⟩
    obtain ⟨hlt, hdev⟩ := mapIndex_spec hi
    rcases mem_modify_at hm with hm | ⟨hlt', rfl⟩
    · exact w.live m hm hl
    · rcases hv with rfl | hv
      · cases hl
      · exact hdev ▸ hv

theorem tearsDown_live {e : Env} {c : Core} (w : c.Live e) (x : Sub) : (rccTeardown x c).Live e := by
  obtain ⟨b, heq⟩ := rccTeardown_frame x c
  rw [heq]
  refine ⟨fun m hm hl => ?_, fun t ht => ?_, w.replay, fun y => ?_, w.prep, w.staged⟩
  · obtain ⟨n, hn, rfl⟩ := List.mem_map.mp hm
    exact w.live n hn hl
  · obtain ⟨u, hu, rfl⟩ := Option.mem_map.mp ht
    have h := w.bus u hu
    unfold Transfer.orphan
    split <;> exact h
  · unfold seriesLaw
    rw [show ∀ r : Core, r.rcc.bridges = c.rcc.bridges.set x { c.bridge x with queue := [] }
        → r.bridge y = if y = x then { c.bridge x with queue := [] } else c.bridge y from
      fun r hr => by unfold Core.bridge; rw [hr, Pair.get_set]; rfl]
    · split
      · exact ⟨Nat.zero_le _, fun t ht => nomatch ht⟩
      · exact w.series y
    · rfl

theorem isOn_setPower (c : Core) (d : Device) (p : Power) (f : Device) :
    (c.setPower d p).isOn f = if f = d then decide (p = .on) else c.isOn f := by
  unfold Core.isOn Core.power Core.setPower
  simp only [Quad.get_set]
  split <;> rfl

/-- A device that leaves ON takes its live entries, its replay writes and its transfer with it (R128, R129, R130). -/
theorem leavesOn_live {e : Env} {c : Core} (w : c.Live e) {d : Device} (p : Power)
    (hp : ∀ q ∈ c.rcc.prep, q.step ≠ .awaitingPower → d ∉ q.awaited)
    (hs : ∀ x, ∀ t ∈ (c.bridge x).queue.head?, t.device = d → t.state ≠ .restarting) :
    (leavesOn d (c.setPower d p)).Live e := by
  have hon : ∀ f, f ≠ d → c.isOn f = true → (leavesOn d (c.setPower d p)).isOn f = true := fun f hf h => by
    have := isOn_setPower c d p f
    rw [if_neg hf] at this
    exact this.trans h
  refine ⟨fun m hm hl => ?_, fun t ht => ?_, fun q hq => ?_, fun x => ?_, fun q hq => ?_, w.staged⟩
  · obtain ⟨n, hn, rfl⟩ := List.mem_map.mp hm
    split at hl
    · cases hl
    · rename_i hd
      rw [if_neg hd]
      exact hon _ hd (w.live n hn hl)
  · obtain ⟨u, hu, rfl⟩ := Option.mem_map.mp ht
    unfold Transfer.leave
    split
    · exact .inr (.inl rfl)
    · rename_i hd
      exact (w.bus u hu).imp_right (Or.imp_right (hon _ hd))
  · obtain ⟨hq, hd⟩ := List.mem_filter.mp hq
    exact hon _ (of_decide_eq_true hd) (w.replay q hq)
  · refine ⟨(w.series x).1, fun t ht hr => ?_⟩
    exact hon _ (fun hd => hs x t ht hd hr) ((w.series x).2 t ht hr)
  · obtain ⟨h1, h2, h3⟩ := w.prep q hq
    exact ⟨h1, h2, fun hstep f hf => hon f (fun hfd => hp q hq hstep (hfd ▸ hf)) (h3 hstep f hf)⟩

/-- A device that was not ON leaves nothing behind when its power changes. -/
theorem setPower_live {e : Env} {c : Core} (w : c.Live e) {d : Device} (p : Power) (h : c.isOn d = false) :
    (c.setPower d p).Live e := by
  have hon : ∀ f, c.isOn f = true → (c.setPower d p).isOn f = true := fun f hf => by
    rw [isOn_setPower, if_neg (fun hfd => by rw [hfd, h] at hf; cases hf)]
    exact hf
  refine ⟨fun m hm hl => hon _ (w.live m hm hl), fun t ht => (w.bus t ht).imp_right (Or.imp_right (hon _)),
    fun q hq => hon _ (w.replay q hq), fun x => ⟨(w.series x).1, fun t ht hr => hon _ ((w.series x).2 t ht hr)⟩,
    fun q hq => ?_, w.staged⟩
  obtain ⟨h1, h2, h3⟩ := w.prep q hq
  exact ⟨h1, h2, fun hstep f hf => hon f (h3 hstep f hf)⟩

/-- A transfer of the preparation that is dropped keeps its device. -/
theorem drop_bus {c : Core} (on : Device → Prop)
    (w : ∀ t ∈ c.rcc.bus, t.void = true ∨ t.deviceLeft = true ∨ on t.device) :
    ∀ t ∈ c.rcc.bus.map Transfer.drop, t.void = true ∨ t.deviceLeft = true ∨ on t.device := by
  intro t ht
  obtain ⟨u, hu, rfl⟩ := Option.mem_map.mp ht
  have h := w u hu
  unfold Transfer.drop
  split <;> exact h

theorem closePrep_live {e : Env} {c : Core} (w : c.Live e) (h : Handle) :
    ({ c with rcc := c.rcc.closePrep h } : Core).Live e := by
  unfold Rcc.closePrep
  split
  · exact w
  · split
    · exact ⟨w.live, drop_bus (fun f => c.isOn f = true) w.bus, w.replay, w.series, fun q hq => (nomatch hq), w.staged⟩
    · exact w

/-- Every change keeps the law of the live table. -/
theorem Change.keepsLive {g : Claims} {e : Env} {c d : Core} (h : Change g e c d) (hg : g.live) (w : c.Live e) :
    d.Live e := by
  cases h with
  | post port ev => exact w.congr (by simp) (by simp) (by simpa using w.staged)
  | empty port =>
    obtain ⟨q, s, b, heq⟩ := emptyQueue_frame port c
    rw [heq]
    exact w.congr rfl rfl w.staged
  | read port =>
    obtain ⟨q, s, b, heq⟩ := readQueue_frame port c
    rw [heq]
    exact w.congr rfl rfl w.staged
  | drop h free => exact w.congr rfl rfl fun r hr => w.staged r (mem_dropRecord.mp hr).1
  | put r hq hsess hs =>
    obtain ⟨q, hq, -, -, hst⟩ := hq (g.table_of_works (g.works_of_live hg))
    have hstaged : stagedPresent e r.staged := fun s hs => w.staged q hq s (hst s hs)
    refine w.congr rfl rfl fun u hu => ?_
    rcases mem_putRecord.mp hu with rfl | ⟨hu, -⟩
    · exact hstaged
    · exact w.staged u hu
  | create r room hh alive hsess hst hs hn =>
    refine w.congr rfl rfl fun u hu => ?_
    rcases mem_putRecord.mp hu with rfl | ⟨hu, -⟩
    · rw [hst]
      exact fun s hs => nomatch hs
    · exact w.staged u hu
  | touch h f hf => exact edit_live w h hf.staged
  | prepares h _ => exact edit_live w h fun _ _ hs => .inl hs
  | reports h b _ => exact edit_live w h fun _ _ hs => nomatch hs
  | activates h _ => exact edit_live w h fun _ _ hs => .inl hs
  | seeks h _ => exact edit_live w h fun _ _ hs => .inl hs
  | store o d reg v ha => exact storeValue_live w o d reg v
  | live d reg v ho => exact setLive_live w reg (ho hg)
  | examined x => exact examine_live w x
  | completed x outcome read => exact completeAndExamine_live w x outcome read
  | head x t hs => exact setHead_live w x (hs hg)
  | join x t ticket ha hl hs =>
    refine ⟨w.live, w.bus, w.replay, fun y => ?_, w.prep, w.staged⟩
    by_cases hy : y = x
    · subst hy
      unfold seriesLaw
      rw [Core.setBridge_bridge]
      refine ⟨by simpa using hl, fun u hu hr => ?_⟩
      cases hq : (c.bridge y).queue with
      | nil =>
        rw [hq] at hu
        cases hu
        exact absurd hr hs
      | cons v rest =>
        rw [hq] at hu
        cases hu
        exact (w.series y).2 _ (by rw [hq]; rfl) hr
    · unfold seriesLaw
      rw [setBridge_other hy]
      exact w.series y
  | powered d =>
    have hone : ∀ b : Bridge, b.queue.length ≤ 4 ∧ (∀ t ∈ b.queue.head?, t.state = .restarting → c.isOn t.device = true)
        → (b.powered d).queue.length ≤ 4
          ∧ ∀ t ∈ (b.powered d).queue.head?, t.state = .restarting → c.isOn t.device = true := by
      intro b ⟨hl, hh⟩
      refine ⟨by simpa [Bridge.powered] using hl, fun t ht hr => ?_⟩
      rw [Bridge.powered, List.head?_map] at ht
      obtain ⟨u, hu, rfl⟩ := Option.mem_map.mp ht
      have := hh u hu
      unfold Txn.powered at hr ⊢
      split at hr
      · rename_i hd
        rw [if_pos hd]
        exact this hr
      · rename_i hd
        rw [if_neg hd]
        exact this hr
    refine ⟨w.live, w.bus, w.replay, fun y => ?_, w.prep, w.staged⟩
    cases y
    · exact hone _ (w.series .A)
    · exact hone _ (w.series .B)
  | transfer t ho ha =>
    refine ⟨w.live, fun u hu => ?_, w.replay, w.series, w.prep, w.staged⟩
    cases hu
    exact .inr (.inr (ho hg))
  | idle => exact ⟨w.live, fun u hu => (nomatch hu), w.replay, w.series, w.prep, w.staged⟩
  | replay l hl =>
    exact ⟨w.live, w.bus, fun p hp => (hl hg p hp).elim (w.replay p) id, w.series, w.prep, w.staged⟩
  | marks a s x => exact ⟨w.live, w.bus, w.replay, w.series, w.prep, w.staged⟩
  | view v hv => exact ⟨w.live, w.bus, w.replay, w.series, w.prep, w.staged⟩
  | begins p r hr hh ho hs hn hst hd hstep =>
    refine ⟨w.live, drop_bus (fun f => c.isOn f = true) w.bus, w.replay, w.series, fun q hq => ?_, w.staged⟩
    cases hq
    have hpresent : stagedPresent e p.staged := hst ▸ w.staged r hr
    exact ⟨hpresent, fun s hs => hd s hs (hpresent s hs), fun hne => absurd hstep hne⟩
  | proceeds p q hp hh ho hst ha hstep =>
    refine ⟨w.live, w.bus, w.replay, w.series, fun u hu => ?_, w.staged⟩
    cases hu
    obtain ⟨h1, h2, h3⟩ := w.prep p hp
    refine ⟨hst ▸ h1, hst ▸ ha ▸ h2, fun hne => ?_⟩
    rcases hstep hne with hp | hall
    · exact ha ▸ h3 hp
    · exact hall
  | ends => exact ⟨w.live, w.bus, w.replay, w.series, fun q hq => (nomatch hq), w.staged⟩
  | closes h => exact closePrep_live w h
  | tearsDown x => exact tearsDown_live w x
  | sleep p hp => exact w.congr rfl hp w.staged
  | power d p ho => exact setPower_live w p ho
  | leaves d p hl => exact leavesOn_live w p (hl hg).1 (hl hg).2
  | _ => exact w.congr rfl rfl w.staged

/-! ### Reactions -/

/-- Every change keeps what is claimed. -/
theorem Change.sound {g : Claims} {e : Env} {c d : Core} (h : Change g e c d) (w : Sound g e c) : Sound g e d :=
  ⟨fun hg => h.tableLaw hg (w.table hg), fun hg => h.works hg (w.works hg), fun hg => h.sessionsLaw hg (w.sessions hg),
    fun hg => h.keepsLive hg (w.live hg)⟩

/-- A reaction from a state of which the claims hold: one change after another. -/
def Goes (g : Claims) (e : Env) (c d : Core) : Prop := Sound g e c → Relation.ReflTransGen (Change g e) c d

/-- What every change keeps, a run of changes keeps. -/
theorem changes_keep {g : Claims} {e : Env} {c d : Core} (h : Relation.ReflTransGen (Change g e) c d) {law : Core → Prop}
    (hlaw : ∀ a b, Change g e a b → law a → law b) (hc : law c) : law d := by
  induction h with
  | refl => exact hc
  | tail _ hstep ih => exact hlaw _ _ hstep ih

section
variable {g : Claims} {e : Env} {c d f : Core}

theorem Goes.sound (h : Goes g e c d) (w : Sound g e c) : Sound g e d :=
  changes_keep (h w) (fun _ _ hstep => hstep.sound) w

theorem Goes.refl (g : Claims) (e : Env) (c : Core) : Goes g e c c := fun _ => .refl

theorem Goes.trans (h1 : Goes g e c d) (h2 : Goes g e d f) : Goes g e c f := fun w => (h1 w).trans (h2 (h1.sound w))

theorem Change.goes (h : Change g e c d) : Goes g e c d := fun _ => .single h

/-- A reaction may be judged by the claims that hold where it starts. -/
theorem goes_of_sound (h : Sound g e c → Goes g e c d) : Goes g e c d := fun w => h w w

/-- What every change keeps, a reaction keeps. -/
theorem Goes.keeps (h : Goes g e c d) (w : Sound g e c) {law : Core → Prop} (hlaw : ∀ a b, Change g e a b → law a → law b)
    (hc : law c) : law d := changes_keep (h w) hlaw hc

theorem Goes.narrower (h : Goes g e c d) (w : Sound g e c) (hg : g.works) : Narrower c d :=
  h.keeps w (law := fun f => Narrower c f) (fun _ _ hstep hc => hc.trans (hstep.narrower hg)) (Narrower.refl c)

end

/-! ### Calm reactions -/

/-- What a calm reaction leaves. -/
structure Abides (c d : Core) : Prop where
  attached : ∀ x, d.attached x = c.attached x
  owns : ∀ x h, d.ownsSession x h = c.ownsSession x h
  csc : d.csc = c.csc

theorem Abides.refl (c : Core) : Abides c c := ⟨fun _ => rfl, fun _ _ => rfl, rfl⟩

theorem Abides.trans {c d f : Core} (h1 : Abides c d) (h2 : Abides d f) : Abides c f :=
  ⟨fun x => (h2.attached x).trans (h1.attached x), fun x h => (h2.owns x h).trans (h1.owns x h), h2.csc.trans h1.csc⟩

theorem abides_of {c d : Core} (ha : ∀ x, d.attached x = c.attached x) (hs : d.smg = c.smg) (hc : d.csc = c.csc) :
    Abides c d := ⟨ha, fun x h => ownsSession_congr hs x h, hc⟩

theorem post_abides (e : Env) (port : Port) (ev : Event) (c : Core) : Abides c (post e port ev c) :=
  abides_of (by simp) (by simp) (by simp)

theorem setHead_abides (x : Sub) (t : Txn) (c : Core) : Abides c (c.setHead x t) := by
  unfold Core.setHead
  split
  · exact Abides.refl c
  · exact abides_of (fun _ => rfl) rfl rfl

theorem storeValue_abides (e : Env) (o : Option Sub) (d : Device) (reg : Byte) (v : Half) (c : Core) :
    Abides c (storeValue e o d reg v c) := by
  rcases storeValue_frame e o d reg v c with h | ⟨m, h⟩ <;> rw [h]
  · exact Abides.refl c
  · exact abides_of (fun _ => rfl) rfl rfl

theorem completeHead_abides (e : Env) (x : Sub) (outcome : Nat) (read : Option Half) (c : Core) :
    Abides c (completeHead e x outcome read c) := by
  cases hq : (c.bridge x).queue with
  | nil => rw [completeHead_empty hq]; exact Abides.refl c
  | cons t rest =>
    rw [completeHead_head hq]
    have h1 : Abides c (c.setBridge x { c.bridge x with queue := rest }) := abides_of (fun _ => rfl) rfl rfl
    exact (h1.trans (post_abides e _ _ _)).trans (abides_of (fun _ => rfl) rfl rfl)

theorem examine_abides (e : Env) (x : Sub) (c : Core) : Abides c (examine e x c) :=
  examineFrom_goes Abides.refl (fun _ _ _ => Abides.trans) (fun c d reg v _ _ => storeValue_abides e _ d reg v c)
    (fun c outcome read => completeHead_abides e x outcome read c) (fun c t => setHead_abides x t c) _ c

/-- No change attaches or detaches a stack. -/
theorem Change.attached {g : Claims} {e : Env} {c d : Core} (h : Change g e c d) (x : Sub) : d.attached x = c.attached x := by
  cases h with
  | post port ev => exact (post_abides e port ev c).attached x
  | empty port => exact emptyQueue_attached port c x
  | read port => exact readQueue_attached port c x
  | store o d reg v ha => exact (storeValue_abides e o d reg v c).attached x
  | live d reg v ho =>
    rcases setLive_frame e d reg v c with h | ⟨m, h⟩ <;> rw [h]
    rfl
  | examined y => exact (examine_abides e y c).attached x
  | completed y outcome read => exact ((completeHead_abides e y outcome read c).trans (examine_abides e y _)).attached x
  | head y t hs => exact (setHead_abides y t c).attached x
  | tearsDown y =>
    obtain ⟨b, heq⟩ := rccTeardown_frame y c
    rw [heq]
    rfl
  | _ => rfl

/-- A change of a calm reaction. -/
theorem Change.abides {g : Claims} {e : Env} {c d : Core} (h : Change g e c d) (hg : g.calm) : Abides c d := by
  cases h with
  | post port ev => exact post_abides e port ev c
  | empty port =>
    obtain ⟨q, s, b, heq⟩ := emptyQueue_frame port c
    exact abides_of (emptyQueue_attached port c) (by rw [heq]) (by rw [heq])
  | read port =>
    obtain ⟨q, s, b, heq⟩ := readQueue_frame port c
    exact abides_of (readQueue_attached port c) (by rw [heq]) (by rw [heq])
  | search x s hs h => exact absurd hg h
  | sessions m h1 h2 h3 h => exact ⟨fun _ => rfl, h hg, rfl⟩
  | store o d reg v ha => exact storeValue_abides e o d reg v c
  | live d reg v ho =>
    rcases setLive_frame e d reg v c with h | ⟨m, h⟩ <;> rw [h]
    · exact Abides.refl c
    · exact abides_of (fun _ => rfl) rfl rfl
  | examined x => exact examine_abides e x c
  | completed x outcome read => exact (completeHead_abides e x outcome read c).trans (examine_abides e x _)
  | head x t hs => exact setHead_abides x t c
  | tearsDown x =>
    obtain ⟨b, heq⟩ := rccTeardown_frame x c
    rw [heq]
    exact abides_of (fun _ => rfl) rfl rfl
  | _ => exact abides_of (fun _ => rfl) rfl rfl

/-- Nothing is claimed, and the reaction is calm. -/
def Claims.calmOnly : Claims := ⟨False, False, False, False, True, False.elim, False.elim⟩

/-- What a reaction leaves that is calm whatever is claimed. -/
theorem Goes.abides {e : Env} {c d : Core} (h : Goes Claims.calmOnly e c d) : Abides c d :=
  h.keeps ⟨False.elim, False.elim, False.elim, False.elim⟩ (law := fun f => Abides c f)
    (fun _ _ hstep hc => hc.trans (hstep.abides trivial)) (Abides.refl c)

/-- Nothing is claimed. -/
def Claims.nothing : Claims := ⟨False, False, False, False, False, False.elim, False.elim⟩

/-- A reaction attaches and detaches no stack. -/
theorem Goes.attached {e : Env} {c d : Core} (h : Goes Claims.nothing e c d) (x : Sub) : d.attached x = c.attached x :=
  h.keeps ⟨False.elim, False.elim, False.elim, False.elim⟩ (law := fun f => f.attached x = c.attached x)
    (fun _ _ hstep hc => (hstep.attached x).trans hc) rfl

end Sys2Proof.Machine

/-! PROOFS. The reactions of the RF Context Controller and of the Power and Sleep Controller, one change after another
(R124 to R172). -/

namespace Sys2Proof.Machine

variable {g : Claims} {e : Env}

/-! ### Posting, triggering, folding -/

theorem post_goes (port : Port) (ev : Event) (c : Core) : Goes g e c (post e port ev c) := (Change.post port ev).goes

theorem trigger_goes (c : Core) : Goes g e c c.trigger := (Change.evaluate true).goes

theorem tell_goes (n : Notice) (c : Core) : Goes g e c (c.tell n) := (Change.notices _).goes

theorem setSleep_goes (s : Sleep) (c : Core) : Goes g e c (c.setSleep s) :=
  (Change.sleep { c.psc with sleep := s } rfl).goes

theorem mainClock_goes (c : Core) : Goes g e c c.mainClock :=
  (Change.sleep { c.psc with divider := 0, fraction := 0 } rfl).goes

theorem foldl_goes {α : Type} {f : Core → α → Core} (h : ∀ c a, Goes g e c (f c a)) (l : List α) (c : Core) :
    Goes g e c (l.foldl f c) := by
  induction l generalizing c with
  | nil => exact Goes.refl g e c
  | cons a l ih => exact (h c a).trans (ih _)

theorem postAll_goes (port : Port) (evs : List Event) (c : Core) : Goes g e c (postAll e port evs c) :=
  foldl_goes (fun c ev => post_goes port ev c) evs c

/-! ### What leaves the table, the preparation and the view -/

theorem SameWorks.refl (c : Core) : SameWorks c c := ⟨rfl, rfl, rfl⟩

theorem SameWorks.trans {c d f : Core} (h1 : SameWorks c d) (h2 : SameWorks d f) : SameWorks c f :=
  ⟨h2.1.trans h1.1, h2.2.1.trans h1.2.1, h2.2.2.trans h1.2.2⟩

theorem SameWorks.free {c d : Core} (h : SameWorks c d) {k : Handle} (hf : c.Free k) : d.Free k := by
  obtain ⟨ht, hp, hv⟩ := h
  unfold Core.Free
  rw [ht, hp, hv]
  exact hf

theorem foldl_same {α : Type} {f : Core → α → Core} (h : ∀ c a, SameWorks c (f c a)) (l : List α) (c : Core) :
    SameWorks c (l.foldl f c) := by
  induction l generalizing c with
  | nil => exact SameWorks.refl c
  | cons a l ih => exact (h c a).trans (ih _)

theorem post_same (port : Port) (ev : Event) (c : Core) : SameWorks c (post e port ev c) := ⟨by simp, by simp, by simp⟩

theorem tableNotice_same (c : Core) : SameWorks c (tableNotice e c) := by
  obtain ⟨p, b, h⟩ := tableNotice_frame e c
  rw [h]
  exact SameWorks.refl c

theorem fall_same (c : Core) (d : Device) : SameWorks c (fall e c d) := by
  obtain ⟨t, -, h⟩ | ⟨-, h⟩ | ⟨-, h⟩ := fall_cases e c d <;> rw [h] <;> exact SameWorks.refl c

theorem powerDownCheck_same (c : Core) (d : Device) : SameWorks c (powerDownCheck e c d) := by
  unfold powerDownCheck
  split
  · exact fall_same c d
  · exact SameWorks.refl c

theorem windowEndNotice_same (c : Core) : SameWorks c (windowEndNotice e c) :=
  (foldl_same (fun c d => powerDownCheck_same c d) Device.all c).trans (tableNotice_same _)

theorem closeView_same (t : Time) (c : Core) : SameWorks c (closeView e t c) := by
  obtain ⟨htla, -, -, hrcc, -⟩ := closeView_leaves e t c
  exact sameWorks_of_rcc htla hrcc

theorem searchEnded_same (r : Reservation) (c : Core) : SameWorks c (searchEnded e r c) := by
  unfold searchEnded
  split
  · split
    · exact post_same _ _ _
    · exact SameWorks.refl c
  · exact SameWorks.refl c

theorem examineIfHeld_same (x : Sub) (c : Core) : SameWorks c (examineIfHeld e x c) := by
  unfold examineIfHeld
  split
  · exact examine_same e x c
  · exact SameWorks.refl c

/-! ### The RF Context Controller -/

theorem examineIfHeld_goes (x : Sub) (c : Core) : Goes g e c (examineIfHeld e x c) := by
  unfold examineIfHeld
  split
  · exact (Change.examined x).goes
  · exact Goes.refl g e c

theorem examineWaiting_goes (d : Device) (c : Core) : Goes g e c (examineWaiting e d c) := by
  have hone : ∀ x c, Goes g e c (if c.headWaitsFor x d then examine e x c else c) := fun x c => by
    split
    · exact (Change.examined x).goes
    · exact Goes.refl g e c
  exact (hone .A c).trans (hone .B _)

theorem replayShortened_goes (d : Device) (c : Core) : Goes g e c (replayShortened e d c) := by
  unfold replayShortened
  split
  · exact Goes.refl g e c
  · exact examineWaiting_goes d c

theorem viewNone_goes (h : Handle) (c : Core) : Goes g e c (viewNone e h c) := by
  unfold viewNone
  split
  · exact Goes.refl g e c
  · simp only
    split
    · have hclosed : Goes g e c { c with rcc := { c.rcc with view := none } } :=
        (Change.view none fun _ w hw => nomatch hw).goes
      exact (hclosed.trans (examineIfHeld_goes _ _)).trans (examineIfHeld_goes _ _)
    · exact Goes.refl g e c

/-- The view shows a window of the table (R131). -/
theorem setView_goes {x : Sub} {h : Handle} {active : Bool} {c : Core} (hr : g.works → ∃ r ∈ c.tla.table,
    r.handle = h ∧ r.owner = x ∧ (r.state = .preparing ∨ r.state = .active)) :
    Goes g e c { c with rcc := { c.rcc with view := some ⟨x, h, active⟩ } } :=
  (Change.view _ fun hg w hw => by cases hw; exact hr hg).goes

theorem viewPreparing_goes {x : Sub} {h : Handle} {c : Core} (hr : g.works → ∃ r ∈ c.tla.table,
    r.handle = h ∧ r.owner = x ∧ (r.state = .preparing ∨ r.state = .active)) : Goes g e c (viewPreparing e x h c) := by
  rw [viewPreparing_eq]
  have hexamined := (setView_goes (e := e) (active := false) hr).trans (examineIfHeld_goes x.other _)
  split
  · exact hexamined.trans (Change.examined x).goes
  · exact hexamined

theorem viewActive_goes {x : Sub} {h : Handle} {c : Core} (hr : g.works → ∃ r ∈ c.tla.table,
    r.handle = h ∧ r.owner = x ∧ (r.state = .preparing ∨ r.state = .active)) : Goes g e c (viewActive x h c) :=
  (setView_goes hr).trans (Change.marks c.rcc.answering false c.rcc.lastServed).goes

theorem touches_degraded : Touches e fun r => { r with degraded := true } :=
  ⟨fun _ => rfl, fun _ => rfl, fun _ => rfl, fun _ => rfl, fun _ => rfl, fun _ => rfl, fun _ => rfl, fun _ _ h => .inl h⟩

theorem degradeView_goes (t : Transfer) (c : Core) : Goes g e c (degradeView e t c) := by
  unfold degradeView
  split
  · exact Goes.refl g e c
  · split
    · exact (Change.touch _ _ touches_degraded).goes
    · exact Goes.refl g e c

theorem dropPreparation_goes (h : Handle) (c : Core) : Goes g e c (dropPreparation e h c) :=
  ((Change.closes h).goes.trans (viewNone_goes h _)).trans (trigger_goes _)

/-- A preparation of a PREPARING window of the table begins (R131, R132). -/
theorem beginPreparation_goes {r : Reservation} {c : Core} (hr : r ∈ c.tla.table) (hs : r.state = .preparing)
    (hn : g.works → r.prepared = none) : Goes g e c (beginPreparation e r c) := by
  have hawaited : ∀ w ∈ r.staged, e.has w.device = true → w.device ∈ awaitedDevices e r c := fun w hw hd => by
    have hany : (r.staged.any fun u => decide (u.device = w.device)) = true :=
      List.any_eq_true.mpr ⟨w, hw, decide_eq_true rfl⟩
    rw [awaitedDevices, List.mem_filter, hd, hany]
    exact ⟨by cases w.device <;> decide, by simp⟩
  have hbegins := (Change.begins (g := g) (e := e) (c := c)
    { owner := r.owner, handle := r.handle, cls := r.cls, staged := r.staged, step := .awaitingPower, position := 0,
      tuningAtStart := c.rcc.tuningLive, tuningChanged := false, awaited := awaitedDevices e r c,
      requests := (awaitedDevices e r c).filter fun d => (c.power d).isOffOrFalling }
    r hr rfl rfl hs hn rfl hawaited rfl).goes
  exact hbegins.trans (viewPreparing_goes fun _ => ⟨r, hr, rfl, rfl, .inl hs⟩)

/-! ### The sleep state (R162 to R172) -/

theorem forceAwake_goes (c : Core) : Goes g e c (forceAwake c) := by
  unfold forceAwake
  split
  · exact Goes.refl g e c
  · exact setSleep_goes _ c
  · exact setSleep_goes _ c
  · exact (setSleep_goes _ c).trans (mainClock_goes _)
  · exact (setSleep_goes _ c).trans (mainClock_goes _)

theorem wakeReached_goes (c : Core) : Goes g e c (wakeReached e c) := by
  unfold wakeReached
  split
  · exact (setSleep_goes _ c).trans (trigger_goes _)
  · exact setSleep_goes _ c
  · exact setSleep_goes _ c
  · exact Goes.refl g e c

theorem recomputeWake_goes (c : Core) : Goes g e c (recomputeWake e c) := by
  have hone : ∀ (s : Sleep) (b : Bool) (c : Core),
      Goes g e c (if b then wakeReached e (c.setSleep s) else c.setSleep s) := fun s b c => by
    split
    · exact (setSleep_goes s c).trans (wakeReached_goes _)
    · exact setSleep_goes s c
  unfold recomputeWake
  split
  · split
    · exact setSleep_goes _ c
    · exact (setSleep_goes _ c).trans (trigger_goes _)
  · exact hone _ _ c
  · exact hone _ _ c
  · exact Goes.refl g e c

theorem isOn_of_power {c : Core} {d : Device} (h : c.power d ≠ .on) : c.isOn d = false := decide_eq_false h

/-! ### Device power (R155 to R158) -/

theorem setPower_goes {c : Core} {d : Device} (h : c.power d ≠ .on) (p : Power) : Goes g e c (c.setPower d p) :=
  (Change.power d p (isOn_of_power h)).goes

theorem rise_goes {c : Core} {d : Device} (h : c.power d ≠ .on) : Goes g e c (rise e d c) :=
  (forceAwake_goes c).trans (setPower_goes (by rwa [forceAwake_power]) _)

theorem raiseIfWanted_goes (c : Core) (d : Device) : Goes g e c (raiseIfWanted e c d) := by
  unfold raiseIfWanted
  split
  · rename_i h
    rw [Bool.and_eq_true, Bool.and_eq_true] at h
    have hoff : c.power d = .off := of_decide_eq_true h.1.2
    exact rise_goes (by rw [hoff]; exact fun h => nomatch h)
  · exact Goes.refl g e c

theorem tableNotice_goes (c : Core) : Goes g e c (tableNotice e c) :=
  (recomputeWake_goes c).trans (foldl_goes raiseIfWanted_goes Device.all _)

theorem freedNotice_goes (c : Core) : Goes g e c (freedNotice e c) := (tableNotice_goes c).trans (trigger_goes _)

/-- No preparation runs and no transaction is queued for the device. -/
def Core.Idle (c : Core) (d : Device) : Prop :=
  c.rcc.prep = none ∧ ∀ x, ∀ t ∈ (c.bridge x).queue, t.device ≠ d

/-- A device without work falls (R155, R158). -/
theorem fall_goes {c : Core} {d : Device} (h : g.live → c.Idle d) : Goes g e c (fall e c d) := by
  obtain ⟨t, hp, hf⟩ | ⟨hp, hf⟩ | ⟨-, hf⟩ := fall_cases e c d <;> rw [hf]
  · exact setPower_goes (by rw [hp]; exact fun h => nomatch h) _
  · refine (Change.leaves d _ fun hg => ⟨fun q hq => ?_, fun x t ht hd => ?_⟩).goes
    · rw [(h hg).1] at hq
      cases hq
    · exact absurd hd ((h hg).2 x t (List.mem_of_mem_head? ht))
  · exact Goes.refl g e c

theorem idle_of_holdsWork {c : Core} {d : Device} (h : c.rcc.holdsWork d = false) : c.Idle d := by
  have hnot : ¬ c.rcc.holdsWork d = true := by rw [h]; exact Bool.false_ne_true
  rw [holdsWork_iff] at hnot
  push Not at hnot
  obtain ⟨-, hq, -, hp⟩ := hnot
  refine ⟨?_, fun x t ht => hq x t ht⟩
  cases hprep : c.rcc.prep with
  | none => rfl
  | some p => rw [hprep] at hp; exact absurd rfl hp

theorem powerDownCheck_goes (c : Core) (d : Device) : Goes g e c (powerDownCheck e c d) := by
  unfold powerDownCheck
  split
  · rename_i h
    simp only [Bool.and_eq_true, Bool.not_eq_true'] at h
    exact fall_goes fun _ => idle_of_holdsWork h.1.2
  · exact Goes.refl g e c

theorem windowEndNotice_goes (c : Core) : Goes g e c (windowEndNotice e c) :=
  ((foldl_goes powerDownCheck_goes Device.all c).trans (tableNotice_goes _)).trans (trigger_goes _)

theorem fall_idle {c : Core} {d f : Device} (h : c.Idle f) : (fall e c d).Idle f := by
  obtain ⟨t, -, hf⟩ | ⟨-, hf⟩ | ⟨-, hf⟩ := fall_cases e c d <;> rw [hf] <;> exact h

theorem fallAll_goes {c : Core} (h : ∀ d, e.has d = true → g.live → c.Idle d) : Goes g e c (fallAll e c) := by
  have hfold : ∀ (l : List Device) (c : Core), (∀ d ∈ l, g.live → c.Idle d) → Goes g e c (l.foldl (fall e) c) := by
    intro l
    induction l with
    | nil => exact fun c _ => Goes.refl g e c
    | cons d l ih =>
      intro c hc
      exact (fall_goes (hc d (List.mem_cons_self ..))).trans
        (ih _ fun f hf hg => fall_idle (hc f (List.mem_cons_of_mem _ hf) hg))
  exact hfold _ c fun d hd => h d (List.mem_filter.mp hd).2

theorem evaluateSleep_goes (c : Core) : Goes g e c (evaluateSleep e c) := by
  unfold evaluateSleep
  simp only
  have hcleared : Goes g e c { c with evaluate := false } := (Change.evaluate false).goes
  split
  · rename_i hmay
    have hidle : ∀ d, e.has d = true → ({ c with evaluate := false } : Core).Idle d := fun d hd => by
      simp only [maySleep, Bool.and_eq_true, List.all_eq_true] at hmay
      obtain ⟨⟨⟨⟨⟨-, hwork⟩, -⟩, -⟩, -⟩, -⟩ := hmay
      have := hwork d (by cases d <;> decide)
      rw [hd, Bool.not_true, Bool.false_or, Bool.not_eq_true'] at this
      exact idle_of_holdsWork this
    refine (hcleared.trans (setSleep_goes _ _)).trans (fallAll_goes fun d hd _ => ?_)
    exact hidle d hd
  · exact hcleared

theorem settledDown_goes (t : Target) (w : Option Time) (c : Core) : Goes g e c (settledDown t w c) := by
  cases t
  · exact setSleep_goes _ c
  · exact (setSleep_goes _ c).trans (mainClock_goes _)

theorem finishFall_goes {c : Core} {d : Device} (h : c.power d ≠ .on) : Goes g e c (finishFall e d c) := by
  unfold finishFall
  split
  · exact rise_goes h
  · exact setPower_goes h _

theorem mem_insertReplay {new old : List Replay} {d : Device} {now : Time} {p : Replay}
    (h : p ∈ insertReplay new d now old) : p ∈ new ∨ p ∈ old := by
  unfold insertReplay at h
  simp only [List.mem_append] at h
  rcases h with (h | h) | h
  · exact .inr (List.takeWhile_sublist _ |>.subset h)
  · exact .inl h
  · exact .inr (List.dropWhile_sublist _ |>.subset h)

theorem replayList_device {shadow : List ShadowEntry} {d : Device} {now : Time} {p : Replay}
    (h : p ∈ replayList shadow d now) : p.device = d := by
  obtain ⟨i, -, hi⟩ := List.mem_filterMap.mp h
  split at hi
  · cases hi
  · split at hi
    · cases hi
      rfl
    · cases hi

/-- Requests for a device lapse in the preparation that runs. -/
theorem lapse_goes (d : Device) (c : Core) : Goes g e c { c with rcc := { c.rcc with
    prep := c.rcc.prep.map fun p => { p with requests := p.requests.filter fun q => decide (q ≠ d) } } } := by
  cases hp : c.rcc.prep with
  | none =>
    have : ({ c with rcc := { c.rcc with prep := none } } : Core) = c := by rw [← hp]
    rw [Option.map_none, this]
    exact Goes.refl g e c
  | some p =>
    exact (Change.proceeds p { p with requests := p.requests.filter fun q => decide (q ≠ d) } hp rfl rfl rfl rfl
      fun h => .inl h).goes

/-- A device that is not ON comes ON: its replay list is built, its requests lapse, the heads that wait are examined (R129,
R130). -/
theorem enterOn_goes {c : Core} {d : Device} (h : c.power d ≠ .on) : Goes g e c (enterOn e d c) := by
  have hon : Goes g e c (c.setPower d .on) := setPower_goes h _
  have hison : (c.setPower d .on).isOn d = true := by rw [isOn_setPower, if_pos rfl]; rfl
  have hreplay := (Change.replay (g := g) (e := e) (c := c.setPower d .on)
    (insertReplay (replayList c.rcc.shadow d e.count) d e.count c.rcc.replay) fun _ p hp => by
      rcases mem_insertReplay hp with hp | hp
      · exact .inr (by rw [replayList_device hp]; exact hison)
      · exact .inl hp).goes
  refine (((hon.trans hreplay).trans (Change.marks (c.rcc.answering.set d .pending)
    (c.rcc.poweredSince || decide (d = .transceiver)) c.rcc.lastServed).goes).trans (lapse_goes d _)).trans ?_
  exact (Change.powered d).goes.trans (examineWaiting_goes d _)

theorem consent_goes (x : Sub) (on : Bool) (c : Core) :
    Goes g e c { c with psc := { c.psc with consent := c.psc.consent.set x on } } :=
  (Change.sleep { c.psc with consent := c.psc.consent.set x on } rfl).goes

theorem setConsent_goes (x : Sub) (on : Bool) (c : Core) : Goes g e c (setConsent x on c) := by
  unfold setConsent
  simp only
  split
  · exact consent_goes x on c
  · exact (consent_goes x on c).trans (trigger_goes _)

theorem clearConsent_goes (x : Sub) (c : Core) : Goes g e c (clearConsent x c) := by
  unfold clearConsent
  simp only
  split
  · exact (consent_goes x false c).trans (trigger_goes _)
  · exact consent_goes x false c

theorem setHold_goes (on : Bool) (c : Core) : Goes g e c (setHold on c) := by
  have hheld : Goes g e c { c with psc := { c.psc with stayAwake := on } } :=
    (Change.sleep { c.psc with stayAwake := on } rfl).goes
  unfold setHold
  simp only
  split
  · exact hheld
  · exact hheld.trans (trigger_goes _)

end Sys2Proof.Machine

/-! PROOFS. The cell tables keep their law (R71, R79, R81, R83), and the reactions of the Measurement Unit and the Handover
Evaluator, one change after another. -/

namespace Sys2Proof.Machine

/-! ### The law of a cell table, slot by slot (R71) -/

/-- Two slots do not hold one key. -/
def apart (o p : Option Cell) : Prop := ∀ r ∈ o, ∀ q ∈ p, r.key ≠ q.key

theorem mem_records {slots : List (Option Cell)} {r : Cell} : r ∈ slots.filterMap id ↔ some r ∈ slots := by
  simp

/-- At most one record is SERVING exactly when any two that are have one key, where no key is there twice. -/
theorem serving_le_one {l : List Cell} (hp : l.Pairwise fun r q => r.key ≠ q.key) :
    (l.filter fun r => decide (r.role = .serving)).length ≤ 1
      ↔ ∀ r ∈ l, ∀ q ∈ l, r.role = .serving → q.role = .serving → r.key = q.key := by
  have hp' := hp.filter fun r => decide (r.role = .serving)
  have hmem : ∀ r, r ∈ l.filter (fun r => decide (r.role = .serving)) ↔ r ∈ l ∧ r.role = .serving := fun r => by
    rw [List.mem_filter, decide_eq_true_eq]
  constructor
  · intro hlen r hr q hq hrs hqs
    have h1 := (hmem r).mpr ⟨hr, hrs⟩
    have h2 := (hmem q).mpr ⟨hq, hqs⟩
    match hl : l.filter fun r => decide (r.role = .serving) with
    | [] => rw [hl] at h1; cases h1
    | [p] =>
      rw [hl, List.mem_singleton] at h1 h2
      rw [h1, h2]
    | p :: p' :: rest =>
      rw [hl] at hlen
      simp at hlen
  · intro h
    match hl : l.filter fun r => decide (r.role = .serving) with
    | [] => rw [hl]; exact Nat.zero_le _
    | [p] => rw [hl]; exact le_rfl
    | p :: q :: rest =>
      rw [hl] at hp'
      have hpm := (hmem p).mp (by rw [hl]; exact List.mem_cons_self ..)
      have hqm := (hmem q).mp (by rw [hl]; exact List.mem_cons_of_mem _ (List.mem_cons_self ..))
      exact absurd (h p hpm.1 q hqm.1 hpm.2 hqm.2) (List.rel_of_pairwise_cons hp' (List.mem_cons_self ..))

theorem cellLaw_iff (t : CellTable) : t.Law ↔ t.slots.length = 12 ∧ t.slots.Pairwise apart
    ∧ (∀ r q, some r ∈ t.slots → some q ∈ t.slots → r.role = .serving → q.role = .serving → r.key = q.key)
    ∧ ∀ r, some r ∈ t.slots → r.InRange := by
  have hkeys : (t.slots.filterMap id).Pairwise (fun r q => r.key ≠ q.key) ↔ t.slots.Pairwise apart := by
    rw [List.pairwise_filterMap]
    rfl
  have hrange : (∀ o ∈ t.slots, ∀ r ∈ o, r.InRange) ↔ ∀ r, some r ∈ t.slots → r.InRange :=
    ⟨fun h r hr => h _ hr r rfl, fun h o ho r hr => by cases hr; exact h r ho⟩
  unfold CellTable.Law
  rw [hrange, hkeys]
  constructor
  · rintro ⟨h1, h2, h3, h4⟩
    refine ⟨h1, h3, fun r q hr hq => ?_, h4⟩
    exact (serving_le_one (hkeys.mpr h3)).mp h2 r (mem_records.mpr hr) q (mem_records.mpr hq)
  · rintro ⟨h1, h2, h3, h4⟩
    exact ⟨h1, (serving_le_one (hkeys.mpr h2)).mpr fun r hr q hq => h3 r q (mem_records.mp hr) (mem_records.mp hq), h2, h4⟩

/-- A change of every record that keeps its key, makes none SERVING and stays in the ranges. -/
theorem cellLaw_map {t : CellTable} {f : Cell → Cell} (h : t.Law) (hkey : ∀ r, (f r).key = r.key)
    (hrole : ∀ r q, some r ∈ t.slots → some q ∈ t.slots → (f r).role = .serving → (f q).role = .serving → r.key = q.key)
    (hrange : ∀ r, r.InRange → (f r).InRange) : ({ t with slots := mapCells t.slots f } : CellTable).Law := by
  obtain ⟨h1, h2, -, h4⟩ := (cellLaw_iff t).mp h
  refine (cellLaw_iff _).mpr ⟨(length_mapCells _ _).trans h1, ?_, fun r q hr hq hrs hqs => ?_, fun r hr => ?_⟩
  · refine List.pairwise_map.mpr (h2.imp fun {o p} hop r hr q hq => ?_)
    obtain ⟨r', hr', rfl⟩ := Option.mem_map.mp hr
    obtain ⟨q', hq', rfl⟩ := Option.mem_map.mp hq
    rw [hkey, hkey]
    exact hop r' hr' q' hq'
  · obtain ⟨r', hr', rfl⟩ := mem_mapCells.mp hr
    obtain ⟨q', hq', rfl⟩ := mem_mapCells.mp hq
    rw [hkey, hkey]
    exact hrole r' q' hr' hq' hrs hqs
  · obtain ⟨r', hr', rfl⟩ := mem_mapCells.mp hr
    exact hrange r' (h4 r' hr')

theorem cellLaw_map_role {t : CellTable} {f : Cell → Cell} (h : t.Law) (hkey : ∀ r, (f r).key = r.key)
    (hrole : ∀ r, (f r).role = .serving → r.role = .serving) (hrange : ∀ r, r.InRange → (f r).InRange) :
    ({ t with slots := mapCells t.slots f } : CellTable).Law := by
  obtain ⟨-, -, h3, -⟩ := (cellLaw_iff t).mp h
  exact cellLaw_map h hkey (fun r q hr hq hrs hqs => h3 r q hr hq (hrole r hrs) (hrole q hqs)) hrange

/-- A slot that takes a record of a key no other slot holds, SERVING only when no other record is, or none. -/
theorem cellLaw_set {t : CellTable} {i : Nat} {o : Option Cell} (h : t.Law)
    (hkey : ∀ r ∈ o, ∀ j, j ≠ i → ∀ q, cellAt t.slots j = some q → q.key ≠ r.key)
    (hrole : ∀ r ∈ o, r.role = .serving → ∀ j, j ≠ i → ∀ q, cellAt t.slots j = some q → q.role ≠ .serving)
    (hrange : ∀ r ∈ o, r.InRange) : ({ t with slots := t.slots.set i o } : CellTable).Law := by
  obtain ⟨h1, h2, h3, h4⟩ := (cellLaw_iff t).mp h
  have hat : ∀ j q, t.slots[j]? = some (some q) → cellAt t.slots j = some q := fun j q hq => cellAt_of_getElem hq
  have hmem : ∀ r, some r ∈ t.slots.set i o → (o = some r) ∨ ∃ j, j ≠ i ∧ t.slots[j]? = some (some r) := fun r hr => by
    obtain ⟨j, hj, hget⟩ := List.mem_iff_getElem.mp hr
    rw [List.getElem_set] at hget
    split at hget
    · exact .inl hget
    · rename_i hne
      exact .inr ⟨j, fun h => hne h.symm, by rw [List.getElem?_eq_getElem (by simpa using hj), hget]⟩
  refine (cellLaw_iff _).mpr ⟨(List.length_set ..).trans h1, ?_, fun r q hr hq hrs hqs => ?_, fun r hr => ?_⟩
  · rw [List.pairwise_iff_getElem] at h2 ⊢
    intro j k hj hk hjk r hr q hq
    have hj' : j < t.slots.length := by simpa using hj
    have hk' : k < t.slots.length := by simpa using hk
    rw [List.getElem_set] at hr hq
    split at hr
    · rename_i hij
      rw [if_neg (by omega)] at hq
      refine (hkey r hr k (by omega) q (hat k q ?_)).symm
      rw [List.getElem?_eq_getElem hk', Option.mem_def.mp hq]
    · split at hq
      · rename_i hik
        refine hkey q hq j (by omega) r (hat j r ?_)
        rw [List.getElem?_eq_getElem hj', Option.mem_def.mp hr]
      · exact h2 j k hj' hk' hjk r hr q hq
  · rcases hmem r hr with ho | ⟨j, hj, hjr⟩
    · rcases hmem q hq with ho' | ⟨k, hk, hkq⟩
      · rw [ho] at ho'
        rw [Option.some.inj ho']
      · exact absurd hqs (hrole r ho hrs k hk q (hat k q hkq))
    · rcases hmem q hq with ho' | ⟨k, hk, hkq⟩
      · exact absurd hrs (hrole q ho' hqs j hj r (hat j r hjr))
      · exact h3 r q (List.mem_of_getElem? hjr) (List.mem_of_getElem? hkq) hrs hqs
  · rcases hmem r hr with ho | ⟨j, -, hjr⟩
    · exact hrange r ho
    · exact h4 r (List.mem_of_getElem? hjr)

theorem cellLaw_none {t : CellTable} (h : t.Law) (i : Nat) : ({ t with slots := t.slots.set i none } : CellTable).Law :=
  cellLaw_set h (fun _ hr => nomatch hr) (fun _ hr => nomatch hr) fun _ hr => nomatch hr

/-! ### The law of the Measurement Unit -/

theorem Core.CellLaw.get {c : Core} (h : c.CellLaw) (x : Sub) : (c.cells x).Law := by
  cases x
  · exact h.1
  · exact h.2.1

theorem setCells_law {c : Core} {x : Sub} {t : CellTable} (h : c.CellLaw) (ht : t.Law) : (c.setCells x t).CellLaw := by
  have hget : ∀ y, ((c.setCells x t).cells y).Law := fun y => by
    rw [Core.cells, Core.setCells, Pair.get_set]
    split
    · exact ht
    · exact h.get y
  exact ⟨hget .A, hget .B, h.2.2⟩

theorem setFlags_law {c : Core} (x : Sub) (f : Flags → Flags) (h : c.CellLaw) : (c.setFlags x f).CellLaw :=
  setCells_law h (h.get x)

theorem view_law {c : Core} {v : Option MsuView} (h : c.CellLaw) (hv : ∀ w ∈ v, ∀ a ∈ w.accs, a.InRange) :
    ({ c with msu := { c.msu with view := v } } : Core).CellLaw := ⟨h.1, h.2.1, hv⟩

section
variable {g : Claims} {e : Env}

/-- A change of the Measurement Unit's and the Handover Evaluator's records that keeps the law of the cells. -/
theorem cells_goes {c d : Core} (hd : ∃ m h, d = { c with msu := m, hoe := h }) (hl : c.CellLaw → d.CellLaw) :
    Goes g e c d := by
  obtain ⟨m, h, rfl⟩ := hd
  exact (Change.measure m fun hc => (hl hc).congr rfl).goes.trans (Change.handover h).goes

theorem setCells_goes {c : Core} {x : Sub} {t : CellTable} (h : c.CellLaw → t.Law) : Goes g e c (c.setCells x t) :=
  cells_goes ⟨_, _, rfl⟩ fun hc => setCells_law hc (h hc)

theorem setFlags_goes (x : Sub) (f : Flags → Flags) (c : Core) : Goes g e c (c.setFlags x f) :=
  setCells_goes fun h => h.get x

/-! ### Sample intake (R78 to R81) -/

theorem discardAccumulator_frame (x : Sub) (key : CellKey) (c : Core) :
    ∃ v, discardAccumulator x key c = { c with msu := { c.msu with view := v } } := by
  unfold discardAccumulator
  split
  · exact ⟨c.msu.view, rfl⟩
  · split
    · exact ⟨_, rfl⟩
    · exact ⟨c.msu.view, rfl⟩

theorem discardAccumulator_law {c : Core} (x : Sub) (key : CellKey) (h : c.CellLaw) :
    (discardAccumulator x key c).CellLaw := by
  unfold discardAccumulator
  split
  · exact h
  · rename_i v hv
    split
    · exact view_law h fun w hw a ha => by cases hw; exact h.2.2 v hv a (List.mem_filter.mp ha).1
    · exact h

theorem removeCell_goes (x : Sub) (i : Nat) (c : Core) : Goes g e c (removeCell x i c) := by
  unfold removeCell
  split
  · exact Goes.refl g e c
  · rename_i r hr
    obtain ⟨v, hv⟩ := discardAccumulator_frame x r.key (c.setCells x { c.cells x with slots := (c.cells x).slots.set i none })
    refine cells_goes ⟨_, _, hv⟩ fun h => discardAccumulator_law x _ (setCells_law h (cellLaw_none (h.get x) i))

theorem putAccumulator_range {accs : List Accumulator} {a : Accumulator} (h : ∀ b ∈ accs, b.InRange) (ha : a.InRange) :
    ∀ b ∈ putAccumulator accs a, b.InRange := by
  unfold putAccumulator
  split
  · intro b hb
    obtain ⟨u, hu, rfl⟩ := List.mem_map.mp hb
    split
    · exact ha
    · exact h u hu
  · intro b hb
    rcases List.mem_append.mp hb with hb | hb
    · exact h b hb
    · rw [List.mem_singleton.mp hb]
      exact ha

theorem accumulatorOf_range {accs : List Accumulator} (h : ∀ b ∈ accs, b.InRange) (key : CellKey) :
    (accumulatorOf accs key).InRange := by
  unfold accumulatorOf
  split
  · rename_i a ha
    exact h a (List.mem_of_find?_eq_some ha)
  · exact ⟨by simp, by simp, by simp⟩

theorem clampLevel_range (raw : Int) : -560 ≤ clampLevel raw ∧ clampLevel raw ≤ -160 := by
  unfold clampLevel clampInt
  omega

theorem countSample_goes {v : MsuView} {key : CellKey} {level : Int} {c : Core} (hv : c.msu.view = some v)
    (hl : -560 ≤ level ∧ level ≤ -160) : Goes g e c (countSample e v key level c) := by
  have hkeep : ∀ a : Accumulator, (c.CellLaw → a.InRange) → Goes g e c
      { c with msu := { c.msu with view := some { v with accs := putAccumulator v.accs a } } } := fun a ha =>
    cells_goes ⟨_, _, rfl⟩ fun h => view_law h fun w hw b hb => by
      cases hw
      exact putAccumulator_range (h.2.2 v hv) (ha h) b hb
  have hrange : c.CellLaw → (accumulatorOf v.accs key).InRange := fun h => accumulatorOf_range (h.2.2 v hv) key
  unfold countSample
  simp only
  split
  · exact hkeep _ fun h => hrange h
  · split
    · rename_i hn
      refine hkeep _ fun h => ?_
      obtain ⟨h1, h2, h3⟩ := hrange h
      refine ⟨by simp only; omega, ?_, ?_⟩ <;> (simp only; push_cast; omega)
    · exact setFlags_goes _ _ c

theorem noteSaturation_view (x : Sub) (raw : Int) (c : Core) : (noteSaturation x raw c).msu.view = c.msu.view := by
  unfold noteSaturation
  split
  · rfl
  · split <;> rfl

theorem noteSaturation_goes (x : Sub) (raw : Int) (c : Core) : Goes g e c (noteSaturation x raw c) := by
  unfold noteSaturation
  split
  · exact setFlags_goes _ _ c
  · split
    · exact setFlags_goes _ _ c
    · exact Goes.refl g e c

theorem intake_goes {v : MsuView} {c : Core} (hv : c.msu.view = some v) (s : Sample) : Goes g e c (intake e v s c) :=
  (noteSaturation_goes _ _ c).trans (countSample_goes ((noteSaturation_view _ _ c).trans hv) (clampLevel_range _))

theorem countStray_goes (c : Core) : Goes g e c (countStray c) := cells_goes ⟨_, _, rfl⟩ fun h => h

theorem searchSample_goes (hcalm : ¬ g.calm) (x : Sub) (key : CellKey) (level : Int) (c : Core) : Goes g e c (searchSample x key level c) := by
  unfold searchSample
  split
  · rename_i h best n hp
    exact (Change.search x _ (fun _ => .inl (alive_of_phase (by rw [hp]; exact fun h => nomatch h))) hcalm).goes
  · exact Goes.refl g e c

theorem attributeSample_goes (hcalm : ¬ g.calm) (s : Sample) (c : Core) : Goes g e c (attributeSample e s c) := by
  unfold attributeSample
  split
  · split
    · exact countStray_goes c
    · rename_i v hv
      split
      · exact countStray_goes c
      · exact countStray_goes c
      · exact (noteSaturation_goes _ _ c).trans (searchSample_goes hcalm _ _ _ _)
      · split
        · exact setFlags_goes _ _ c
        · split
          · split
            · exact intake_goes hv s
            · exact Goes.refl g e c
          · split
            · exact intake_goes hv s
            · exact Goes.refl g e c
  · exact Goes.refl g e c

theorem takeSample_goes (hcalm : ¬ g.calm) (bits : List Bool) (c : Core) : Goes g e c (takeSample bits e c) := by
  unfold takeSample
  split
  · exact Goes.refl g e c
  · exact attributeSample_goes hcalm _ c

/-! ### Evaluations and window ends (R82 to R84, R99 to R102) -/

theorem judgeBetter_record (now : Time) (ttt : Nat) (h diff : Int) (r : Cell) :
    ((judgeBetter now ttt h diff r).1).sameRecord r ∧ (judgeBetter now ttt h diff r).1.role = r.role := by
  unfold judgeBetter
  split
  · split
    · split <;> exact ⟨⟨rfl, rfl, rfl, rfl, rfl⟩, rfl⟩
    · exact ⟨⟨rfl, rfl, rfl, rfl, rfl⟩, rfl⟩
  · split
    · exact ⟨⟨rfl, rfl, rfl, rfl, rfl⟩, rfl⟩
    · split <;> exact ⟨⟨rfl, rfl, rfl, rfl, rfl⟩, rfl⟩

theorem judgeSlot_record (e : Env) (x : Sub) (p : Hoe) (limit : Nat) (qs : Int) (r : Cell) :
    ((judgeSlot e x p limit qs r).1).sameRecord r ∧ (judgeSlot e x p limit qs r).1.role = r.role := by
  unfold judgeSlot
  split
  · exact ⟨⟨rfl, rfl, rfl, rfl, rfl⟩, rfl⟩
  · exact ⟨⟨rfl, rfl, rfl, rfl, rfl⟩, rfl⟩
  · split
    · rename_i l hr hl hfresh
      have h := judgeBetter_record e.count p.ttt (32 * p.hysteresis) (rankValue l r.offset - qs) r
      simp only
      split
      · rename_i heq
        rwa [heq] at h
      · rename_i heq
        rwa [heq] at h
    · exact ⟨⟨rfl, rfl, rfl, rfl, rfl⟩, rfl⟩

theorem judgeSlots_slots (e : Env) (x : Sub) (p : Hoe) (limit : Nat) (qs : Int) (slots : List (Option Cell)) :
    (judgeSlots e x p limit qs slots).1 = mapCells slots fun r => (judgeSlot e x p limit qs r).1 := by
  induction slots with
  | nil => rfl
  | cons o rest ih =>
    cases o with
    | none => exact congrArg (none :: ·) ih
    | some r => exact congrArg (some (judgeSlot e x p limit qs r).1 :: ·) ih

theorem sameRecord_range {r q : Cell} (h : r.sameRecord q) (hq : q.InRange) : r.InRange := by
  obtain ⟨h1, h2, h3, h4, -⟩ := h
  unfold Cell.InRange
  rw [h1, h2, h3, h4]
  exact hq

theorem evaluateHandover_goes (x : Sub) (c : Core) : Goes g e c (evaluateHandover e x c) := by
  unfold evaluateHandover
  simp only
  split
  · exact Goes.refl g e c
  · split
    · have hcells : Goes g e c (c.setCells x { c.cells x with slots := mapCells (c.cells x).slots Cell.untimed }) :=
        setCells_goes fun h => cellLaw_map_role (h.get x) (fun _ => rfl) (fun _ h => h) fun _ h => h
      unfold resetTiming
      simp only
      split
      · exact hcells.trans (Change.handover _).goes
      · exact hcells
    · refine Goes.trans (cells_goes ⟨_, _, rfl⟩ fun h => ?_) (postAll_goes _ _ _)
      refine setCells_law (h.congr rfl) ?_
      rw [judgeSlots_slots]
      exact cellLaw_map_role (h.get x) (fun r => (judgeSlot_record ..).1.1) (fun r hr => (judgeSlot_record ..).2 ▸ hr)
        fun r hr => sameRecord_range (judgeSlot_record ..).1 hr

theorem means_range {accs : List Accumulator} (h : ∀ a ∈ accs, a.InRange) :
    ∀ m ∈ means accs, -560 ≤ m.2 ∧ m.2 ≤ -160 := by
  intro m hm
  obtain ⟨a, ha, rfl⟩ := List.mem_map.mp hm
  obtain ⟨ha, hn⟩ := List.mem_filter.mp ha
  obtain ⟨-, h2, h3⟩ := h a ha
  exact windowMean_range (of_decide_eq_true hn) h2 h3

theorem filterUpdate_range (k limit : Nat) (t : Time) {mean : Int} {r : Cell} (hm : -560 ≤ mean ∧ mean ≤ -160)
    (h : r.InRange) : (filterUpdate k limit t mean r).InRange := by
  obtain ⟨h1, h2, h3, h4, h5⟩ := h
  refine ⟨h1, h2, h3, Nat.min_le_left _ _, fun l hl => ?_⟩
  have hmean : -8960 ≤ 16 * mean ∧ 16 * mean ≤ -2560 := by omega
  cases hr : r.level with
  | none =>
    rw [filterUpdate_level_none hr] at hl
    cases hl
    exact hmean
  | some l' =>
    rw [filterUpdate_level_some hr] at hl
    cases hl
    simp only
    split
    · exact hmean
    · exact filterStep_range k hm (h5 l' hr)

theorem updateFrom_record (k limit : Nat) (t : Time) (ms : List (CellKey × Int)) (r : Cell) :
    (updateFrom k limit t ms r).key = r.key ∧ (updateFrom k limit t ms r).role = r.role := by
  unfold updateFrom
  split <;> exact ⟨rfl, rfl⟩

theorem updateFrom_range (k limit : Nat) (t : Time) {ms : List (CellKey × Int)} (hms : ∀ m ∈ ms, -560 ≤ m.2 ∧ m.2 ≤ -160)
    {r : Cell} (h : r.InRange) : (updateFrom k limit t ms r).InRange := by
  unfold updateFrom
  split
  · exact h
  · rename_i m hm
    exact filterUpdate_range k limit t (hms m (List.mem_of_find?_eq_some hm)) h

theorem closeView_goes (t : Time) (c : Core) : Goes g e c (closeView e t c) := by
  unfold closeView
  split
  · exact Goes.refl g e c
  · rename_i v hv
    simp only
    have hfold : Goes g e c (foldMeans v.owner t (means v.accs) { c with msu := { c.msu with view := none } }) := by
      refine cells_goes ⟨_, _, rfl⟩ fun h => setCells_law (view_law h fun w hw => nomatch hw) ?_
      exact cellLaw_map_role (h.get v.owner) (fun r => (updateFrom_record ..).1) (fun r hr => (updateFrom_record ..).2 ▸ hr)
        fun r hr => updateFrom_range _ _ _ (means_range (h.2.2 v hv)) hr
    split
    · exact hfold.trans (evaluateHandover_goes _ _)
    · exact hfold

/-! ### The serving mechanism (R73, R103) -/

theorem clearTrigger_frame (x : Sub) (c : Core) : ∃ m h, clearTrigger x c = { c with msu := m, hoe := h } := ⟨_, _, rfl⟩

theorem clearTrigger_law {c : Core} (x : Sub) (h : c.CellLaw) : (clearTrigger x c).CellLaw :=
  (setCells_law h (cellLaw_map_role (f := fun r => { r with entry := none, reported := false }) (h.get x) (fun _ => rfl)
    (fun _ h => h) fun _ h => h)).congr rfl

theorem makeServing_frame (e : Env) (x : Sub) (key : CellKey) (c : Core) :
    ∃ m h, (makeServing e x key c).1 = { c with msu := m, hoe := h } := by
  have hclear : ∀ (b : Prop) [Decidable b] (d : Core), (∃ m h, d = { c with msu := m, hoe := h }) →
      ∃ m h, (if b then clearTrigger x d else d) = { c with msu := m, hoe := h } := fun b _ d hd => by
    obtain ⟨m, h, rfl⟩ := hd
    split
    · exact ⟨_, _, rfl⟩
    · exact ⟨_, _, rfl⟩
  unfold makeServing
  simp only
  split
  · exact hclear _ _ ⟨_, _, rfl⟩
  · split
    · exact hclear _ _ ⟨_, _, rfl⟩
    · split
      · refine hclear _ _ ?_
        unfold removeCell
        split
        · exact ⟨_, _, rfl⟩
        · rename_i i hi r hr
          obtain ⟨v, hv⟩ := discardAccumulator_frame x r.key _
          rw [hv]
          exact ⟨_, _, rfl⟩
      · exact ⟨_, _, rfl⟩

theorem newCell_range {key : CellKey} (hk : key.identity.toNat ≤ 1023) (role : Role) {offset : Int} (barred : Bool)
    (h : -48 ≤ offset ∧ offset ≤ 48) : (newCell key role offset barred).InRange :=
  ⟨hk, h.1, h.2, Nat.zero_le _, fun _ hl => nomatch hl⟩

theorem demoted_law {t : CellTable} (key : CellKey) (h : t.Law) :
    ({ t with slots := mapCells t.slots (demoted key) } : CellTable).Law :=
  cellLaw_map_role h (demoted_key key) (fun r hr => by
    unfold demoted at hr
    split at hr
    · exact hr
    · cases hr) fun r hr => sameRecord_range (demoted_sameRecord key r) hr

/-- The key's record in place, the only one SERVING. -/
theorem servingInserted_law {t : CellTable} {key : CellKey} {i : Nat} (h : t.Law) (hk : key.identity.toNat ≤ 1023)
    (hnone : slotOf t.slots key = none) :
    ({ t with slots := (mapCells t.slots (demoted key)).set i (some (newCell key .serving 0 false)) } : CellTable).Law := by
  have hother : ∀ j q, cellAt (mapCells t.slots (demoted key)) j = some q → q.key ≠ key ∧ q.role ≠ .serving := by
    intro j q hq
    obtain ⟨r, hr, rfl⟩ := mem_mapCells.mp (mem_of_cellAt hq)
    have hne : r.key ≠ key := slotOf_none_iff.mp hnone r hr
    refine ⟨by rwa [demoted_key], ?_⟩
    unfold demoted
    rw [if_neg hne]
    exact fun h => nomatch h
  refine cellLaw_set (demoted_law key h) (fun r hr j _ q hq => ?_) (fun r hr _ j _ q hq => (hother j q hq).2) fun r hr => ?_
  · cases hr
    exact (hother j q hq).1
  · cases hr
    exact newCell_range hk _ _ ⟨by decide, by decide⟩

theorem servingPromoted_law {t : CellTable} {key : CellKey} (h : t.Law) :
    ({ t with slots := mapCells (mapCells t.slots (demoted key)) (promoted key) } : CellTable).Law := by
  refine cellLaw_map (demoted_law key h) (promoted_key key) (fun r q hr hq hrs hqs => ?_) fun r hr =>
    sameRecord_range (promoted_sameRecord key r) hr
  have hr' := (serving_of_found (mem_mapCells.mpr ⟨r, hr, rfl⟩)).mp hrs
  have hq' := (serving_of_found (mem_mapCells.mpr ⟨q, hq, rfl⟩)).mp hqs
  rw [promoted_key] at hr' hq'
  rw [hr', hq']

theorem triggerCleared_law {c : Core} (x : Sub) (changed : Bool) (h : c.CellLaw) : (triggerCleared x changed c).CellLaw := by
  unfold triggerCleared
  split
  · exact clearTrigger_law x h
  · exact h

theorem makeServing_law {x : Sub} {key : CellKey} {c : Core} (hk : key.identity.toNat ≤ 1023) (h : c.CellLaw) :
    (makeServing e x key c).1.CellLaw := by
  have ht := h.get x
  have h12 : (c.cells x).slots.length = 12 := ht.1
  cases hslot : slotOf (c.cells x).slots key with
  | some i =>
    rw [makeServing_found hslot]
    exact triggerCleared_law _ _ (setCells_law h (servingPromoted_law ht))
  | none =>
    cases hfree : freeSlot (c.cells x).slots with
    | some i =>
      rw [makeServing_free hslot hfree]
      exact triggerCleared_law _ _ (setCells_law h (servingInserted_law ht hk hslot))
    | none =>
      obtain ⟨r0, hr0⟩ := freeSlot_none hfree (i := 0) (by omega)
      have hkey := slotOf_none_iff.mp hslot r0 (mem_of_cellAt hr0)
      have hmem : (0, demoted key r0) ∈ neighbourSlots (mapCells (c.cells x).slots (demoted key)) :=
        List.mem_filterMap.mpr ⟨0, by simp [length_mapCells, h12], by simp [cellAt_mapCells, hr0, demoted, hkey]⟩
      obtain ⟨i, q, he, hq⟩ := evictSlot_isSome (now := e.count) (List.ne_nil_of_mem hmem)
      rw [cellAt_mapCells] at hq
      obtain ⟨r, hr, -⟩ := Option.map_eq_some_iff.mp hq
      rw [makeServing_evict hslot hfree he hr]
      exact triggerCleared_law _ _ (setCells_law (discardAccumulator_law x _ h) (servingInserted_law ht hk hslot))

theorem makeServing_goes {x : Sub} {key : CellKey} {c : Core} (hk : key.identity.toNat ≤ 1023) :
    Goes g e c (makeServing e x key c).1 :=
  cells_goes (makeServing_frame e x key c) (makeServing_law hk)

theorem msuTeardown_goes (x : Sub) (c : Core) : Goes g e c (msuTeardown x c) := by
  refine cells_goes ⟨_, _, rfl⟩ fun h => ?_
  have hinitial : CellTable.initial.Law := by decide
  refine view_law (setCells_law h hinitial) fun w hw a ha => ?_
  cases hv : c.msu.view with
  | none =>
    rw [hv] at hw
    cases hw
  | some v =>
    rw [hv] at hw
    simp only at hw
    split at hw
    · cases hw
    · cases hw
      exact h.2.2 w hv a ha

end

end Sys2Proof.Machine

/-! PROOFS. The session table keeps its law (R41 to R43, R49): a session edited, added or freed at its place. -/

namespace Sys2Proof.Machine

/-! ### The law, place by place -/

/-- What a place of the session table holds. -/
def Smg.place (m : Smg) (i : Nat) : Option Session := (m.sessions[i]?).join

/-- The credit of a call is within the maximum in force (R49). -/
def Session.CreditOk (e : Env) (n : Session) : Prop := ∀ v ∈ n.body.voice?, ∀ tr ∈ v.traffic, tr.credit ≤ e.policy.creditMax

/-- The law of the session table and its queues, place by place. -/
structure Places (e : Env) (m : Smg) : Prop where
  size : m.sessions.length = 8
  generations : m.generations.length = 8
  place : ∀ i n, m.place i = some n → n.handle.index.toNat = i
  voice : ∀ i j n k, m.place i = some n → m.place j = some k → n.body.voice?.isSome = true → k.body.voice?.isSome = true
    → i = j
  nodup : ∀ x, (m.queues.get x).Nodup
  short : ∀ x, (m.queues.get x).length ≤ 4
  queue : ∀ x h, h ∈ m.queues.get x ↔ ∃ n, m.place h.index.toNat = some n ∧ n.handle = h ∧ n.owner = x
    ∧ n.body.text?.isSome = true
  credit : ∀ i n, m.place i = some n → n.CreditOk e

theorem place_iff {m : Smg} {i : Nat} {n : Session} : m.place i = some n ↔ m.sessions[i]? = some (some n) :=
  Option.join_eq_some_iff

theorem mem_sessions_iff {m : Smg} {n : Session} : some n ∈ m.sessions ↔ ∃ i, m.place i = some n := by
  rw [List.mem_iff_getElem?]
  simp only [place_iff]

theorem session_iff {c : Core} {h : Handle} {n : Session} :
    c.session h = some n ↔ c.smg.place h.index.toNat = some n ∧ n.handle = h := by
  rw [place_iff]
  unfold Core.session
  split
  · rename_i s hs
    rw [hs]
    constructor
    · intro hn
      split at hn
      · rename_i hh
        cases hn
        exact ⟨rfl, hh⟩
      · cases hn
    · rintro ⟨hn, hh⟩
      cases hn
      rw [if_pos hh]
  · rename_i hs
    exact ⟨fun h => (nomatch h), fun h => absurd h.1 (hs n)⟩

theorem ownsSession_iff {c : Core} {x : Sub} {h : Handle} : c.ownsSession x h = true ↔
    ∃ n, c.smg.place h.index.toNat = some n ∧ n.handle = h ∧ n.owner = x := by
  unfold Core.ownsSession
  constructor
  · intro hs
    split at hs
    · cases hs
    · rename_i n hn
      obtain ⟨h1, h2⟩ := session_iff.mp hn
      exact ⟨n, h1, h2, of_decide_eq_true hs⟩
  · rintro ⟨n, h1, h2, h3⟩
    rw [session_iff.mpr ⟨h1, h2⟩]
    exact decide_eq_true h3

theorem textSession_iff {c : Core} {h : Handle} {n : Session} {t : TextBody} :
    c.textSession h = some (n, t) ↔ c.session h = some n ∧ n.body = .text t := by
  unfold Core.textSession
  split
  · rename_i hn
    rw [hn]
    exact ⟨fun h => (nomatch h), fun h => nomatch h.1⟩
  · rename_i s hs
    rw [hs]
    split
    · rename_i t' ht
      constructor
      · intro h
        cases h
        exact ⟨rfl, ht⟩
      · rintro ⟨h1, h2⟩
        cases h1
        rw [ht] at h2
        cases h2
        rfl
    · rename_i v hv
      refine ⟨fun h => (nomatch h), fun ⟨h1, h2⟩ => ?_⟩
      cases h1
      rw [hv] at h2
      cases h2

theorem textSession_isSome {c : Core} {h : Handle} : (c.textSession h).isSome = true ↔
    ∃ n, c.session h = some n ∧ n.body.text?.isSome = true := by
  constructor
  · intro hs
    obtain ⟨⟨n, t⟩, hn⟩ := Option.isSome_iff_exists.mp hs
    obtain ⟨h1, h2⟩ := textSession_iff.mp hn
    exact ⟨n, h1, by rw [h2]; rfl⟩
  · rintro ⟨n, h1, h2⟩
    cases hb : n.body with
    | voice v =>
      rw [hb] at h2
      cases h2
    | text t => exact Option.isSome_iff_exists.mpr ⟨(n, t), textSession_iff.mpr ⟨h1, hb⟩⟩

/-- At most one element of a list qualifies exactly when no two places do. -/
theorem filter_le_one {α : Type} {l : List (Option α)} {p : α → Bool} :
    ((l.filterMap id).filter p).length ≤ 1 ↔ ∀ (i j : Nat) (a b : α), l[i]? = some (some a) → l[j]? = some (some b) → p a = true
      → p b = true → i = j := by
  have hpair : ∀ k : List α, k.length ≤ 1 ↔ k.Pairwise fun _ _ => False := fun k => by
    match k with
    | [] => simp
    | [a] => simp
    | a :: b :: rest =>
      refine ⟨fun h => ?_, fun h => ((List.rel_of_pairwise_cons h (List.mem_cons_self ..))).elim⟩
      simp at h
  rw [hpair, List.pairwise_filter, List.pairwise_filterMap, List.pairwise_iff_getElem]
  constructor
  · intro h i j a b ha hb hpa hpb
    obtain ⟨hi, ha'⟩ := List.getElem?_eq_some_iff.mp ha
    obtain ⟨hj, hb'⟩ := List.getElem?_eq_some_iff.mp hb
    rcases Nat.lt_trichotomy i j with hij | hij | hij
    · exact (h i j hi hj hij a ha' b hb' hpa hpb).elim
    · exact hij
    · exact (h j i hj hi hij b hb' a ha' hpb hpa).elim
  · intro h i j hi hj hij a ha b hb hpa hpb
    have := h i j a b (by rw [List.getElem?_eq_getElem hi]; exact congrArg some ha)
      (by rw [List.getElem?_eq_getElem hj]; exact congrArg some hb) hpa hpb
    omega

theorem sessionsLaw_iff {e : Env} {c : Core} : c.SessionsLaw e ↔ Places e c.smg
    ∧ ∀ r ∈ c.tla.table, ∀ h ∈ r.session, c.ownsSession r.owner h = true := by
  have hmem : ∀ P : Session → Prop, (∀ o ∈ c.smg.sessions, ∀ n ∈ o, P n) ↔ ∀ i n, c.smg.place i = some n → P n := fun P => by
    constructor
    · exact fun h i n hn => h _ (List.mem_of_getElem? (place_iff.mp hn)) n rfl
    · intro h o ho n hn
      cases hn
      obtain ⟨i, hi⟩ := mem_sessions_iff.mp ho
      exact h i n hi
  have hvoice : ((c.smg.sessions.filterMap id).filter fun n => n.body.voice?.isSome).length ≤ 1 ↔
      ∀ i j n k, c.smg.place i = some n → c.smg.place j = some k → n.body.voice?.isSome = true
        → k.body.voice?.isSome = true → i = j := by
    rw [filter_le_one]
    simp only [place_iff]
  unfold Core.SessionsLaw
  rw [hvoice]
  constructor
  · rintro ⟨h1, h2, h3, h4, h5, h6, h7, h8⟩
    have hplace : ∀ i n, c.smg.place i = some n → n.handle.index.toNat = i := fun i n hn => by
      have hlt : i < 8 := h1 ▸ (List.getElem?_eq_some_iff.mp (place_iff.mp hn)).1
      exact h3 i hlt n hn
    have hq : ∀ x, queueLaw c x := fun x => by cases x <;> assumption
    refine ⟨⟨h1, h2, hplace, h4, fun x => (hq x).1, fun x => (hq x).2.1, fun x h => ?_, (hmem _).mp h7⟩, h8⟩
    constructor
    · intro hh
      obtain ⟨hown, htext⟩ := (hq x).2.2.1 h hh
      obtain ⟨n, hn, hb⟩ := textSession_isSome.mp htext
      obtain ⟨m, hm, hmh, hmo⟩ := ownsSession_iff.mp hown
      obtain ⟨hn1, hn2⟩ := session_iff.mp hn
      rw [hn1] at hm
      cases hm
      exact ⟨n, hn1, hn2, hmo, hb⟩
    · rintro ⟨n, hn, rfl, ho, hb⟩
      exact (hmem _).mp (hq x).2.2.2 _ n hn ho hb
  · rintro ⟨⟨h1, h2, h3, h4, h5, h6, h7, h8⟩, h9⟩
    have hq : ∀ x, queueLaw c x := fun x => by
      refine ⟨h5 x, h6 x, fun h hh => ?_, (hmem _).mpr fun i n hn ho hb => ?_⟩
      · obtain ⟨n, hn, hnh, ho, hb⟩ := (h7 x h).mp hh
        exact ⟨ownsSession_iff.mpr ⟨n, hn, hnh, ho⟩, textSession_isSome.mpr ⟨n, session_iff.mpr ⟨hn, hnh⟩, hb⟩⟩
      · exact (h7 x n.handle).mpr ⟨n, by rw [h3 i n hn]; exact hn, rfl, ho, hb⟩
    exact ⟨h1, h2, fun i _ n hn => h3 i n hn, h4, hq .A, hq .B, (hmem _).mpr h8, h9⟩

/-! ### A place that takes or loses a session -/

theorem place_set {m : Smg} {i : Nat} {o : Option Session} {gens : List Byte} {q : Pair (List Handle)} {missed : Pair Missed}
    (hi : i < m.sessions.length) (j : Nat) :
    (⟨m.sessions.set i o, gens, q, missed⟩ : Smg).place j = if j = i then o else m.place j := by
  unfold Smg.place
  rw [List.getElem?_set]
  split
  · rename_i hij
    subst hij
    rw [if_pos rfl]
    rfl
  · rename_i hij
    rw [if_neg (fun h => hij h.symm)]

/-- A session edited at its place: its handle, its owner and its kind stand. -/
structure SameSession (s n : Session) : Prop where
  handle : n.handle = s.handle
  owner : n.owner = s.owner
  voice : n.body.voice?.isSome = s.body.voice?.isSome
  text : n.body.text?.isSome = s.body.text?.isSome

theorem Places.edit {e : Env} {m : Smg} {i : Nat} {s n : Session} {missed : Pair Missed} (w : Places e m)
    (hs : m.place i = some s) (hn : SameSession s n) (hc : n.CreditOk e) :
    Places e ⟨m.sessions.set i (some n), m.generations, m.queues, missed⟩ := by
  have hi : i < m.sessions.length := (List.getElem?_eq_some_iff.mp (place_iff.mp hs)).1
  have hat : ∀ j k, (⟨m.sessions.set i (some n), m.generations, m.queues, missed⟩ : Smg).place j = some k →
      (j = i ∧ k = n) ∨ (j ≠ i ∧ m.place j = some k) := fun j k hk => by
    rw [place_set hi] at hk
    split at hk
    · rename_i hji
      cases hk
      exact .inl ⟨hji, rfl⟩
    · rename_i hji
      exact .inr ⟨hji, hk⟩
  have hold : ∀ j k, (⟨m.sessions.set i (some n), m.generations, m.queues, missed⟩ : Smg).place j = some k →
      ∃ k', m.place j = some k' ∧ SameSession k' k := fun j k hk => by
    rcases hat j k hk with ⟨rfl, rfl⟩ | ⟨-, hk⟩
    · exact ⟨s, hs, hn⟩
    · exact ⟨k, hk, rfl, rfl, rfl, rfl⟩
  have hnew : ∀ j k, m.place j = some k → ∃ k', (⟨m.sessions.set i (some n), m.generations, m.queues, missed⟩ : Smg).place j
      = some k' ∧ SameSession k k' := fun j k hk => by
    by_cases hji : j = i
    · subst hji
      rw [hs] at hk
      cases hk
      exact ⟨n, by rw [place_set hi, if_pos rfl], hn⟩
    · exact ⟨k, by rw [place_set hi, if_neg hji]; exact hk, rfl, rfl, rfl, rfl⟩
  refine ⟨(List.length_set ..).trans w.size, w.generations, fun j k hk => ?_, fun j l k k' hk hk' hv hv' => ?_, w.nodup,
    w.short, fun x h => ?_, fun j k hk => ?_⟩
  · obtain ⟨k', hk', hsame⟩ := hold j k hk
    rw [hsame.handle]
    exact w.place j k' hk'
  · obtain ⟨u, hu, hus⟩ := hold j k hk
    obtain ⟨u', hu', hus'⟩ := hold l k' hk'
    exact w.voice j l u u' hu hu' (hus.voice ▸ hv) (hus'.voice ▸ hv')
  · rw [w.queue x h]
    constructor
    · rintro ⟨k, hk, hkh, hko, hkt⟩
      obtain ⟨k', hk', hsame⟩ := hnew _ k hk
      exact ⟨k', hk', hsame.handle.trans hkh, hsame.owner.trans hko, hsame.text.trans hkt⟩
    · rintro ⟨k, hk, hkh, hko, hkt⟩
      obtain ⟨k', hk', hsame⟩ := hold _ k hk
      exact ⟨k', hk', hsame.handle.symm.trans hkh, hsame.owner.symm.trans hko, hsame.text.symm.trans hkt⟩
  · rcases hat j k hk with ⟨-, rfl⟩ | ⟨-, hk⟩
    · exact hc
    · exact w.credit j k hk

/-- A session added at a free place; a text joins the tail of its owner's queue, a call is the only one. -/
theorem Places.add {e : Env} {m : Smg} {n : Session} {gens : List Byte} {q : Pair (List Handle)} {missed : Pair Missed}
    (w : Places e m) (hi : n.handle.index.toNat < 8) (hg : gens.length = 8) (hfree : m.place n.handle.index.toNat = none)
    (hv : n.body.voice?.isSome = true → ∀ i k, m.place i = some k → k.body.voice?.isSome = false)
    (hq : ∀ x, q.get x = if x = n.owner ∧ n.body.text?.isSome = true then m.queues.get x ++ [n.handle] else m.queues.get x)
    (hshort : n.body.text?.isSome = true → (m.queues.get n.owner).length < 4) (hc : n.CreditOk e) :
    Places e ⟨m.sessions.set n.handle.index.toNat (some n), gens, q, missed⟩ := by
  have hlt : n.handle.index.toNat < m.sessions.length := by rw [w.size]; exact hi
  have hplace : ∀ j, (⟨m.sessions.set n.handle.index.toNat (some n), gens, q, missed⟩ : Smg).place j
      = if j = n.handle.index.toNat then some n else m.place j := place_set hlt
  have hnot : ∀ x, n.handle ∉ m.queues.get x := fun x hx => by
    obtain ⟨k, hk, -⟩ := (w.queue x n.handle).mp hx
    rw [hfree] at hk
    cases hk
  refine ⟨(List.length_set ..).trans w.size, hg, fun j k hk => ?_, fun j l k k' hk hk' hkv hkv' => ?_, fun x => ?_,
    fun x => ?_, fun x h => ?_, fun j k hk => ?_⟩
  · rw [hplace] at hk
    split at hk
    · rename_i hj
      cases hk
      exact hj.symm
    · exact w.place j k hk
  · rw [hplace] at hk hk'
    split at hk
    · rename_i hj
      cases hk
      split at hk'
      · rename_i hl
        rw [hj, hl]
      · rw [hv hkv l k' hk'] at hkv'
        cases hkv'
    · split at hk'
      · cases hk'
        rw [hv hkv' j k hk] at hkv
        cases hkv
      · exact w.voice j l k k' hk hk' hkv hkv'
  · rw [hq]
    split
    · exact List.nodup_append.mpr ⟨w.nodup x, List.nodup_singleton _, fun a ha b hb => by
        rw [List.mem_singleton.mp hb]
        rintro rfl
        exact hnot x ha⟩
    · exact w.nodup x
  · rw [hq]
    split
    · rename_i hx
      obtain ⟨rfl, ht⟩ := hx
      rw [List.length_append, List.length_singleton]
      exact hshort ht
    · exact w.short x
  · simp only [hplace]
    rw [hq]
    have hold : h ∈ m.queues.get x ↔ h.index.toNat ≠ n.handle.index.toNat ∧ ∃ k, m.place h.index.toNat = some k ∧ k.handle = h
        ∧ k.owner = x ∧ k.body.text?.isSome = true := by
      rw [w.queue]
      refine ⟨fun hk => ⟨fun heq => ?_, hk⟩, fun hk => hk.2⟩
      obtain ⟨k, hk, -⟩ := hk
      rw [heq, hfree] at hk
      cases hk
    have hnew : (∃ k, (if h.index.toNat = n.handle.index.toNat then some n else m.place h.index.toNat) = some k ∧ k.handle = h
        ∧ k.owner = x ∧ k.body.text?.isSome = true)
        ↔ h ∈ m.queues.get x ∨ (h = n.handle ∧ n.owner = x ∧ n.body.text?.isSome = true) := by
      rw [hold]
      by_cases heq : h.index.toNat = n.handle.index.toNat
      · simp only [if_pos heq]
        constructor
        · rintro ⟨k, hk, hkh, hko, hkt⟩
          cases hk
          exact .inr ⟨hkh.symm, hko, hkt⟩
        · rintro (⟨hne, -⟩ | ⟨rfl, ho, ht⟩)
          · exact absurd heq hne
          · exact ⟨n, rfl, rfl, ho, ht⟩
      · simp only [if_neg heq]
        refine ⟨fun hk => .inl ⟨heq, hk⟩, ?_⟩
        rintro (⟨-, hk⟩ | ⟨rfl, -⟩)
        · exact hk
        · exact absurd rfl heq
    rw [hnew]
    split
    · rename_i hx
      obtain ⟨rfl, ht⟩ := hx
      rw [List.mem_append, List.mem_singleton]
      exact ⟨Or.imp_right fun h => ⟨h, rfl, ht⟩, Or.imp_right fun h => h.1⟩
    · rename_i hx
      exact ⟨.inl, fun h => h.resolve_right fun ⟨_, ho, ht⟩ => hx ⟨ho.symm, ht⟩⟩
  · rw [hplace] at hk
    split at hk
    · cases hk
      exact hc
    · exact w.credit j k hk

/-- Sessions that leave their places and the queues. -/
theorem Places.fewer {e : Env} {m d : Smg} (w : Places e m) (hsize : d.sessions.length = 8)
    (hgens : d.generations.length = 8) (gone : Session → Prop)
    (hplace : ∀ i n, d.place i = some n ↔ m.place i = some n ∧ ¬ gone n)
    (hqueue : ∀ x h, h ∈ d.queues.get x ↔ h ∈ m.queues.get x ∧ ∀ n, m.place h.index.toNat = some n → ¬ gone n)
    (hsub : ∀ x, (d.queues.get x).Sublist (m.queues.get x)) : Places e d := by
  refine ⟨hsize, hgens, fun i n hn => w.place i n ((hplace i n).mp hn).1, fun i j n k hn hk =>
    w.voice i j n k ((hplace i n).mp hn).1 ((hplace j k).mp hk).1, fun x => (hsub x).nodup (w.nodup x),
    fun x => (hsub x).length_le.trans (w.short x), fun x h => ?_, fun i n hn => w.credit i n ((hplace i n).mp hn).1⟩
  rw [hqueue, w.queue]
  constructor
  · rintro ⟨⟨n, hn, hrest⟩, hgone⟩
    exact ⟨n, (hplace _ n).mpr ⟨hn, hgone n hn⟩, hrest⟩
  · rintro ⟨n, hn, hrest⟩
    obtain ⟨hn, hgone⟩ := (hplace _ n).mp hn
    refine ⟨⟨n, hn, hrest⟩, fun k hk => ?_⟩
    rw [hn] at hk
    cases hk
    exact hgone

end Sys2Proof.Machine

/-! PROOFS. The Session Manager's own changes, and what a placement's choice changes (R17 to R19, R41 to R53). -/

namespace Sys2Proof.Machine

variable {g : Claims} {e : Env}

/-! ### A session edited (R41) -/

theorem SameSession.refl (s : Session) : SameSession s s := ⟨rfl, rfl, rfl, rfl⟩

/-- A session edited at its place leaves who owns which session. -/
theorem setSession_owns {c : Core} {h : Handle} {s n : Session} (hs : c.session h = some s) (hn : SameSession s n) (x : Sub)
    (k : Handle) : ({ c with smg := { c.smg with sessions := c.smg.sessions.set h.index.toNat (some n) } } : Core).ownsSession x k
      = c.ownsSession x k := by
  obtain ⟨hplace, hh⟩ := session_iff.mp hs
  have hi : h.index.toNat < c.smg.sessions.length := (List.getElem?_eq_some_iff.mp (place_iff.mp hplace)).1
  rw [Bool.eq_iff_iff, ownsSession_iff, ownsSession_iff]
  simp only [place_set hi]
  by_cases hk : k.index.toNat = h.index.toNat
  · simp only [if_pos hk]
    rw [hk, hplace]
    constructor
    · rintro ⟨m, hm, h1, h2⟩
      cases hm
      exact ⟨s, rfl, hn.handle ▸ h1, hn.owner ▸ h2⟩
    · rintro ⟨m, hm, h1, h2⟩
      cases hm
      exact ⟨n, rfl, hn.handle.trans h1, hn.owner.trans h2⟩
  · simp only [if_neg hk]

theorem editSession_some {c : Core} {h : Handle} {f : Session → Session} {s : Session} (hs : c.session h = some s) :
    c.editSession h f = { c with smg := { c.smg with sessions := c.smg.sessions.set h.index.toNat (some (f s)) } } := by
  simp only [Core.editSession, hs]

theorem editSession_none {c : Core} {h : Handle} {f : Session → Session} (hs : c.session h = none) :
    c.editSession h f = c := by simp only [Core.editSession, hs]

theorem editSession_owns {c : Core} {h : Handle} {f : Session → Session} (hf : ∀ s, SameSession s (f s)) (x : Sub)
    (k : Handle) : (c.editSession h f).ownsSession x k = c.ownsSession x k := by
  cases hs : c.session h with
  | none => rw [editSession_none hs]
  | some s =>
    rw [editSession_some hs]
    exact setSession_owns hs (hf s) x k

theorem editSession_same (c : Core) (h : Handle) (f : Session → Session) : SameWorks c (c.editSession h f) := by
  cases hs : c.session h with
  | none => rw [editSession_none hs]; exact SameWorks.refl c
  | some s => rw [editSession_some hs]; exact SameWorks.refl c

/-- A change of the Session Manager's record after which every session and every queue belongs to someone it belonged to
before. -/
theorem smg_goes {c : Core} (m : Smg) (hl : c.SessionsLaw e → ({ c with smg := m } : Core).SessionsLaw e)
    (hs : g.works → ∀ n, some n ∈ m.sessions → c.alive n.owner) (hq : g.works → ∀ x, m.queues.get x ≠ [] → c.alive x)
    (hcalm : g.calm → ∀ x h, ({ c with smg := m } : Core).ownsSession x h = c.ownsSession x h) :
    Goes g e c { c with smg := m } := (Change.sessions m hl hs hq hcalm).goes

theorem editSession_goes {c : Core} {h : Handle} {f : Session → Session} (hf : ∀ s, SameSession s (f s))
    (hc : c.SessionsLaw e → ∀ s, s.CreditOk e → (f s).CreditOk e) : Goes g e c (c.editSession h f) := by
  cases hs : c.session h with
  | none => rw [editSession_none hs]; exact Goes.refl g e c
  | some s =>
    rw [editSession_some hs]
    obtain ⟨hplace, -⟩ := session_iff.mp hs
    refine smg_goes _ (fun hl => ?_) (fun _ n hn => ?_) (fun _ x hx => alive_of_queue hx) fun _ => setSession_owns hs (hf s)
    · obtain ⟨w, hr⟩ := sessionsLaw_iff.mp hl
      refine sessionsLaw_iff.mpr ⟨w.edit hplace (hf s) (hc hl s (w.credit _ s hplace)), fun r hr' k hk => ?_⟩
      rw [setSession_owns hs (hf s)]
      exact hr r hr' k hk
    · rcases List.mem_or_eq_of_mem_set hn with hn | hn
      · exact alive_of_session hn
      · cases hn
        rw [(hf s).owner]
        exact alive_of_session (mem_sessions_iff.mpr ⟨_, hplace⟩)

/-- A change of the text fields of a session. -/
def Session.onText (f : TextBody → TextBody) (s : Session) : Session :=
  match s.body with
  | .text t => { s with body := .text (f t) }
  | .voice _ => s

theorem onText_same (f : TextBody → TextBody) (s : Session) : SameSession s (s.onText f) := by
  unfold Session.onText
  split
  · rename_i t ht
    exact ⟨rfl, rfl, by rw [ht]; rfl, by rw [ht]; rfl⟩
  · exact SameSession.refl s

theorem onText_credit (f : TextBody → TextBody) {s : Session} (h : s.CreditOk e) : (s.onText f).CreditOk e := by
  unfold Session.onText
  split
  · exact fun v hv => nomatch hv
  · exact h

theorem editText_goes (h : Handle) (f : TextBody → TextBody) (c : Core) : Goes g e c (c.editText h f) :=
  editSession_goes (onText_same f) fun _ _ => onText_credit f

theorem editText_owns (c : Core) (h : Handle) (f : TextBody → TextBody) (x : Sub) (k : Handle) :
    (c.editText h f).ownsSession x k = c.ownsSession x k := editSession_owns (onText_same f) x k

/-- A change of the voice fields of a session. -/
def Session.onVoice (f : Voice → Voice) (s : Session) : Session :=
  match s.body with
  | .voice v => { s with body := .voice (f v) }
  | .text _ => s

theorem onVoice_same (f : Voice → Voice) (s : Session) : SameSession s (s.onVoice f) := by
  unfold Session.onVoice
  split
  · rename_i v hv
    exact ⟨rfl, rfl, by rw [hv]; rfl, by rw [hv]; rfl⟩
  · exact SameSession.refl s

theorem onVoice_credit {f : Voice → Voice} (hf : ∀ v : Voice, (∀ tr ∈ v.traffic, tr.credit ≤ e.policy.creditMax) →
    ∀ tr ∈ (f v).traffic, tr.credit ≤ e.policy.creditMax) {s : Session} (h : s.CreditOk e) : (s.onVoice f).CreditOk e := by
  unfold Session.onVoice
  split
  · rename_i v hv
    intro u hu
    cases hu
    exact hf v (h v (by rw [hv]; rfl))
  · exact h

theorem editVoice_goes (h : Handle) {f : Voice → Voice} {c : Core} (hf : c.SessionsLaw e → ∀ v : Voice,
    (∀ tr ∈ v.traffic, tr.credit ≤ e.policy.creditMax) → ∀ tr ∈ (f v).traffic, tr.credit ≤ e.policy.creditMax) : Goes g e c (c.editVoice h f) :=
  editSession_goes (onVoice_same f) fun hl _ => onVoice_credit (hf hl)

theorem setTraffic_goes (h : Handle) {tr : Traffic} {c : Core} (ht : c.SessionsLaw e → tr.credit ≤ e.policy.creditMax) :
    Goes g e c (c.setTraffic h tr) :=
  editVoice_goes h (f := fun v => { v with traffic := some tr }) fun hl _ _ u hu => by cases hu; exact ht hl

theorem setTraffic_same (c : Core) (h : Handle) (tr : Traffic) : SameWorks c (c.setTraffic h tr) := editSession_same c h _

theorem setMissed_goes (x : Sub) (m : Missed) (c : Core) : Goes g e c (c.setMissed x m) := by
  refine smg_goes _ (fun hl => ?_) (fun _ n hn => alive_of_session hn) (fun _ y hy => alive_of_queue hy)
    fun _ _ _ => rfl
  obtain ⟨w, hr⟩ := sessionsLaw_iff.mp hl
  exact sessionsLaw_iff.mpr ⟨⟨w.size, w.generations, w.place, w.voice, w.nodup, w.short, w.queue, w.credit⟩, hr⟩

/-! ### What a placement's choice changes (R17 to R19, R50) -/

theorem mem_of_voiceSession {c : Core} {n : Session} {v : Voice} (h : c.voiceSession = some (n, v)) :
    some n ∈ c.smg.sessions ∧ n.body = .voice v := by
  obtain ⟨o, ho, hf⟩ := List.exists_of_findSome?_eq_some h
  split at hf
  · split at hf
    · rename_i hb
      cases hf
      exact ⟨ho, hb⟩
    · cases hf
  · cases hf

theorem consultTuneAway_goes (t : Time) (length : Nat) (c : Core) : Goes g e c (consultTuneAway e t length c).1 := by
  unfold consultTuneAway
  split
  · exact Goes.refl g e c
  · split
    · exact Goes.refl g e c
    · rename_i n _ _ _ tr _
      have hle := refill_credit_le e.count e.policy.creditMax e.policy.refill tr
      simp only
      split
      · have hspent : Goes g e c (c.setTraffic n.handle { tr.refill e.count e.policy.creditMax e.policy.refill with
            credit := (tr.refill e.count e.policy.creditMax e.policy.refill).credit - 1 }) :=
          setTraffic_goes _ fun _ => (Nat.sub_le _ _).trans hle
        dsimp only
        exact hspent.trans (post_goes _ _ _)
      · exact setTraffic_goes _ fun _ => hle

theorem consultTuneAway_same (t : Time) (length : Nat) (c : Core) : SameWorks c (consultTuneAway e t length c).1 := by
  unfold consultTuneAway
  split
  · exact SameWorks.refl c
  · split
    · exact SameWorks.refl c
    · simp only
      split
      · exact (setTraffic_same _ _ _).trans (post_same _ _ _)
      · exact setTraffic_same _ _ _

/-- A relation that a consultation keeps, a choice keeps. -/
theorem choose_of_consult {P : Core → Core → Prop} {c : Core} (hrefl : P c c)
    (hask : ∀ t length, P c (consultTuneAway e t length c).1) (r : Reservation) : P c (choose e r c).1 := by
  unfold choose
  split
  · exact hrefl
  · split
    · exact hrefl
    · unfold secondPass
      split
      · exact hrefl
      · exact hrefl
      · rename_i t rest hs
        have h := hask t r.length
        split
        · rename_i c1 heq
          rwa [heq] at h
        · rename_i c1 heq
          rw [heq] at h
          split <;> exact h

theorem choose_goes (r : Reservation) (c : Core) : Goes g e c (choose e r c).1 :=
  choose_of_consult (P := Goes g e) (Goes.refl g e c) (fun t length => consultTuneAway_goes t length c) r

theorem choose_same (r : Reservation) (c : Core) : SameWorks c (choose e r c).1 :=
  choose_of_consult (P := SameWorks) (SameWorks.refl c) (fun t length => consultTuneAway_same t length c) r

/-- A verdict that is not no finds GRANTED occurrences alone (R19). -/
theorem granted_of_verdict {table : List Reservation} {r : Reservation} {refused : Bool} {t : Time}
    (h : verdict e table r refused t ≠ .no) : ∀ v ∈ overlapped table t r.length, v.state = .granted := by
  intro v hv
  by_contra hs
  refine h ?_
  unfold verdict
  simp only
  rw [if_pos (List.any_eq_true.mpr ⟨v, hv, decide_eq_true hs⟩)]

theorem scanSecond_verdict {v : Time → Verdict} {n k : Nat} {t u : Time} {b : Bool} (h : scanSecond v n t = some (u, b, k)) :
    v u ≠ .no := by
  induction n generalizing t with
  | zero => cases h
  | succ n ih =>
    unfold scanSecond at h
    split at h
    · rename_i hv
      cases h
      rw [hv]
      exact fun h => nomatch h
    · rename_i hv
      cases h
      rw [hv]
      exact fun h => nomatch h
    · exact ih h

theorem firstWhere_ok {ok : Time → Bool} {n : Nat} {t u : Time} (h : firstWhere ok n t = some u) : ok u = true := by
  induction n generalizing t with
  | zero => cases h
  | succ n ih =>
    unfold firstWhere at h
    split at h
    · cases h
      assumption
    · exact ih h

/-- What a chosen start meets is GRANTED (R18, R19). -/
theorem granted_of_choose {r : Reservation} {c d : Core} {t : Time} (h : choose e r c = (d, .start t)) :
    ∀ v ∈ overlapped d.tla.table t r.length, v.state = .granted := by
  have htla : d.tla = c.tla := by
    have := (choose_same (e := e) r c).1
    rwa [h] at this
  rw [htla]
  unfold choose at h
  split at h
  · cases h
  · split at h
    · rename_i hfirst
      cases h
      have hempty := firstWhere_ok hfirst
      intro v hv
      rw [List.isEmpty_iff.mp hempty] at hv
      cases hv
    · unfold secondPass at h
      split at h
      · cases h
      · rename_i hs
        cases h
        exact granted_of_verdict (scanSecond_verdict hs)
      · rename_i u rest hs
        split at h
        · cases h
          exact granted_of_verdict (scanSecond_verdict hs)
        · rename_i c1 heq
          split at h
          · cases h
          · rename_i w hw
            cases h
            have hv := of_decide_eq_true (firstWhere_ok hw)
            rw [htla] at hv
            exact granted_of_verdict (by rw [hv]; exact fun h => nomatch h)

end Sys2Proof.Machine

/-! PROOFS. The reactions of the Timeline Arbiter, one change after another (R14 to R35). -/

namespace Sys2Proof.Machine

variable {g : Claims} {e : Env}

/-! ### Who may be given a record -/

/-- X is ATTACHED, owns a session or has an attempt: no reaction of the Timeline Arbiter changes that. -/
def Core.firm (c : Core) (x : Sub) : Prop :=
  c.attached x = true ∨ (∃ h, c.ownsSession x h = true) ∨ (c.csc.get x).phase ≠ .idle

theorem Core.firm.alive {c : Core} {x : Sub} (h : c.firm x) : c.alive x := by
  rcases h with h | ⟨k, h⟩ | h
  · exact .inl h
  · obtain ⟨n, hn, -, rfl⟩ := ownsSession_iff.mp h
    exact alive_of_session (mem_sessions_iff.mpr ⟨_, hn⟩)
  · exact alive_of_phase h

theorem Abides.firm {c d : Core} (h : Abides c d) {x : Sub} : d.firm x ↔ c.firm x := by
  unfold Core.firm
  rw [h.attached, h.csc]
  simp only [h.owns]

/-! ### Records that nothing holds on to -/

/-- A record that is GRANTED or SEEKING has no preparation, no view and no lines. -/
theorem free_of_idle {c : Core} {h : Handle} (w : c.Works)
    (hs : ∀ r ∈ c.tla.table, r.handle = h → r.state = .granted ∨ r.state = .seeking) : c.Free h := by
  refine ⟨fun p hp hh => ?_, fun v hv hh => ?_, fun high => ?_⟩
  · obtain ⟨r, hr, hrh, -, hrs, -⟩ := w.prep p hp
    have := hs r hr (hrh.trans hh)
    rw [hrs] at this
    rcases this with h | h <;> cases h
  · obtain ⟨r, hr, hrh, -, hrs⟩ := w.view v hv
    have := hs r hr (hrh.trans hh)
    rcases hrs with hrs | hrs <;> rw [hrs] at this <;> rcases this with h | h <;> cases h
  · obtain ⟨r, hr, hd⟩ := w.lines high
    refine ⟨r, hr, fun hh => ?_, hd⟩
    have := hs r hr hh
    rw [state_of_drives hd] at this
    rcases this with h | h <;> cases h

theorem free_of_mem {c : Core} {r : Reservation} (w : c.Works) (hr : r ∈ c.tla.table)
    (hs : r.state = .granted ∨ r.state = .seeking) : c.Free r.handle :=
  free_of_idle w fun q hq hh => by rwa [handle_inj w.table hq hr hh]

/-! ### Ends, losses and notices (R14, R15, R20, R25) -/

theorem endRecord_goes {reason : EndReason} {reported : Bool} {r : Reservation} {c : Core}
    (h : g.works → c.Free r.handle) : Goes g e c (endRecord e reason reported r c) := by
  have hpost : ∀ (b : Bool) (ev : Core → Core) (c : Core), (∀ c, Goes g e c (ev c)) → Goes g e c (if b then ev c else c) := by
    intro b ev c hev
    split
    · exact hev c
    · exact Goes.refl g e c
  have hdrop : Goes g e c (c.dropRecord r.handle) := (Change.drop _ h).goes
  exact (((hdrop.trans (hpost _ (postEnded e r reason) _ fun c => post_goes _ _ c)).trans
    (hpost _ (postKilled e r) _ fun c => post_goes _ _ c)).trans (tell_goes _ _)).trans (freedNotice_goes _)

theorem tellLost_goes (r : Reservation) (c : Core) : Goes g e c (tellLost r c) := by
  unfold tellLost
  split
  · exact tell_goes _ c
  · exact tell_goes _ c
  · exact Goes.refl g e c

theorem tellSkipped_goes (r : Reservation) (c : Core) : Goes g e c (tellSkipped r c) := by
  unfold tellSkipped
  split
  · exact tell_goes _ c
  · exact tellLost_goes r c

/-- A record takes its place in the table anew, without an occurrence. -/
theorem putSeeking_goes {r : Reservation} {c : Core} {lost : Nat} (hmem : g.table → ∃ q ∈ c.tla.table, q.handle = r.handle
      ∧ q.owner = r.owner ∧ ∀ w ∈ r.staged, w ∈ q.staged)
    (howned : g.sessions → ∀ h ∈ r.session, c.ownsSession r.owner h = true) (hfree : g.works → c.Free r.handle) :
    Goes g e c (c.putRecord { r with state := .seeking, lost := lost }) :=
  (Change.put { r with state := .seeking, lost := lost } hmem howned fun hg => ⟨hfree hg, .inl rfl⟩).goes

theorem skipOccurrence_goes {r : Reservation} {c : Core} (hmem : g.table → ∃ q ∈ c.tla.table, q.handle = r.handle
      ∧ q.owner = r.owner ∧ ∀ w ∈ r.staged, w ∈ q.staged)
    (howned : g.sessions → ∀ h ∈ r.session, c.ownsSession r.owner h = true) (hfree : g.works → c.Free r.handle) :
    Goes g e c (skipOccurrence e r c) := by
  unfold skipOccurrence
  split
  · exact (endRecord_goes hfree).trans (tellSkipped_goes _ _)
  · exact ((putSeeking_goes hmem howned hfree).trans (post_goes _ _ _)).trans (tellSkipped_goes _ _)

theorem removeVictim_goes {r : Reservation} {c : Core} (hmem : g.table → r ∈ c.tla.table)
    (hs : r.state = .granted) (howned : g.sessions → ∀ h ∈ r.session, c.ownsSession r.owner h = true) :
    Goes g e c (removeVictim e c r) := by
  refine goes_of_sound fun w => ?_
  have hfree : g.works → c.Free r.handle := fun hg => free_of_mem (w.works hg) (hmem (g.table_of_works hg)) (.inl hs)
  unfold removeVictim
  split
  · exact (endRecord_goes hfree).trans (tellLost_goes _ _)
  · exact (((putSeeking_goes (fun hg => ⟨r, hmem hg, rfl, rfl, fun _ h => h⟩) howned hfree).trans (post_goes _ _ _)).trans
      (tellLost_goes _ _)).trans (tableNotice_goes _)

/-! ### What they leave in the table -/

theorem tellLost_tla (r : Reservation) (c : Core) : (tellLost r c).tla = c.tla := by
  unfold tellLost
  split <;> rfl

theorem tellSkipped_tla (r : Reservation) (c : Core) : (tellSkipped r c).tla = c.tla := by
  unfold tellSkipped
  split
  · rfl
  · exact tellLost_tla r c

/-- The table after a victim has been removed or an occurrence skipped: the record is gone, or has no occurrence. -/
structure Lifted (h : Handle) (c d : Core) : Prop where
  other : ∀ q ∈ c.tla.table, q.handle ≠ h → q ∈ d.tla.table
  from_ : ∀ q ∈ d.tla.table, (q ∈ c.tla.table ∧ q.handle ≠ h) ∨ (q.handle = h ∧ q.state = .seeking)

theorem lifted_drop {c d : Core} {h : Handle} (hd : d.tla = (c.dropRecord h).tla) : Lifted h c d := by
  constructor
  · rw [hd]
    exact fun q hq hh => mem_dropRecord.mpr ⟨hq, hh⟩
  · rw [hd]
    exact fun q hq => .inl (mem_dropRecord.mp hq)

theorem lifted_put {c d : Core} {r : Reservation} (hd : d.tla = (c.putRecord r).tla) (hs : r.state = .seeking) :
    Lifted r.handle c d := by
  constructor
  · rw [hd]
    exact fun q hq hh => mem_putRecord.mpr (.inr ⟨hq, hh⟩)
  · rw [hd]
    intro q hq
    rcases mem_putRecord.mp hq with rfl | h
    · exact .inr ⟨rfl, hs⟩
    · exact .inl h

theorem removeVictim_lifted (r : Reservation) (c : Core) : Lifted r.handle c (removeVictim e c r) := by
  unfold removeVictim
  split
  · exact lifted_drop (by rw [tellLost_tla, endRecord_tla])
  · exact lifted_put (r := { r with state := .seeking, lost := saturate Config.starveCount (r.lost + 1) })
      (by rw [tableNotice_tla, tellLost_tla]; exact post_tla ..) rfl

theorem skipOccurrence_lifted (r : Reservation) (c : Core) : Lifted r.handle c (skipOccurrence e r c) := by
  unfold skipOccurrence
  split
  · exact lifted_drop (by rw [tellSkipped_tla, endRecord_tla])
  · exact lifted_put (r := { r with state := .seeking, lost := saturate Config.starveCount (r.lost + 1) })
      (by rw [tellSkipped_tla]; exact post_tla ..) rfl

theorem removeVictim_keys {r : Reservation} {c : Core} (hr : r ∈ c.tla.table) :
    ((removeVictim e c r).tla.table.map Reservation.key).Subperm (c.tla.table.map Reservation.key) := by
  unfold removeVictim
  split
  · rw [tellLost_tla, endRecord_tla]
    exact dropRecord_keys c r.handle
  · rw [tableNotice_tla, tellLost_tla]
    simp only [postLost, post_tla]
    exact putRecord_keys hr rfl rfl

/-! ### The victims of a placement (R20) -/

/-- Records that can be removed one after another: different GRANTED ones of the table, that name sessions of their
owners'. -/
structure Victims (g : Claims) (c : Core) (vs : List Reservation) : Prop where
  mem : g.table → ∀ v ∈ vs, v ∈ c.tla.table
  apart : g.table → vs.Pairwise fun v u => v.handle ≠ u.handle
  granted : ∀ v ∈ vs, v.state = .granted
  owned : g.sessions → ∀ v ∈ vs, ∀ h ∈ v.session, c.ownsSession v.owner h = true

theorem removeVictim_abides (r : Reservation) (c : Core) (hs : r.state = .granted) : Abides c (removeVictim e c r) :=
  (removeVictim_goes False.elim hs False.elim).abides

theorem Victims.tail {c : Core} {v : Reservation} {vs : List Reservation} (h : Victims g c (v :: vs)) :
    Victims g (removeVictim e c v) vs where
  mem := fun hg u hu => (removeVictim_lifted v c).other u (h.mem hg u (List.mem_cons_of_mem _ hu))
    fun hh => List.rel_of_pairwise_cons (h.apart hg) hu hh.symm
  apart := fun hg => (List.pairwise_cons.mp (h.apart hg)).2
  granted := fun u hu => h.granted u (List.mem_cons_of_mem _ hu)
  owned := fun hg u hu k hk => by
    rw [(removeVictim_abides v c (h.granted v (List.mem_cons_self ..))).owns]
    exact h.owned hg u (List.mem_cons_of_mem _ hu) k hk

theorem removeVictims_goes {vs : List Reservation} {c : Core} (h : Victims g c vs) :
    Goes g e c (vs.foldl (removeVictim e) c) := by
  induction vs generalizing c with
  | nil => exact Goes.refl g e c
  | cons v vs ih =>
    have hv := List.mem_cons_self (a := v) (l := vs)
    exact (removeVictim_goes (fun hg => h.mem hg v hv) (h.granted v hv) fun hg => h.owned hg v hv).trans (ih h.tail)

theorem removeVictims_abides {vs : List Reservation} {c : Core} (h : ∀ v ∈ vs, v.state = .granted) :
    Abides c (vs.foldl (removeVictim e) c) :=
  (removeVictims_goes ⟨False.elim, False.elim, h, False.elim⟩).abides

theorem removeVictims_keys {vs : List Reservation} {c : Core} (hg : g.table) (h : Victims g c vs) :
    ((vs.foldl (removeVictim e) c).tla.table.map Reservation.key).Subperm (c.tla.table.map Reservation.key) := by
  induction vs generalizing c with
  | nil => exact List.Subperm.refl _
  | cons v vs ih => exact (ih h.tail).trans (removeVictim_keys (h.mem hg v (List.mem_cons_self ..)))

theorem removeVictims_other {vs : List Reservation} {c : Core} {q : Reservation} (hq : q ∈ c.tla.table)
    (hh : ∀ v ∈ vs, q.handle ≠ v.handle) : q ∈ (vs.foldl (removeVictim e) c).tla.table := by
  induction vs generalizing c with
  | nil => exact hq
  | cons v vs ih =>
    exact ih ((removeVictim_lifted v c).other q hq (hh v (List.mem_cons_self ..)))
      fun u hu => hh u (List.mem_cons_of_mem _ hu)

theorem removeVictims_from {vs : List Reservation} {c : Core} {q : Reservation}
    (hq : q ∈ (vs.foldl (removeVictim e) c).tla.table) :
    (q ∈ c.tla.table ∧ ∀ v ∈ vs, q.handle ≠ v.handle) ∨ q.state = .seeking := by
  induction vs generalizing c with
  | nil => exact .inl ⟨hq, fun v hv => nomatch hv⟩
  | cons v vs ih =>
    rcases ih hq with ⟨hq, hh⟩ | hs
    · rcases (removeVictim_lifted v c).from_ q hq with ⟨hq, hv⟩ | ⟨-, hs⟩
      · exact .inl ⟨hq, fun u hu => by
          rcases List.mem_cons.mp hu with rfl | hu
          · exact hv
          · exact hh u hu⟩
      · exact .inr hs
    · exact .inr hs

theorem handles_of_tableLaw {c : Core} (h : c.TableLaw) : c.tla.table.Pairwise fun r q => r.handle ≠ q.handle := by
  obtain ⟨-, -, -, -, hp, -⟩ := h
  exact hp.imp fun hne hh => hne (congrArg Handle.index hh)

/-- A victim that repeats keeps its place in the table. -/
theorem removeVictims_repeating {vs : List Reservation} {c : Core} (h : vs.Pairwise fun v u => v.handle ≠ u.handle)
    {v : Reservation} (hv : v ∈ vs) (hr : v.repeats.isSome = true) :
    ∃ q ∈ (vs.foldl (removeVictim e) c).tla.table, q.handle = v.handle := by
  induction vs generalizing c with
  | nil => cases hv
  | cons u vs ih =>
    rcases List.mem_cons.mp hv with rfl | hv
    · obtain ⟨p, hp⟩ := Option.isSome_iff_exists.mp hr
      refine ⟨{ v with state := .seeking, lost := saturate Config.starveCount (v.lost + 1) }, ?_, rfl⟩
      refine removeVictims_other (vs := vs) (c := removeVictim e c v) ?_ fun w hw => List.rel_of_pairwise_cons h hw
      unfold removeVictim
      simp only [hp]
      rw [tableNotice_tla, tellLost_tla]
      simp only [postLost, post_tla]
      exact mem_putRecord.mpr (.inl rfl)
    · exact ih (List.pairwise_cons.mp h).2 hv

/-- The occurrences that a chosen start meets can be removed. -/
theorem victims_of_choose {r : Reservation} {c d : Core} {t : Time} (w : Sound g e c) (h : choose e r c = (d, .start t)) :
    Victims g d (overlapped d.tla.table t r.length) := by
  have hsame : SameWorks c d := by
    have := choose_same (e := e) r c
    rwa [h] at this
  have hd : Sound g e d := by
    have := (choose_goes (g := g) (e := e) r c).sound w
    rwa [h] at this
  refine ⟨fun _ v hv => (List.mem_filter.mp hv).1, fun hg => (handles_of_tableLaw (hd.table hg)).filter _, granted_of_choose h,
    fun hg v hv k hk => ?_⟩
  exact (hd.sessions hg).named (List.mem_filter.mp hv).1 hk

/-! ### Placing (R20, R23, R24, R28) -/

theorem forceAwake_same (c : Core) : SameWorks c (forceAwake c) := by
  obtain ⟨p, h⟩ := forceAwake_frame c
  rw [h]
  exact SameWorks.refl c

theorem askPreparation_goes {h : Handle} {c : Core}
    (hg : g.works → ∀ r ∈ c.tla.table, r.handle = h → r.state = .granted) : Goes g e c (askPreparation e h c) := by
  refine goes_of_sound fun w => ?_
  have htla : (forceAwake c).tla = c.tla := (forceAwake_same c).1
  have hasked : Goes g e c ((forceAwake c).editReservation h fun r => { r with state := .preparing }) :=
    (forceAwake_goes c).trans (Change.prepares h (by rw [htla]; exact hg)).goes
  unfold askPreparation
  simp only
  split
  · exact hasked
  · rename_i r hr
    have hrmem := mem_of_reservation hr
    have hrh := handle_of_reservation hr
    obtain ⟨q, hq, heq⟩ := mem_editReservation.mp hrmem
    have hqh : q.handle = h := by
      by_contra hne
      rw [if_neg hne] at heq
      exact hne (heq ▸ hrh)
    rw [if_pos hqh] at heq
    refine hasked.trans (beginPreparation_goes hrmem (by rw [← heq]) fun hw => ?_)
    rw [htla] at hq
    rw [← heq]
    exact (w.works hw).granted q hq (hg hw q hq hqh)

/-- An occurrence put in the table is worked on. -/
theorem placeAt_tail_goes (r : Reservation) (t : Time) (c : Core) :
    Goes g e (c.putRecord (r.grant t)) (placeAt e r t c) := by
  have hnoticed := tableNotice_goes (g := g) (e := e) (c.putRecord (r.grant t))
  unfold placeAt
  simp only
  split
  · refine hnoticed.trans (askPreparation_goes fun _ q hq hh => ?_)
    rw [tableNotice_tla] at hq
    rcases mem_putRecord.mp hq with rfl | ⟨-, hne⟩
    · rfl
    · exact absurd hh hne
  · exact hnoticed

/-- A record placed in the table anew has been there without an occurrence. -/
theorem placeAt_goes {r : Reservation} {t : Time} {c : Core} (hmem : g.table → ∃ q ∈ c.tla.table, q.handle = r.handle
      ∧ q.owner = r.owner ∧ ∀ w ∈ r.staged, w ∈ q.staged)
    (howned : g.sessions → ∀ h ∈ r.session, c.ownsSession r.owner h = true) (hfree : g.works → c.Free r.handle) :
    Goes g e c (placeAt e r t c) :=
  (Change.put (r.grant t) hmem howned fun hg => ⟨hfree hg, .inr ⟨rfl, rfl⟩⟩).goes.trans (placeAt_tail_goes r t c)

/-- The table after a placement: the record placed, and the others as they were. -/
theorem placeAt_from {r : Reservation} {t : Time} {c : Core} {q : Reservation} (hq : q ∈ (placeAt e r t c).tla.table) :
    q.handle = r.handle ∨ q ∈ c.tla.table := by
  by_cases ht : t = e.count + 4
  · rw [placeAt_tla_of_eq ht] at hq
    obtain ⟨u, hu, rfl⟩ := mem_editReservation.mp hq
    rcases mem_putRecord.mp hu with rfl | ⟨hu, -⟩
    · left
      split <;> rfl
    · split
      · rename_i hh
        exact .inl hh
      · exact .inr hu
  · rw [placeAt_tla_of_ne ht] at hq
    rcases mem_putRecord.mp hq with rfl | ⟨hq, -⟩
    · exact .inl rfl
    · exact .inr hq

/-! ### Next occurrences (R21, R24 to R26) -/

/-- Records to seek occurrences for: different ones, that have none. -/
def Todos (c : Core) (tds : List Todo) : Prop :=
  (tds.map Todo.handle).Nodup ∧ ∀ td ∈ tds, ∀ r ∈ c.tla.table, r.handle = td.handle → r.state = .seeking

theorem Todos.tail {c : Core} {td : Todo} {tds : List Todo} (h : Todos c (td :: tds)) : Todos c tds :=
  ⟨(List.nodup_cons.mp h.1).2, fun u hu => h.2 u (List.mem_cons_of_mem _ hu)⟩

theorem Todos.head {c : Core} {td : Todo} {tds : List Todo} (h : Todos c (td :: tds)) :
    ∀ r ∈ c.tla.table, r.handle = td.handle → r.state = .seeking := h.2 td (List.mem_cons_self ..)

theorem Todos.lifted {c d : Core} {h : Handle} {tds : List Todo} (hl : Lifted h c d) (ht : Todos c tds) : Todos d tds :=
  ⟨ht.1, fun td htd r hr hh => by
    rcases hl.from_ r hr with ⟨hr, -⟩ | ⟨-, hs⟩
    · exact ht.2 td htd r hr hh
    · exact hs⟩

/-- A record put back without an occurrence may be sought for again. -/
theorem Todos.again {c : Core} {td : Todo} {tds : List Todo} (b : Bool) (ht : Todos c (td :: tds)) :
    Todos c (⟨td.handle, b⟩ :: tds) :=
  ⟨ht.1, fun u hu => by
    rcases List.mem_cons.mp hu with rfl | hu
    · exact ht.head
    · exact ht.2 u (List.mem_cons_of_mem _ hu)⟩

theorem prepare_record (td : Todo) (r : Reservation) : (td.prepare r).handle = r.handle ∧ (td.prepare r).owner = r.owner
    ∧ (td.prepare r).session = r.session ∧ (td.prepare r).staged = r.staged ∧ (td.prepare r).state = r.state := by
  unfold Todo.prepare Reservation.advance
  split
  · split <;> exact ⟨rfl, rfl, rfl, rfl, rfl⟩
  · exact ⟨rfl, rfl, rfl, rfl, rfl⟩

theorem mem_repeatingTodo {vs : List Reservation} {td : Todo} (h : td ∈ repeatingTodo vs) :
    ∃ v ∈ vs, v.repeats.isSome = true ∧ td.handle = v.handle := by
  obtain ⟨v, hv, rfl⟩ := List.mem_map.mp h
  exact ⟨v, (List.mem_filter.mp hv).1, (List.mem_filter.mp hv).2, rfl⟩

theorem repeatingTodo_nodup {vs : List Reservation} (h : vs.Pairwise fun v u => v.handle ≠ u.handle) :
    ((repeatingTodo vs).map Todo.handle).Nodup := by
  unfold repeatingTodo
  rw [List.map_map]
  exact List.pairwise_map.mpr (h.filter _)

/-- The victims' next occurrences may be sought after they have been removed and the record placed. -/
theorem todos_of_victims {c d : Core} {vs : List Reservation} {h : Handle} {tds : List Todo}
    (hvs : vs.Pairwise fun v u => v.handle ≠ u.handle) (hgranted : ∀ v ∈ vs, v.state = .granted ∧ v ∈ c.tla.table)
    (hh : ∀ td ∈ repeatingTodo vs, td.handle ≠ h) (ht : Todos c tds) (hth : ∀ td ∈ tds, td.handle ≠ h)
    (hd : ∀ q ∈ d.tla.table, q.handle = h ∨ q ∈ (vs.foldl (removeVictim e) c).tla.table) :
    Todos d (repeatingTodo vs ++ tds) := by
  constructor
  · rw [List.map_append, List.nodup_append]
    refine ⟨repeatingTodo_nodup hvs, ht.1, fun a ha b hb hab => ?_⟩
    obtain ⟨td, htd, rfl⟩ := List.mem_map.mp ha
    obtain ⟨td', htd', rfl⟩ := List.mem_map.mp hb
    obtain ⟨v, hv, -, hveq⟩ := mem_repeatingTodo htd
    obtain ⟨hs, hvc⟩ := hgranted v hv
    have := ht.2 td' htd' v hvc (hveq.symm.trans hab)
    rw [hs] at this
    cases this
  · intro td htd r hr hrh
    have hne : td.handle ≠ h := by
      rcases List.mem_append.mp htd with htd | htd
      · exact hh td htd
      · exact hth td htd
    have hr := (hd r hr).resolve_left fun h => hne (hrh.symm.trans h)
    rcases removeVictims_from hr with ⟨hrc, hnot⟩ | hs
    · rcases List.mem_append.mp htd with htd | htd
      · obtain ⟨v, hv, -, hveq⟩ := mem_repeatingTodo htd
        exact absurd (hrh.trans hveq) (hnot v hv)
      · exact ht.2 td htd r hrc hrh
    · exact hs

theorem seekOne_goes {td : Todo} {c : Core}
    (ht : g.table → ∀ r ∈ c.tla.table, r.handle = td.handle → r.state = .seeking) : Goes g e c (seekOne e td c).1 := by
  refine goes_of_sound fun w => ?_
  unfold seekOne
  split
  · exact Goes.refl g e c
  · rename_i r hr
    have hrmem := mem_of_reservation hr
    have hrh := handle_of_reservation hr
    obtain ⟨hph, hpo, hps, hpst, hpstate⟩ := prepare_record td r
    have hseeking : g.table → r.state = .seeking := fun hg => ht hg r hrmem hrh
    have hfree : g.works → c.Free r.handle := fun hg =>
      free_of_mem (w.works hg) hrmem (.inr (hseeking (g.table_of_works hg)))
    have howned : g.sessions → ∀ h ∈ (td.prepare r).session, c.ownsSession (td.prepare r).owner h = true := fun hg h hh => by
      rw [hpo]
      exact (w.sessions hg).named hrmem (hps ▸ hh)
    have hfound : ∀ d : Core, r ∈ d.tla.table → ∃ q ∈ d.tla.table, q.handle = (td.prepare r).handle
        ∧ q.owner = (td.prepare r).owner ∧ ∀ s ∈ (td.prepare r).staged, s ∈ q.staged := fun d hd =>
      ⟨r, hd, hph.symm, hpo.symm, fun s hs => hpst ▸ hs⟩
    split
    · exact endRecord_goes hfree
    · simp only
      split
      · refine (Change.put (td.prepare r) (fun _ => hfound c hrmem) howned fun hg => ⟨by rw [hph]; exact hfree hg, .inl ?_⟩).goes
        rw [hpstate]
        exact hseeking (g.table_of_works hg)
      · have hchoose := choose_goes (g := g) (e := e) (td.prepare r) c
        have hsame := choose_same (e := e) (td.prepare r) c
        have habides : Abides c (choose e (td.prepare r) c).1 := (choose_goes (td.prepare r) c).abides
        split
        · rename_i c1 t heq
          have hvictims := victims_of_choose w heq
          rw [heq] at hchoose hsame habides
          have hrc1 : r ∈ c1.tla.table := by rw [hsame.1]; exact hrmem
          have hother : g.table → ∀ v ∈ overlapped c1.tla.table t (td.prepare r).length, r.handle ≠ v.handle :=
            fun hg v hv hh => by
              have hvc : v ∈ c.tla.table := hsame.1 ▸ (List.mem_filter.mp hv).1
              have := handle_inj (w.table hg) hrmem hvc hh
              have hs := hvictims.granted v hv
              rw [← this, hseeking hg] at hs
              cases hs
          have hremoved := removeVictims_goes (e := e) hvictims
          have hremovedAbides := removeVictims_abides (e := e) (c := c1) hvictims.granted
          refine hchoose.trans (hremoved.trans (goes_of_sound fun w2 => placeAt_goes (fun hg => ?_) (fun hg h hh => ?_) fun hg => ?_))
          · exact hfound _ (removeVictims_other hrc1 (hother hg))
          · rw [hremovedAbides.owns, habides.owns]
            exact howned hg h hh
          · rw [hph]
            have hg' := g.table_of_works hg
            exact free_of_mem (w2.works hg) (removeVictims_other hrc1 (hother hg')) (.inr (hseeking hg'))
        · rename_i c1 how heq hne
          rw [hne] at hchoose hsame habides
          refine hchoose.trans (skipOccurrence_goes (fun _ => hfound c1 (by rw [hsame.1]; exact hrmem)) (fun hg h hh => ?_)
            fun hg => ?_)
          · rw [habides.owns]
            exact howned hg h hh
          · rw [hph]
            exact hsame.free (hfree hg)

theorem seekOne_todos {td : Todo} {tds : List Todo} {c : Core} (w : c.TableLaw) (ht : Todos c (td :: tds)) :
    Todos (seekOne e td c).1 ((seekOne e td c).2 ++ tds) := by
  unfold seekOne
  split
  · exact ht.tail
  · rename_i r hr
    have hrmem := mem_of_reservation hr
    have hrh := handle_of_reservation hr
    obtain ⟨hph, hpo, hps, hpst, hpstate⟩ := prepare_record td r
    have hseeking : r.state = .seeking := ht.head r hrmem hrh
    split
    · exact ht.tail.lifted (lifted_drop (endRecord_tla ..))
    · simp only
      split
      · exact (ht.lifted (lifted_put rfl (hpstate.trans hseeking))).again true
      · have hsame := choose_same (e := e) (td.prepare r) c
        split
        · rename_i c1 t heq
          rw [heq] at hsame
          have hgranted := granted_of_choose heq
          have hvc : ∀ v ∈ overlapped c1.tla.table t (td.prepare r).length, v ∈ c1.tla.table :=
            fun v hv => (List.mem_filter.mp hv).1
          have ht1 : Todos c1 (td :: tds) := ⟨ht.1, by rw [hsame.1]; exact ht.2⟩
          have hhandles : c1.tla.table.Pairwise fun v u => v.handle ≠ u.handle := by rw [hsame.1]; exact handles_of_tableLaw w
          refine todos_of_victims (e := e) (c := c1) (h := td.handle) (hhandles.filter _)
            (fun v hv => ⟨hgranted v hv, hvc v hv⟩) (fun u hu hh => ?_) ht1.tail (fun u hu hh => ?_) fun q hq => ?_
          · obtain ⟨v, hv, -, hveq⟩ := mem_repeatingTodo hu
            have := ht1.head v (hvc v hv) (hveq.symm.trans hh)
            rw [hgranted v hv] at this
            cases this
          · exact (List.nodup_cons.mp ht.1).1 (hh ▸ List.mem_map_of_mem hu)
          · exact (placeAt_from hq).imp_left fun h => h.trans (hph.trans hrh)
        · rename_i c1 how heq hne
          rw [hne] at hsame
          have ht1 : Todos c1 (td :: tds) := ⟨ht.1, by rw [hsame.1]; exact ht.2⟩
          have hlifted := skipOccurrence_lifted (e := e) (td.prepare r) c1
          split
          · exact (ht1.lifted hlifted).again true
          · exact ht1.tail.lifted hlifted

theorem seekAll_goes {n : Nat} {tds : List Todo} {c : Core} (ht : g.table → Todos c tds) :
    Goes g e c (seekAll e n tds c) := by
  induction n generalizing tds c with
  | zero => exact Goes.refl g e c
  | succ n ih =>
    cases tds with
    | nil => exact Goes.refl g e c
    | cons td tds =>
      refine goes_of_sound fun w => ?_
      have hone : Goes g e c (seekOne e td c).1 := seekOne_goes fun hg => (ht hg).head
      exact hone.trans (ih fun hg => seekOne_todos (w.table hg) (ht hg))

/-! ### Creation (R11, R12, R22) -/

theorem roomFor_of_subperm {c d : Core} {x : Sub}
    (h : (d.tla.table.map Reservation.key).Subperm (c.tla.table.map Reservation.key)) (room : roomFor c x = true) :
    roomFor d x = true := by
  have howned : ∀ c : Core, ((c.tla.table.map Reservation.key).filter fun k => decide (k.2 = x)).length
      = (c.tla.table.filter fun r => decide (r.owner = x)).length := fun c => by
    rw [List.filter_map, List.length_map]
    rfl
  have hlen := h.length_le
  have hfilter := (h.filter fun k => decide (k.2 = x)).length_le
  rw [List.length_map, List.length_map] at hlen
  rw [howned, howned] at hfilter
  unfold roomFor at room ⊢
  rw [Bool.and_eq_true, decide_eq_true_eq, decide_eq_true_eq] at room ⊢
  exact ⟨by omega, by omega⟩

theorem createRecord_goes {r : Reservation} {c : Core} (hfirm : g.works → c.firm r.owner)
    (howned : g.sessions → ∀ h ∈ r.session, c.ownsSession r.owner h = true) (hst : r.staged = []) :
    Goes g e c (createRecord e r c).1 := by
  refine goes_of_sound fun w => ?_
  unfold createRecord
  split
  · rename_i room
    have hchoose := choose_goes (g := g) (e := e) r c
    have hsame := choose_same (e := e) r c
    have habides : Abides c (choose e r c).1 := (choose_goes r c).abides
    split
    · rename_i c1 heq
      rwa [heq] at hchoose
    · rename_i c1 refused heq
      rwa [heq] at hchoose
    · rename_i c1 t heq
      have hvictims := victims_of_choose w heq
      rw [heq] at hchoose hsame habides
      have hremoved := removeVictims_goes (e := e) hvictims
      have hall := habides.trans (removeVictims_abides (e := e) (c := c1) hvictims.granted)
      simp only
      generalize hc2 : (overlapped c1.tla.table t r.length).foldl (removeVictim e) c1 = c2 at *
      have hcreate : Goes g e c2 ((c2.takeHandle (newHandle c2.tla)).putRecord
          (({ r with handle := newHandle c2.tla } : Reservation).grant t)) := by
        refine (Change.create (({ r with handle := newHandle c2.tla } : Reservation).grant t) (fun hg => ?_) rfl
          (fun hg => (hall.firm.mpr (hfirm hg)).alive) (fun hg h hh => ?_) hst rfl rfl).goes
        · refine roomFor_of_subperm (c := c) ?_ room
          rw [← hc2, ← hsame.1]
          exact removeVictims_keys (e := e) hg hvictims
        · rw [hall.owns]
          exact howned hg h hh
      refine hchoose.trans (hremoved.trans ((hcreate.trans (placeAt_tail_goes (e := e)
        { r with handle := newHandle c2.tla } t (c2.takeHandle (newHandle c2.tla)))).trans
          (goes_of_sound fun w3 => seekAll_goes fun hg => ?_)))
      have hc1 : Sound g e c1 := hchoose.sound w
      have hc2' : Sound g e c2 := hremoved.sound hc1
      have hfresh : ∀ q ∈ c2.tla.table, q.handle ≠ newHandle c2.tla := by
        intro q hq hh
        have hroom : roomFor c2 r.owner = true := by
          refine roomFor_of_subperm (c := c) ?_ room
          rw [← hc2, ← hsame.1]
          exact removeVictims_keys (e := e) hg hvictims
        have hfilter := (createRecord_keys (r := { r with handle := newHandle c2.tla }) (hc2'.table hg) hroom rfl).1
        have := List.filter_eq_self.mp hfilter q hq
        exact of_decide_eq_true this hh
      have htodos := todos_of_victims (e := e) (c := c1)
        (d := placeAt e { r with handle := newHandle c2.tla } t (c2.takeHandle (newHandle c2.tla)))
        (h := newHandle c2.tla) (tds := []) (hvictims.apart hg) (fun v hv => ⟨hvictims.granted v hv, hvictims.mem hg v hv⟩)
        (fun td htd hh => ?_) ⟨List.nodup_nil, fun u hu => nomatch hu⟩ (fun u hu => nomatch hu) fun q hq => ?_
      · rwa [List.append_nil] at htodos
      · obtain ⟨v, hv, hrep, hveq⟩ := mem_repeatingTodo htd
        obtain ⟨q, hq, hqh⟩ := removeVictims_repeating (e := e) (hvictims.apart hg) hv hrep (c := c1)
        exact hfresh q (hc2 ▸ hq) (hqh.trans (hveq.symm.trans hh))
      · rw [hc2]
        exact placeAt_from hq
  · exact Goes.refl g e c

end Sys2Proof.Machine

/-! PROOFS. Windows, withdrawals, shifts and teardowns of the Timeline Arbiter, one change after another (R27 to R35). -/

namespace Sys2Proof.Machine

variable {g : Claims} {e : Env}

/-! ### Windows that close (R31, R32, R34, R131) -/

theorem closeWindow_goes (t : Time) (r : Reservation) (c : Core) : Goes g e c (closeWindow e t r c) :=
  (Change.lowerLines.goes.trans (viewNone_goes _ _)).trans (closeView_goes _ _)

theorem truncate_goes (r : Reservation) (c : Core) : Goes g e c (truncate e r c) :=
  (closeWindow_goes _ r c).trans (windowEndNotice_goes _)

theorem stopOccurrence_goes (r : Reservation) (c : Core) : Goes g e c (stopOccurrence e r c) := by
  unfold stopOccurrence
  split
  · exact dropPreparation_goes _ c
  · exact truncate_goes r c
  · exact Goes.refl g e c

theorem viewNone_work (h : Handle) (c : Core) : (viewNone e h c).tla = c.tla ∧ (viewNone e h c).rcc.prep = c.rcc.prep
    ∧ ∀ v ∈ (viewNone e h c).rcc.view, v ∈ c.rcc.view ∧ v.handle ≠ h := by
  unfold viewNone
  split
  · rename_i hn
    exact ⟨rfl, rfl, fun v hv => by rw [hn] at hv; cases hv⟩
  · rename_i v hv
    simp only
    split
    · obtain ⟨ht, hp, hv'⟩ := (examineIfHeld_same (e := e) v.owner.other { c with rcc := { c.rcc with view := none } }).trans
        (examineIfHeld_same (e := e) v.owner _)
      exact ⟨ht, hp, fun u hu => by rw [hv'] at hu; cases hu⟩
    · rename_i hne
      exact ⟨rfl, rfl, fun u hu => ⟨hu, by rw [hv] at hu; cases hu; exact hne⟩⟩

/-- An ACTIVE record has no preparation. -/
theorem prep_of_active {c : Core} {r : Reservation} (w : c.Works) (hr : r ∈ c.tla.table) (hs : r.state = .active) :
    ∀ p ∈ c.rcc.prep, p.handle ≠ r.handle := by
  intro p hp hh
  obtain ⟨q, hq, hqh, -, hqs, -⟩ := w.prep p hp
  rw [handle_inj w.table hq hr (hqh.trans hh), hs] at hqs
  cases hqs

theorem closeWindow_free {t : Time} {r : Reservation} {c : Core} (w : c.Works) (hr : r ∈ c.tla.table)
    (hs : r.state = .active) : (closeWindow e t r c).Free r.handle := by
  refine (closeView_same t _).free ?_
  obtain ⟨ht, hp, hv⟩ := viewNone_work (e := e) r.handle (lowerLines c)
  refine ⟨fun p hpp => ?_, fun v hvv => (hv v hvv).2, fun high => ?_⟩
  · rw [hp] at hpp
    exact prep_of_active w hr hs p hpp
  · rw [ht] at high
    cases high

theorem dropPreparation_free {r : Reservation} {c : Core} (w : c.Works) (hr : r ∈ c.tla.table)
    (hs : r.state = .preparing) : (dropPreparation e r.handle c).Free r.handle := by
  obtain ⟨ht, hp, hv⟩ := viewNone_work (e := e) r.handle { c with rcc := c.rcc.closePrep r.handle }
  refine ⟨fun p hpp => ?_, fun v hvv => (hv v hvv).2, fun high => ?_⟩
  · change p ∈ (viewNone e r.handle { c with rcc := c.rcc.closePrep r.handle }).rcc.prep at hpp
    rw [hp] at hpp
    exact (closePrep_prep c.rcc r.handle p hpp).2
  · change ((viewNone e r.handle _).tla.rxEn || (viewNone e r.handle _).tla.txEn) = true at high
    change ∃ q ∈ (viewNone e r.handle _).tla.table, q.handle ≠ r.handle ∧ q.drives (viewNone e r.handle _).tla = true
    rw [ht] at high ⊢
    obtain ⟨q, hq, hd⟩ := w.lines high
    refine ⟨q, hq, fun hh => ?_, hd⟩
    have := state_of_drives hd
    rw [handle_inj w.table hq hr hh, hs] at this
    cases this

theorem dropPreparation_tla (h : Handle) (c : Core) : (dropPreparation e h c).tla = c.tla :=
  (viewNone_work (e := e) h { c with rcc := c.rcc.closePrep h }).1

/-- An occurrence that has been stopped has no preparation, no view and no lines (R34). -/
theorem stopOccurrence_free {r : Reservation} {c : Core} (w : c.Works) (hr : r ∈ c.tla.table) :
    (stopOccurrence e r c).Free r.handle := by
  unfold stopOccurrence
  cases hs : r.state with
  | preparing => exact dropPreparation_free w hr hs
  | active => exact (windowEndNotice_same _).free (closeWindow_free w hr hs)
  | granted => exact free_of_mem w hr (.inl hs)
  | seeking => exact free_of_mem w hr (.inr hs)

theorem stopOccurrence_table (r : Reservation) (c : Core) : (stopOccurrence e r c).tla.table = c.tla.table := by
  unfold stopOccurrence
  split
  · rw [dropPreparation_tla]
  · rw [truncate, windowEndNotice_tla, closeWindow_tla]
  · rfl

/-! ### Withdrawal and teardown (R34, R35) -/

theorem withdrawRecord_goes {reason : EndReason} {reported : Bool} {r : Reservation} {c : Core}
    (hr : g.works → r ∈ c.tla.table) : Goes g e c (withdrawRecord e reason reported r c) :=
  goes_of_sound fun w => (stopOccurrence_goes r c).trans (endRecord_goes fun hg => stopOccurrence_free (w.works hg) (hr hg))

theorem withdrawRecord_table (reason : EndReason) (reported : Bool) (r : Reservation) (c : Core) :
    (withdrawRecord e reason reported r c).tla.table = c.tla.table.filter fun q => decide (q.handle ≠ r.handle) := by
  rw [withdrawRecord, endRecord_tla]
  change (stopOccurrence e r c).tla.table.filter _ = _
  rw [stopOccurrence_table]

/-- Different records of the table are taken out one after another. -/
theorem foldl_removes {f : Core → Reservation → Core} {g : Claims} {rs : List Reservation} {c : Core}
    (hf : ∀ c r, (g.works → r ∈ c.tla.table) → Goes g e c (f c r))
    (ht : ∀ c r, (f c r).tla.table = c.tla.table.filter fun q => decide (q.handle ≠ r.handle))
    (hmem : g.works → ∀ r ∈ rs, r ∈ c.tla.table) (hne : g.works → rs.Pairwise fun r q => r.handle ≠ q.handle) :
    Goes g e c (rs.foldl f c) := by
  induction rs generalizing c with
  | nil => exact Goes.refl g e c
  | cons r rs ih =>
    refine (hf c r fun hg => hmem hg r (List.mem_cons_self ..)).trans (ih (fun hg q hq => ?_) fun hg =>
      (List.pairwise_cons.mp (hne hg)).2)
    rw [ht]
    refine List.mem_filter.mpr ⟨hmem hg q (List.mem_cons_of_mem _ hq), ?_⟩
    exact decide_eq_true fun hh => List.rel_of_pairwise_cons (hne hg) hq hh.symm

theorem foldl_removes_table {f : Core → Reservation → Core}
    (ht : ∀ c r, (f c r).tla.table = c.tla.table.filter fun q => decide (q.handle ≠ r.handle)) (rs : List Reservation)
    (c : Core) : ∀ q, q ∈ (rs.foldl f c).tla.table ↔ q ∈ c.tla.table ∧ ∀ r ∈ rs, q.handle ≠ r.handle := by
  induction rs generalizing c with
  | nil => exact fun q => ⟨fun h => ⟨h, fun r hr => nomatch hr⟩, fun h => h.1⟩
  | cons r rs ih =>
    intro q
    rw [List.foldl_cons, ih, ht, List.mem_filter, decide_eq_true_eq, List.forall_mem_cons, and_assoc]

theorem freeSilently_goes {r : Reservation} {c : Core} (hr : g.works → r ∈ c.tla.table) :
    Goes g e c (freeSilently e c r) :=
  goes_of_sound fun w => ((stopOccurrence_goes r c).trans
    (Change.drop r.handle fun hg => stopOccurrence_free (w.works hg) (hr hg)).goes).trans (freedNotice_goes _)

theorem freeSilently_table (c : Core) (r : Reservation) :
    (freeSilently e c r).tla.table = c.tla.table.filter fun q => decide (q.handle ≠ r.handle) := by
  rw [freeSilently, freedNotice_tla]
  change (stopOccurrence e r c).tla.table.filter _ = _
  rw [stopOccurrence_table]

theorem tlaTeardown_goes (x : Sub) (c : Core) : Goes g e c (tlaTeardown e x c) :=
  goes_of_sound fun w => foldl_removes (fun _ _ hr => freeSilently_goes hr) freeSilently_table
    (fun _ _ hr => (List.mem_filter.mp hr).1)
    fun hg => (handles_of_tableLaw (w.works hg).table).filter _

/-! ### The next occurrence (R24, R25, R27, R31) -/

theorem todos_of_seeking {h : Handle} {b : Bool} {c : Core}
    (hs : ∀ r ∈ c.tla.table, r.handle = h → r.state = .seeking) : Todos c [⟨h, b⟩] :=
  ⟨List.nodup_singleton _, fun td htd => by
    rw [List.mem_singleton.mp htd]
    exact hs⟩

theorem seeking_of_edit {h : Handle} {c : Core} :
    ∀ r ∈ (c.editReservation h fun q => { q with state := .seeking }).tla.table, r.handle = h → r.state = .seeking := by
  intro r hr hh
  obtain ⟨q, hq, rfl⟩ := mem_editReservation.mp hr
  split at hh
  · rename_i hqh
    rw [if_pos hqh]
  · rename_i hqh
    exact absurd hh hqh

theorem goOn_goes {r : Reservation} {c : Core} (hfree : g.works → c.Free r.handle) : Goes g e c (goOn e r c) := by
  unfold goOn
  split
  · exact endRecord_goes hfree
  · exact (Change.seeks r.handle hfree).goes.trans (seekAll_goes fun _ => todos_of_seeking seeking_of_edit)

theorem searchEnded_goes (hcalm : ¬ g.calm) (r : Reservation) (c : Core) : Goes g e c (searchEnded e r c) := by
  unfold searchEnded
  split
  · rename_i h best n hp
    split
    · have halive : c.alive r.owner := alive_of_phase (by rw [hp]; exact fun h => nomatch h)
      exact (Change.search r.owner _ (fun _ => .inl halive) hcalm).goes.trans (post_goes _ _ _)
    · exact Goes.refl g e c
  · exact Goes.refl g e c

theorem finishWindow_goes (hcalm : ¬ g.calm) {r : Reservation} {c : Core} (hr : g.works → r ∈ c.tla.table)
    (hs : r.state = .active) : Goes g e c (finishWindow e r c) :=
  goes_of_sound fun w => (((closeWindow_goes _ r c).trans (searchEnded_goes hcalm r _)).trans
    (goOn_goes fun hg => (searchEnded_same r _).free (closeWindow_free (w.works hg) (hr hg) hs))).trans
      (windowEndNotice_goes _)

theorem touches_unstaged : Touches e fun r => { r with staged := [] } :=
  ⟨fun _ => rfl, fun _ => rfl, fun _ => rfl, fun _ => rfl, fun _ => rfl, fun _ => rfl, fun _ => rfl, fun _ _ h => nomatch h⟩

theorem editReservation_free {c : Core} {h k : Handle} {f : Reservation → Reservation} (hf : Touches e f)
    (hfree : c.Free k) : (c.editReservation h f).Free k := by
  obtain ⟨hp, hv, hl⟩ := hfree
  refine ⟨hp, hv, fun high => ?_⟩
  obtain ⟨r, hr, hne, hd⟩ := hl high
  by_cases hh : r.handle = h
  · exact ⟨f r, mem_editReservation_same hr hh, by rwa [hf.handle], (hf.drives _ r).trans hd⟩
  · exact ⟨r, mem_editReservation_other hr hh, hne, hd⟩

theorem skipAtEnd_goes {r : Reservation} {c : Core} (hr : r ∈ c.tla.table) (hs : g.works → r.state = .preparing) :
    Goes g e c (skipAtEnd e r c) := by
  refine goes_of_sound fun w => ?_
  have hdropped : Goes g e c ((dropPreparation e r.handle c).emptyStaged r.handle) :=
    (dropPreparation_goes r.handle c).trans (Change.touch r.handle _ touches_unstaged).goes
  have hmem : { r with staged := [] } ∈ ((dropPreparation e r.handle c).emptyStaged r.handle).tla.table :=
    mem_editReservation_same (f := fun r => { r with staged := [] }) (by rw [dropPreparation_tla]; exact hr) rfl
  have habides : Abides c ((dropPreparation e r.handle c).emptyStaged r.handle) :=
    ((dropPreparation_goes r.handle c).trans (Change.touch r.handle _ touches_unstaged).goes).abides
  have hskipped : Goes g e c (skipOccurrence e { r with staged := [] }
      ((dropPreparation e r.handle c).emptyStaged r.handle)) :=
    hdropped.trans (skipOccurrence_goes (fun _ => ⟨_, hmem, rfl, rfl, fun _ h => nomatch h⟩)
      (fun hg h hh => by rw [habides.owns]; exact (w.sessions hg).named hr hh)
      fun hg => editReservation_free (e := e) touches_unstaged (dropPreparation_free (w.works hg) hr (hs hg)))
  unfold skipAtEnd
  simp only
  split
  · refine hskipped.trans (seekAll_goes fun _ => todos_of_seeking fun q hq hh => ?_)
    rcases (skipOccurrence_lifted (e := e) { r with staged := [] } _).from_ q hq with ⟨-, hne⟩ | ⟨-, hseek⟩
    · exact absurd hh hne
    · exact hseek
  · exact hskipped

theorem touches_shifted (d : Time) : Touches e fun q => { q with desired := q.desired + d } :=
  ⟨fun _ => rfl, fun _ => rfl, fun _ => rfl, fun _ => rfl, fun _ => rfl, fun _ => rfl, fun _ => rfl, fun _ _ h => .inl h⟩

theorem shiftCadence_goes (h : Handle) (d : Time) (c : Core) : Goes g e c (shiftCadence e h d c) := by
  refine goes_of_sound fun w => ?_
  have hshifted : Goes g e c (c.editReservation h fun q => { q with desired := q.desired + d }) :=
    (Change.touch h _ (touches_shifted d)).goes
  unfold shiftCadence
  split
  · exact Goes.refl g e c
  · rename_i r hr
    simp only
    split
    · rename_i hs
      have hrh := handle_of_reservation hr
      have hfree : g.works → c.Free h := fun hg => hrh ▸ free_of_mem (w.works hg) (mem_of_reservation hr) (.inl hs)
      refine ((hshifted.trans (Change.seeks h fun hg => editReservation_free (touches_shifted (e := e) d) (hfree hg)).goes).trans
        (tableNotice_goes _)).trans (seekAll_goes fun _ => todos_of_seeking ?_)
      rw [tableNotice_tla]
      exact seeking_of_edit
    · exact hshifted

/-! ### Windows that go ACTIVE (R29, R30, R33) -/

theorem tellActive_goes (hcalm : ¬ g.calm) (r : Reservation) (c : Core) : Goes g e c (tellActive r c) := by
  unfold tellActive
  split
  · unfold searchStarted
    split
    · rename_i h hp
      split
      · have halive : c.alive r.owner := alive_of_phase (by rw [hp]; exact fun h => nomatch h)
        exact (Change.search r.owner _ (fun _ => .inl halive) hcalm).goes
      · exact Goes.refl g e c
    · exact Goes.refl g e c
  · exact tell_goes _ c
  · exact Goes.refl g e c

theorem tellActive_tla (r : Reservation) (c : Core) : (tellActive r c).tla = c.tla := by
  unfold tellActive
  split
  · unfold searchStarted
    split
    · split <;> rfl
    · rfl
  · rfl
  · rfl

/-- A record of the table whose preparation has ended goes ACTIVE. -/
theorem activate_goes (hcalm : ¬ g.calm) {retune : Bool} {r : Reservation} {c : Core} (hr : r ∈ c.tla.table)
    (hp : g.works → ∀ p ∈ c.rcc.prep, p.handle ≠ r.handle) : Goes g e c (activate retune r c) := by
  have hactive : ({ r with state := .active, lost := 0, waiting := false } : Reservation) ∈
      (c.editReservation r.handle fun q => { q with state := .active, lost := 0, waiting := false }).tla.table :=
    mem_editReservation_same (f := fun q => { q with state := .active, lost := 0, waiting := false }) hr rfl
  have hraised : Goes g e c (raiseLines r
      (c.editReservation r.handle fun q => { q with state := .active, lost := 0, waiting := false })) :=
    (Change.activates r.handle hp).goes.trans (Change.raiseLines r fun _ => ⟨_, hactive, rfl, rfl, rfl, rfl⟩).goes
  have hmeasured : ∀ c : Core, Goes g e c { c with msu := { c.msu with view := some ⟨r.owner, r.cls, retune, r.cells, []⟩ } } :=
    fun c => cells_goes ⟨_, _, rfl⟩ fun h => view_law h fun w hw a ha => by
      cases hw
      cases ha
  refine ((hraised.trans (hmeasured _)).trans (tellActive_goes hcalm r _)).trans (viewActive_goes fun _ => ?_)
  rw [tellActive_tla]
  exact ⟨_, hactive, rfl, rfl, .inr rfl⟩

theorem touches_late : Touches e fun q => { q with late := true } :=
  ⟨fun _ => rfl, fun _ => rfl, fun _ => rfl, fun _ => rfl, fun _ => rfl, fun _ => rfl, fun _ => rfl, fun _ _ h => .inl h⟩

theorem activateLate_goes (hcalm : ¬ g.calm) {retune : Bool} {r : Reservation} {c : Core} (hr : r ∈ c.tla.table)
    (hp : g.works → ∀ p ∈ c.rcc.prep, p.handle ≠ r.handle) : Goes g e c (activateLate e retune r c) := by
  unfold activateLate
  exact ((activate_goes (retune := retune) hcalm hr hp).trans (Change.touch r.handle _ touches_late).goes).trans (post_goes _ _ _)

end Sys2Proof.Machine

/-! PROOFS. The arbiter of the control bus and the end of a transfer, one change after another (R124 to R145). -/

namespace Sys2Proof.Machine

variable {g : Claims} {e : Env}

/-! ### Transfers that begin (R125) -/

theorem startTransfer_goes {kind : TxnKind} {d : Device} {reg : Byte} {cause : TransferCause} {owner : Option Sub} {c : Core}
    (hon : g.live → c.isOn d = true) (ho : g.works → ∀ x ∈ owner, c.alive x) :
    Goes g e c (startTransfer kind d reg cause owner c) :=
  (Change.transfer ⟨kind, d, reg, cause, owner, decide (c.rcc.answering.get d = .pending), false, false, false, false⟩ hon
    ho).goes

theorem mem_of_firstFrom {α : Type} {l : List α} {i k : Nat} {a : α} {ok : α → Bool} (h : firstFrom l i ok = some (k, a)) :
    ok a = true := by
  unfold firstFrom at h
  split at h
  · cases h
  · rename_i j hj
    obtain ⟨hlt, hok, -⟩ := List.findIdx?_eq_some_iff_getElem.mp hj
    obtain ⟨b, hb, heq⟩ := Option.map_eq_some_iff.mp h
    cases heq
    rw [List.getElem_drop] at hok
    obtain ⟨_, hget⟩ := List.getElem?_eq_some_iff.mp hb
    rwa [hget] at hok

theorem isOn_of_needsContext {c : Core} {x : Sub} {s : ShadowEntry} (h : needsContext e c x s = true) :
    c.isOn s.entry.device = true := by
  simp only [needsContext, Bool.and_eq_true] at h
  exact h.1.1.2

theorem isOn_of_needsCommon {c : Core} {s : ShadowEntry} (h : needsCommon e c s = true) :
    c.isOn s.entry.device = true := by
  simp only [needsCommon, Bool.and_eq_true] at h
  exact h.1.1.2

/-! ### The preparation's turn (R133, R135) -/

/-- The record of a preparation is in the table, and its owner owns something. -/
theorem alive_of_prep {c : Core} {p : Prep} (w : c.Works) (hp : c.rcc.prep = some p) : c.alive p.owner := by
  obtain ⟨r, hr, -, ho, -⟩ := w.prep p hp
  exact ho ▸ alive_of_mem hr

theorem prepWrite_goes {p : Prep} {d : Device} {reg : Byte} {v : Half} {next : Nat} {c : Core} (hp : c.rcc.prep = some p)
    (hon : g.live → c.isOn d = true) : Goes g e c (prepWrite p d reg v next c) :=
  goes_of_sound fun w => (Change.proceeds p { p with position := next } hp rfl rfl rfl rfl fun h => .inl h).goes.trans
    (startTransfer_goes hon fun hg x hx => by
      cases hx
      exact (alive_of_prep (w.works hg) hp : c.alive p.owner))

theorem endPreparation_goes (hcalm : ¬ g.calm) {p : Prep} {c : Core} (hp : c.rcc.prep = some p) :
    Goes g e c (endPreparation e p c) := by
  refine goes_of_sound fun w => ?_
  have hended : Goes g e c (({ c with rcc := { c.rcc with prep := none } } : Core).editReservation p.handle
      fun r => { r with prepared := some (isRetune c p), staged := [] }) := by
    refine Change.ends.goes.trans (Change.reports p.handle _ fun hg => ⟨fun r hr hh hs => ?_, fun q hq => by cases hq⟩).goes
    obtain ⟨q, hq, hqh, -, hqs, -⟩ := (w.works hg).prep p hp
    rw [handle_inj (w.works hg).table hr hq (hh.trans hqh.symm), hqs] at hs
    cases hs
  have htriggered := hended.trans (trigger_goes _)
  unfold endPreparation
  simp only
  split
  · exact htriggered
  · rename_i r hr
    split
    · exact htriggered.trans (activateLate_goes hcalm (mem_of_reservation hr) fun _ q hq => nomatch hq)
    · exact htriggered

theorem prepTurn_goes (hcalm : ¬ g.calm) {p : Prep} {c : Core} (hp : c.rcc.prep = some p) :
    Goes g e c (prepTurn e p c) := by
  refine goes_of_sound fun w => ?_
  unfold prepTurn
  split
  · exact Goes.refl g e c
  · rename_i hs
    split
    · rename_i i s hf
      exact prepWrite_goes hp fun _ => isOn_of_needsContext (mem_of_firstFrom hf)
    · exact (Change.proceeds p { p with step := .common, position := 0 } hp rfl rfl rfl rfl
        fun _ => .inl (by rw [hs]; exact fun h => nomatch h)).goes
  · rename_i hs
    split
    · rename_i i s hf
      exact prepWrite_goes hp fun _ => isOn_of_needsCommon (mem_of_firstFrom hf)
    · exact (Change.proceeds p { p with step := .staged, position := 0 } hp rfl rfl rfl rfl
        fun _ => .inl (by rw [hs]; exact fun h => nomatch h)).goes
  · rename_i hs
    split
    · rename_i s hw
      refine prepWrite_goes hp fun hg => ?_
      obtain ⟨-, hawaited, hon⟩ := (w.live hg).prep p hp
      exact hon (by rw [hs]; exact fun h => nomatch h) _ (hawaited s (List.mem_of_getElem? hw))
    · exact endPreparation_goes hcalm hp

/-! ### Replay and bridge transactions (R130, R140 to R144) -/

theorem replayTurn_goes {p : Replay} {rest : List Replay} {c : Core} (hr : c.rcc.replay = p :: rest) :
    Goes g e c (replayTurn e p rest c) := by
  refine goes_of_sound fun w => ?_
  have hdropped : Goes g e c (replayShortened e p.device { c with rcc := { c.rcc with replay := rest } }) :=
    (Change.replay rest fun _ q hq => .inl (by rw [hr]; exact List.mem_cons_of_mem _ hq)).goes.trans
      (replayShortened_goes _ _)
  unfold replayTurn
  simp only
  split
  · exact hdropped
  · split
    · exact startTransfer_goes (fun hg => (w.live hg).replay p (by rw [hr]; exact List.mem_cons_self ..))
        fun _ x hx => nomatch hx
    · exact hdropped

theorem setHead_queue {c : Core} {x : Sub} {u t : Txn} {rest : List Txn} (hq : (c.bridge x).queue = u :: rest) :
    ((c.setHead x t).bridge x).queue = t :: rest := by
  simp only [Core.setHead, hq, Core.setBridge_bridge]

theorem served_goes (x : Sub) (c : Core) : Goes g e c (c.served x) :=
  (Change.marks c.rcc.answering c.rcc.poweredSince x).goes

theorem setHead_isOn (c : Core) (x : Sub) (t : Txn) (d : Device) : (c.setHead x t).isOn d = c.isOn d :=
  (setHead_examines x t c).isOn d

/-- A transfer made for the head of X's queue, which is changed with it. -/
theorem headTransfer_goes {x y : Sub} {u t : Txn} {rest : List Txn} {kind : TxnKind} {d : Device} {reg : Byte}
    {cause : TransferCause} {c : Core} (hq : (c.bridge x).queue = u :: rest)
    (hs : g.live → t.state = .restarting → c.isOn t.device = true) (hon : g.live → c.isOn d = true) :
    Goes g e c (startTransfer kind d reg cause (some x) ((c.setHead x t).served y)) := by
  refine ((Change.head x t hs).goes.trans (served_goes y _)).trans (startTransfer_goes (fun hg => ?_) fun _ z hz => ?_)
  · exact (setHead_isOn c x t d).trans (hon hg)
  · cases hz
    refine alive_of_head ?_
    change ((c.setHead x t).bridge x).queue ≠ []
    rw [setHead_queue hq]
    exact List.cons_ne_nil _ _

theorem ownTransfer_goes {x : Sub} {t : Txn} {rest : List Txn} {c : Core} (hq : (c.bridge x).queue = t :: rest)
    (hon : g.live → c.isOn t.device = true) : Goes g e c (ownTransfer x t c) :=
  headTransfer_goes hq (fun _ h => by cases h) hon

theorem seriesTurn_goes {x : Sub} {t : Txn} {rest : List Txn} {c : Core} (hq : (c.bridge x).queue = t :: rest)
    (hs : t.state = .restarting) : Goes g e c (seriesTurn e x t c) := by
  refine goes_of_sound fun w => ?_
  have hon : g.live → c.isOn t.device = true := fun hg => ((w.live hg).series x).2 t (by rw [hq]; rfl) hs
  unfold seriesTurn
  split
  · exact (Change.head x _ fun _ h => by cases h).goes.trans (Change.examined x).goes
  · split
    · exact headTransfer_goes hq (fun hg _ => hon hg) hon
    · split
      · exact (Change.completed x _ _).goes
      · exact ownTransfer_goes hq hon

theorem headTurn_changes {x : Sub} {t : Txn} {c : Core} (hr : headReady c x = some t) : Goes g e c (headTurn e x t c) := by
  obtain ⟨hhead, -⟩ := (headReady_iff c x t).mp hr
  obtain ⟨rest, hq⟩ := List.head?_eq_some_iff.mp hhead
  unfold headTurn
  split
  · rename_i hs
    exact seriesTurn_goes hq hs
  · split
    · split
      · rename_i hon
        rw [Bool.and_eq_true] at hon
        exact ownTransfer_goes hq fun _ => hon.1
      · exact (Change.examined x).goes
    · exact (Change.examined x).goes

theorem arbitrate_goes (hcalm : ¬ g.calm) {c d : Core} (h : arbitrate e c = some d) : Goes g e c d := by
  have hlower : arbitrate.lower e c = some d → Goes g e c d := by
    unfold arbitrate.lower
    intro h
    split at h
    · rename_i p rest hr
      cases h
      exact replayTurn_goes hr
    · split at h
      · cases h
      · split at h
        · cases h
        · rename_i t ht
          cases h
          exact headTurn_changes ht
  unfold arbitrate at h
  split at h
  · rename_i p hp
    split at h
    · cases h
      exact prepTurn_goes hcalm hp
    · exact hlower h
  · exact hlower h

theorem busStep_goes (hcalm : ¬ g.calm) {c d : Core} (h : busStep e c = some d) : Goes g e c d := by
  unfold busStep at h
  split at h
  · cases h
  · split at h
    · rename_i p hp
      split at h
      · rename_i harrived
        cases h
        rw [powerArrived, Bool.and_eq_true] at harrived
        exact (Change.proceeds p { p with step := .context, position := 0 } hp rfl rfl rfl rfl
          fun _ => .inr fun d hd => List.all_eq_true.mp harrived.2 d hd).goes
      · exact arbitrate_goes hcalm h
    · exact arbitrate_goes hcalm h

/-! ### The end of a transfer (R127, R128, R130, R134, R136, R143) -/

theorem noteTuning_goes (before after : Option Half) (c : Core) : Goes g e c (noteTuning before after c) := by
  unfold noteTuning
  split
  · exact Goes.refl g e c
  · rename_i p hp
    exact (Change.proceeds p { p with tuningChanged := p.tuningChanged || decide (before ≠ after) } hp rfl rfl rfl rfl
      fun h => .inl h).goes

theorem failTrapped_goes (d : Device) (c : Core) (x : Sub) : Goes g e c (failTrapped e d c x) := by
  unfold failTrapped
  split
  · exact (Change.completed x _ _).goes
  · exact Goes.refl g e c

theorem answering_goes (a : Quad Answering) (c : Core) :
    Goes g e c { c with rcc := { c.rcc with answering := a } } :=
  (Change.marks a c.rcc.poweredSince c.rcc.lastServed).goes

theorem dropReplay_goes (ok : Replay → Bool) (c : Core) :
    Goes g e c { c with rcc := { c.rcc with replay := c.rcc.replay.filter ok } } :=
  (Change.replay (c.rcc.replay.filter ok) fun _ _ hp => .inl (List.mem_filter.mp hp).1).goes

theorem notAnswering_goes (d : Device) (c : Core) : Goes g e c (notAnswering e d c) := by
  have hdropped := (answering_goes (g := g) (e := e) (c.rcc.answering.set d .notAnswering) c).trans
    (dropReplay_goes (fun p => decide (p.device ≠ d)) _)
  exact ((hdropped.trans (failTrapped_goes d _ .A)).trans (failTrapped_goes d _ .B)).trans (replayShortened_goes d _)

theorem endCheck_goes (t : Transfer) (outcome : BusOutcome) (c : Core) : Goes g e c (endCheck e t outcome c) := by
  unfold endCheck
  split
  · split
    · exact notAnswering_goes _ c
    · exact answering_goes _ c
  · exact Goes.refl g e c

theorem prepFailed_goes (t : Transfer) (outcome : BusOutcome) (c : Core) : Goes g e c (prepFailed e t outcome c) := by
  unfold prepFailed
  split
  · exact Goes.refl g e c
  · exact (Change.touch _ _ touches_degraded).goes.trans (post_goes _ _ _)

theorem replayMade_goes (t : Transfer) (c : Core) : Goes g e c (replayMade e t c) := by
  unfold replayMade
  exact (Change.replay _ fun _ p hp => .inl (List.mem_filter.mp hp).1).goes.trans (replayShortened_goes _ _)

theorem noteFailure_goes (t : Transfer) (outcome : BusOutcome) (c : Core) : Goes g e c (noteFailure e t outcome c) := by
  unfold noteFailure
  split
  · exact degradeView_goes t c
  · exact Goes.refl g e c

theorem ownEnded_goes (x : Sub) (outcome : BusOutcome) (value : Half) (c : Core) :
    Goes g e c (ownEnded e x outcome value c) := by
  unfold ownEnded
  split
  · exact Goes.refl g e c
  · split
    · exact (Change.completed x _ _).goes
    · exact Goes.refl g e c

theorem workEnded_goes (t : Transfer) (outcome : BusOutcome) (value : Half) (c : Core) :
    Goes g e c (workEnded e t outcome value c) := by
  unfold workEnded
  split
  · split
    · exact prepFailed_goes t outcome c
    · exact Goes.refl g e c
  · exact (noteFailure_goes t outcome c).trans (replayMade_goes t _)
  · exact noteFailure_goes t outcome c
  · split
    · exact noteFailure_goes t outcome c
    · exact (noteFailure_goes t outcome c).trans (ownEnded_goes _ _ _ _)

theorem transferStores_goes {t : Transfer} {c : Core} (ho : g.works → t.ownerGone = false → ∀ x ∈ t.owner, c.alive x) :
    Goes g e c (transferStores e t c) := by
  unfold transferStores
  split
  · split
    · exact Goes.refl g e c
    · rename_i hgone
      exact (Change.store _ _ _ _ fun hg => ho hg (Bool.eq_false_iff.mpr hgone)).goes
  · exact Goes.refl g e c

theorem transferLive_goes {t : Transfer} {outcome : BusOutcome} {value : Half} {c : Core}
    (hon : g.live → t.deviceLeft = false → c.isOn t.device = true) : Goes g e c (transferLive e t outcome value c) := by
  unfold transferLive
  split
  · exact Goes.refl g e c
  · rename_i hleft
    have hison : ∀ v : Option Half, g.live → v = none ∨ c.isOn t.device = true := fun _ hg =>
      .inr (hon hg (Bool.eq_false_iff.mpr hleft))
    split
    · exact (Change.live _ _ _ (hison _)).goes
    · split
      · exact (Change.live _ _ _ (hison _)).goes
      · exact Goes.refl g e c

theorem transferStores_isOn (t : Transfer) (c : Core) (d : Device) : (transferStores e t c).isOn d = c.isOn d := by
  unfold transferStores
  split
  · split
    · rfl
    · exact (storeValue_examines e .A _ _ _ _ c).isOn d
  · rfl

/-- A transfer belongs to the stack it is for, unless that is gone (R147). -/
def Core.BusOwned (c : Core) : Prop := ∀ t ∈ c.rcc.bus, ∀ x ∈ t.owner, c.alive x ∨ t.ownerGone = true

theorem endTransfer_goes {b : BusReply} {c : Core} (hb : g.works → c.BusOwned) : Goes g e c (endTransfer e b c) := by
  refine goes_of_sound fun w => ?_
  unfold endTransfer
  split
  · exact Goes.refl g e c
  · rename_i t ht
    have hidle : Goes g e c { c with rcc := { c.rcc with bus := none } } := Change.idle.goes
    simp only
    split
    · exact hidle.trans (trigger_goes _)
    · rename_i hvoid
      have howner : g.works → t.ownerGone = false → ∀ x ∈ t.owner,
          ({ c with rcc := { c.rcc with bus := none } } : Core).alive x := fun hg hgone x hx =>
        (hb hg t ht x hx).resolve_right (by rw [hgone]; exact Bool.false_ne_true)
      have hstored := hidle.trans (transferStores_goes howner)
      have hlived := hstored.trans (transferLive_goes (outcome := b.outcome t.steps) (value := b.value) fun hg hleft => by
        rw [transferStores_isOn]
        rcases (w.live hg).bus t ht with h | h | h
        · exact absurd h hvoid
        · rw [hleft] at h
          cases h
        · exact h)
      exact (((hlived.trans (noteTuning_goes _ _ _)).trans (endCheck_goes _ _ _)).trans (workEnded_goes _ _ _ _)).trans
        (trigger_goes _)

end Sys2Proof.Machine

/-! PROOFS. The Session Manager's reactions, one change after another (R43 to R62). -/

namespace Sys2Proof.Machine

variable {g : Claims} {e : Env}

/-! ### Whose the head text is (R41, R54) -/

theorem owned_of_session {c : Core} {h : Handle} {s : Session} (hs : c.session h = some s) :
    c.ownsSession s.owner s.handle = true := by
  obtain ⟨hplace, rfl⟩ := session_iff.mp hs
  exact ownsSession_iff.mpr ⟨s, hplace, rfl, rfl⟩

theorem owned_of_textSession {c : Core} {h : Handle} {s : Session} {t : TextBody} (hs : c.textSession h = some (s, t)) :
    c.ownsSession s.owner s.handle = true := owned_of_session (textSession_iff.mp hs).1

theorem owned_of_headText {c : Core} {x : Sub} {s : Session} {t : TextBody} (hs : c.headText x = some (s, t)) :
    c.ownsSession s.owner s.handle = true := by
  unfold Core.headText at hs
  split at hs
  · cases hs
  · exact owned_of_textSession hs

/-! ### Segments (R54 to R57) -/

/-- A segment's record is its session's owner's. -/
theorem placeSegment_goes {s : Session} {t : TextBody} {c : Core} (hs : c.ownsSession s.owner s.handle = true) :
    Goes g e c (placeSegment e s t c) := by
  have hcreated : Goes g e c (createRecord e (segmentRecord e c s t) c).1 :=
    createRecord_goes (fun _ => .inr (.inl ⟨s.handle, hs⟩)) (fun _ h hh => by cases hh; exact hs) rfl
  unfold placeSegment
  split
  · rename_i c1 h start heq
    rw [heq] at hcreated
    exact (hcreated.trans (editText_goes _ _ _)).trans (post_goes _ _ _)
  · rename_i c1 _ heq
    rwa [heq] at hcreated

theorem sendOrHold_goes (x : Sub) (c : Core) : Goes g e c (sendOrHold e x c) := by
  unfold sendOrHold
  split
  · exact Goes.refl g e c
  · rename_i s t hs
    split
    · exact (editText_goes _ _ c).trans (placeSegment_goes (by rw [editText_owns]; exact owned_of_headText hs))
    · exact editText_goes _ _ c

theorem sendSegment_goes (s : Session) (c : Core) : Goes g e c (sendSegment e s c) := by
  unfold sendSegment
  split
  · exact sendOrHold_goes _ c
  · exact Goes.refl g e c

theorem retryPlacement_goes (x : Sub) (c : Core) : Goes g e c (retryPlacement e x c) := by
  unfold retryPlacement
  split
  · exact Goes.refl g e c
  · split
    · exact sendOrHold_goes x c
    · exact Goes.refl g e c

/-! ### Close (R43) -/

/-- The session table without one session, and its owner's queue without its handle. -/
def Smg.without (m : Smg) (s : Session) : Smg :=
  { m with
    sessions := m.sessions.set s.handle.index.toNat none
    queues := m.queues.set s.owner ((m.queues.get s.owner).filter fun h => decide (h ≠ s.handle)) }

theorem without_place {m : Smg} {s : Session} (hi : s.handle.index.toNat < m.sessions.length) (j : Nat) :
    (m.without s).place j = if j = s.handle.index.toNat then none else m.place j := by
  rw [Smg.without]
  exact place_set hi j

theorem Places.without {m : Smg} {s : Session} (w : Places e m) {n : Session} (hn : m.place s.handle.index.toNat = some n)
    (hh : n.handle = s.handle) (ho : n.owner = s.owner) : Places e (m.without s) := by
  have hi : s.handle.index.toNat < m.sessions.length := (List.getElem?_eq_some_iff.mp (place_iff.mp hn)).1
  refine w.fewer ((List.length_set ..).trans w.size) w.generations (fun k => k.handle.index.toNat = s.handle.index.toNat)
    (fun i k => ?_) (fun x h => ?_) fun x => ?_
  · rw [without_place hi]
    constructor
    · intro hk
      split at hk
      · cases hk
      · rename_i hne
        exact ⟨hk, fun heq => hne ((w.place i k hk).symm.trans heq)⟩
    · rintro ⟨hk, hne⟩
      rw [if_neg fun heq => hne ((w.place i k hk).trans heq)]
      exact hk
  · have hqueue : ∀ x h, h ∈ m.queues.get x → h.index.toNat = s.handle.index.toNat → x = s.owner ∧ h = s.handle :=
      fun x h hx hidx => by
        obtain ⟨k, hk, hkh, hko, -⟩ := (w.queue x h).mp hx
        rw [hidx, hn] at hk
        cases hk
        exact ⟨hko.symm.trans ho, hkh.symm.trans hh⟩
    have hgone : h ∈ m.queues.get x → ((∀ k, m.place h.index.toNat = some k → ¬ k.handle.index.toNat = s.handle.index.toNat) ↔
        ¬ (x = s.owner ∧ h = s.handle)) := fun hx => by
      constructor
      · rintro hall ⟨-, rfl⟩
        exact hall n hn (congrArg (fun h : Handle => h.index.toNat) hh)
      · intro hnot k hk hidx
        exact hnot (hqueue x h hx ((w.place _ k hk).symm.trans hidx))
    change h ∈ (m.queues.set s.owner _).get x ↔ _
    by_cases hx : x = s.owner
    · subst hx
      rw [Pair.get_set_self, List.mem_filter, decide_eq_true_eq]
      refine and_congr_right fun hmem => ?_
      rw [hgone hmem]
      exact ⟨fun hne h => hne h.2, fun hnot heq => hnot ⟨rfl, heq⟩⟩
    · rw [Pair.get_set, if_neg hx]
      exact ⟨fun hmem => ⟨hmem, (hgone hmem).mpr fun h => hx h.1⟩, fun h => h.1⟩
  · change ((m.queues.set s.owner _).get x).Sublist _
    by_cases hx : x = s.owner
    · subst hx
      rw [Pair.get_set_self]
      exact List.filter_sublist
    · rw [Pair.get_set, if_neg hx]

/-- A session that no record of its owner's names leaves the table and its queue. -/
theorem without_goes (hcalm : ¬ g.calm) {s : Session} {c : Core} (hs : c.ownsSession s.owner s.handle = true)
    (hrecords : ∀ r ∈ c.tla.table, r.session ≠ some s.handle) :
    Goes g e c { c with smg := c.smg.without s } := by
  obtain ⟨n, hn, hh, ho⟩ := ownsSession_iff.mp hs
  have hi : s.handle.index.toNat < c.smg.sessions.length := (List.getElem?_eq_some_iff.mp (place_iff.mp hn)).1
  refine smg_goes _ (fun hl => ?_) (fun _ k hk => ?_) (fun _ x hx => ?_) fun hg => absurd hg hcalm
  · obtain ⟨hplaces, hnamed⟩ := sessionsLaw_iff.mp hl
    refine sessionsLaw_iff.mpr ⟨hplaces.without hn hh ho, fun r hr k hk => ?_⟩
    obtain ⟨n', hn', hh', ho'⟩ := ownsSession_iff.mp (hnamed r hr k hk)
    refine ownsSession_iff.mpr ⟨n', ?_, hh', ho'⟩
    rw [without_place hi, if_neg]
    · exact hn'
    · intro hidx
      rw [hidx, hn] at hn'
      cases hn'
      exact hrecords r hr (by rw [Option.mem_def.mp hk, ← hh', hh])
  · rcases List.mem_or_eq_of_mem_set hk with hk | hk
    · exact alive_of_session hk
    · cases hk
  · refine alive_of_queue fun hnil => hx ?_
    change (c.smg.queues.set s.owner _).get x = []
    by_cases hxs : x = s.owner
    · subst hxs
      rw [Pair.get_set_self]
      change c.smg.queues.get s.owner = [] at hnil
      rw [hnil]
      rfl
    · rw [Pair.get_set, if_neg hxs]
      exact hnil

theorem freeSession_goes (hcalm : ¬ g.calm) {s : Session} {c : Core} (hs : c.ownsSession s.owner s.handle = true)
    (hrecords : ∀ r ∈ c.tla.table, r.session ≠ some s.handle) : Goes g e c (freeSession e s c) := by
  have hfreed := without_goes (g := g) (e := e) hcalm hs hrecords
  unfold freeSession
  simp only
  split
  · exact hfreed.trans (sendOrHold_goes _ _)
  · exact hfreed

theorem withdrawAll_goes {reason : EndReason} {reported : Bool} {h : Handle} (c : Core) :
    Goes g e c ((recordsOf c h).foldl (fun d r => withdrawRecord e reason reported r d) c) :=
  goes_of_sound fun w => foldl_removes (fun _ _ hr => withdrawRecord_goes hr)
    (fun c r => withdrawRecord_table reason reported r c) (fun _ _ hr => (List.mem_filter.mp hr).1)
    fun hg => (handles_of_tableLaw (w.works hg).table).filter _

/-- A session's reservations are withdrawn, and it leaves the table (R43). -/
theorem closeSession_goes (hcalm : ¬ g.calm) {reported : Bool} {s : Session} {c : Core}
    (hs : c.ownsSession s.owner s.handle = true) : Goes g e c (closeSession e reported s c) := by
  have habides : Abides c _ := (withdrawAll_goes (e := e) (reason := .sessionClosed) (reported := reported) (h := s.handle) c).abides
  refine (withdrawAll_goes c).trans (freeSession_goes hcalm (by rw [habides.owns]; exact hs) fun r hr hrs => ?_)
  obtain ⟨hrc, hnot⟩ := (foldl_removes_table (fun c r => withdrawRecord_table _ _ r c) _ c r).mp hr
  exact hnot r (List.mem_filter.mpr ⟨hrc, decide_eq_true hrs⟩) rfl

theorem postCall_goes (port : Port) (x : Sub) (state value : Nat) (c : Core) : Goes g e c (postCall e port x state value c) :=
  post_goes _ _ c

theorem closeCall_goes (hcalm : ¬ g.calm) {reported : Bool} {reason : Nat} {s : Session} {c : Core}
    (hs : c.ownsSession s.owner s.handle = true) : Goes g e c (closeCall e reported reason s c) :=
  ((closeSession_goes hcalm hs).trans (postCall_goes _ _ _ _ _)).trans (postCall_goes _ _ _ _ _)

/-! ### Segment outcomes (R58 to R61) -/

theorem failSegment_goes (hcalm : ¬ g.calm) {cause : Nat} {s : Session} {t : TextBody} {c : Core}
    (hs : c.ownsSession s.owner s.handle = true) : Goes g e c (failSegment e cause s t c) := by
  unfold failSegment
  split
  · exact (editText_goes _ _ c).trans (sendSegment_goes _ _)
  · exact (closeSession_goes hcalm hs).trans (post_goes _ _ _)

theorem segmentSent_goes (hcalm : ¬ g.calm) {s : Session} {t : TextBody} {c : Core}
    (hs : c.ownsSession s.owner s.handle = true) : Goes g e c (segmentSent e s t c) := by
  unfold segmentSent
  split
  · exact (closeSession_goes hcalm hs).trans (post_goes _ _ _)
  · exact (editText_goes _ _ c).trans (sendSegment_goes _ _)

theorem segmentEnded_goes (hcalm : ¬ g.calm) (h : Handle) (reason : EndReason) (endTime : Time) (session : Handle) (c : Core) :
    Goes g e c (segmentEnded e h reason endTime session c) := by
  unfold segmentEnded
  split
  · exact Goes.refl g e c
  · rename_i s t hs
    split
    · have hcleared : Goes g e c (c.editText session fun t' => { t' with record := none }) := editText_goes _ _ c
      have hfails : Goes g e c (failSegment e failWindowLost s t (c.editText session fun t' => { t' with record := none })) :=
        hcleared.trans (failSegment_goes hcalm (by rw [editText_owns]; exact owned_of_textSession hs))
      cases reason with
      | completed => exact hcleared.trans (editText_goes _ _ _)
      | preempted => exact hfails
      | starved => exact hfails
      | withdrawn => exact hcleared
      | sessionClosed => exact hcleared
    · exact Goes.refl g e c

theorem resultExpired_goes (hcalm : ¬ g.calm) {s : Session} {t : TextBody} {c : Core}
    (hs : c.ownsSession s.owner s.handle = true) : Goes g e c (resultExpired e s t c) :=
  (editText_goes _ _ c).trans (failSegment_goes hcalm (by rw [editText_owns]; exact hs))

/-! ### Eligibility and notices (R44, R52, R55, R57) -/

theorem editText_table (c : Core) (h : Handle) (f : TextBody → TextBody) : (c.editText h f).tla = c.tla :=
  (editSession_same c h _).1

theorem loseEligibility_goes (s : Session) (t : TextBody) (c : Core) : Goes g e c (loseEligibility e s t c) := by
  unfold loseEligibility
  split
  · split
    · exact Goes.refl g e c
    · rename_i r hr
      split
      · exact (editText_goes _ _ c).trans (withdrawRecord_goes fun _ => by
          rw [editText_table]
          exact mem_of_reservation hr)
      · exact Goes.refl g e c
  · split
    · exact editText_goes _ _ c
    · exact Goes.refl g e c

theorem lookAgain_goes (x : Sub) (c : Core) : Goes g e c (lookAgain e x c) := by
  unfold lookAgain
  split
  · exact Goes.refl g e c
  · split
    · exact sendOrHold_goes x c
    · exact loseEligibility_goes _ _ c
    · exact Goes.refl g e c

theorem missPage_goes (x : Sub) (c : Core) : Goes g e c (missPage e x c) := by
  unfold missPage
  simp only
  split
  · exact (setMissed_goes _ _ c).trans (post_goes _ _ _)
  · exact setMissed_goes _ _ c

theorem voiceStarved_goes (hcalm : ¬ g.calm) (session : Handle) (c : Core) : Goes g e c (voiceStarved e session c) := by
  unfold voiceStarved
  split
  · exact Goes.refl g e c
  · rename_i s hs
    exact closeCall_goes hcalm (owned_of_session hs)

theorem recordEndedNotice_goes (hcalm : ¬ g.calm) (h : Handle) (x : Sub) (cls : Class) (reason : Option EndReason)
    (session : Option Handle) (endTime : Time) (c : Core) :
    Goes g e c (recordEndedNotice e h x cls reason session endTime c) := by
  unfold recordEndedNotice
  simp only
  refine Goes.trans ?_ (retryPlacement_goes x _)
  split
  · exact segmentEnded_goes hcalm _ _ _ _ c
  · exact voiceStarved_goes hcalm _ c
  · exact Goes.refl g e c

/-! ### Rebase (R53) -/

theorem mem_traffic_of_voice {c : Core} {n : Session} {v : Voice} {tr : Traffic} (w : c.SessionsLaw e)
    (hv : c.voiceSession = some (n, v)) (ht : v.traffic = some tr) : tr.credit ≤ e.policy.creditMax := by
  obtain ⟨hmem, hb⟩ := mem_of_voiceSession hv
  obtain ⟨-, -, -, -, -, -, hcredit, -⟩ := w
  exact hcredit _ hmem n rfl v (by rw [hb]; rfl) tr ht

theorem rebaseCall_goes (x : Sub) (d : Time) (c : Core) : Goes g e c (rebaseCall e x d c) := by
  unfold rebaseCall
  split
  · exact Goes.refl g e c
  · rename_i s v hv
    split
    · exact Goes.refl g e c
    · rename_i tr ht
      split
      · have hmoved : Goes g e c (c.setTraffic s.handle { tr with anchor := tr.anchor + d }) :=
          setTraffic_goes _ fun hl => (mem_traffic_of_voice hl hv ht : tr.credit ≤ _)
        simp only
        split
        · exact hmoved
        · exact hmoved.trans (shiftCadence_goes _ _ _)
      · exact Goes.refl g e c

end Sys2Proof.Machine

/-! PROOFS. The Coverage Search Controller's reactions, and what follows a command at the same moment, one change after
another (R44, R111 to R123, R165, R167). -/

namespace Sys2Proof.Machine

variable {g : Claims} {e : Env}

/-! ### Coverage (R111) -/

theorem setSearch_goes (hcalm : ¬ g.calm) {x : Sub} {s : Search} {c : Core} (ha : g.works → c.alive x) :
    Goes g e c (c.setSearch x s) := (Change.search x s (fun hg => .inl (ha hg)) hcalm).goes

/-- A search record that keeps its phase keeps what no reaction of the Timeline Arbiter changes. -/
theorem setSearch_firm {x : Sub} {s : Search} {c : Core} (hs : (c.csc.get x).phase ≠ .idle → s.phase ≠ .idle)
    (h : c.firm x) : (c.setSearch x s).firm x := by
  rcases h with h | h | h
  · exact .inl h
  · exact .inr (.inl h)
  · refine .inr (.inr ?_)
    rw [Core.setSearch_csc, Pair.get_set_self]
    exact hs h

theorem setCoverage_goes (hcalm : ¬ g.calm) {x : Sub} {cov : Coverage} {cause : CoverageCause} {c : Core}
    (ha : g.works → c.alive x) : Goes g e c (setCoverage e x cov cause c) := by
  unfold setCoverage
  split
  · exact Goes.refl g e c
  · exact ((setSearch_goes hcalm ha).trans (post_goes _ _ _)).trans (lookAgain_goes x _)

theorem setCoverage_firm {x : Sub} {cov : Coverage} {cause : CoverageCause} {c : Core} (h : c.firm x) :
    (setCoverage e x cov cause c).firm x := by
  unfold setCoverage
  split
  · exact h
  · exact ((post_abides _ _ _ _).trans (lookAgain_goes x _).abides).firm.mpr (setSearch_firm (fun h => h) h)

theorem setCoverage_attached (x : Sub) (cov : Coverage) (cause : CoverageCause) (c : Core) (y : Sub) :
    (setCoverage e x cov cause c).attached y = c.attached y := by
  unfold setCoverage
  split
  · rfl
  · exact ((post_abides e _ _ _).trans (lookAgain_goes x _).abides).attached y

/-! ### Attempts (R113, R117, R119) -/

theorem beginAttempt_goes (hcalm : ¬ g.calm) {x : Sub} {attempt : Nat} {desired : Time} {c : Core}
    (hfirm : g.works → c.firm x) : Goes g e c (beginAttempt e x attempt desired c).1 := by
  have hcreated : ∀ {g : Claims}, (g.works → c.firm x) → Goes g e c
      (createRecord e (newRecord x .search desired 3200 (attemptLength (c.csc.get x).coverage) (c.csc.get x).planFrequency
        (c.csc.get x).planBand) c).1 := fun hfirm => createRecord_goes hfirm (fun _ h hh => by cases hh) rfl
  have habides := (hcreated (g := Claims.calmOnly) False.elim).abides
  have hcreated := hcreated hfirm
  unfold beginAttempt
  simp only
  split
  · rename_i c1 h start heq
    rw [heq] at hcreated habides
    dsimp only at hcreated habides ⊢
    exact (hcreated.trans (setSearch_goes hcalm fun hg => (habides.firm.mpr (hfirm hg)).alive)).trans (post_goes _ _ _)
  · rename_i c1 made hne heq
    rw [heq] at hcreated habides
    exact hcreated.trans (setSearch_goes hcalm fun hg => (habides.firm.mpr (hfirm hg)).alive)

theorem countAttempt_goes (hcalm : ¬ g.calm) {x : Sub} {reference : Time} {c : Core} (hfirm : g.works → c.firm x) :
    Goes g e c (countAttempt e x reference c) := by
  unfold countAttempt
  simp only
  split
  · exact (setCoverage_goes hcalm fun hg => (hfirm hg).alive).trans
      (beginAttempt_goes hcalm fun hg => setCoverage_firm (hfirm hg))
  · exact beginAttempt_goes hcalm hfirm

theorem reportNoWindow_goes (x : Sub) (c : Core) : Goes g e c (reportNoWindow e x c) := post_goes _ _ c

theorem reportNoWindow_firm {x : Sub} {c : Core} (h : c.firm x) : (reportNoWindow e x c).firm x :=
  (post_abides e _ _ c).firm.mpr h

theorem attemptLost_goes (hcalm : ¬ g.calm) (x : Sub) (h : Handle) (reference : Time) (c : Core) :
    Goes g e c (attemptLost e x h reference c) := by
  unfold attemptLost
  split
  · rename_i h' hp
    split
    · have hfirm : c.firm x := .inr (.inr (by rw [hp]; exact fun h => nomatch h))
      exact (reportNoWindow_goes x c).trans (countAttempt_goes hcalm fun _ => reportNoWindow_firm hfirm)
    · exact Goes.refl g e c
  · exact Goes.refl g e c

/-- The record of an attempt that is removed is withdrawn. -/
theorem withdrawNamed_goes (reported : Bool) (h : Handle) (c : Core) : Goes g e c (match c.reservation h with
    | none => c
    | some r => withdrawRecord e .withdrawn reported r c) := by
  split
  · exact Goes.refl g e c
  · rename_i r hr
    exact withdrawRecord_goes fun _ => mem_of_reservation hr

/-- An attempt in progress is made idle, and then its record withdrawn. -/
theorem removeAttempt_cases (x : Sub) (reported : Bool) (c : Core) :
    removeAttempt e x reported c = c.setSearch x { c.csc.get x with phase := .idle, late := false }
    ∨ ∃ h, removeAttempt e x reported c =
      match (c.setSearch x { c.csc.get x with phase := .idle, late := false }).reservation h with
      | none => c.setSearch x { c.csc.get x with phase := .idle, late := false }
      | some r => withdrawRecord e .withdrawn reported r
          (c.setSearch x { c.csc.get x with phase := .idle, late := false }) := by
  unfold removeAttempt
  simp only
  split
  · exact .inr ⟨_, rfl⟩
  · exact .inr ⟨_, rfl⟩
  · exact .inl rfl

theorem removeAttempt_goes (hcalm : ¬ g.calm) {x : Sub} {reported : Bool} {c : Core} (ha : g.works → c.alive x) :
    Goes g e c (removeAttempt e x reported c) := by
  have hidle : Goes g e c (c.setSearch x { c.csc.get x with phase := .idle, late := false }) := setSearch_goes hcalm ha
  rcases removeAttempt_cases (e := e) x reported c with h | ⟨h, heq⟩
  · rw [h]
    exact hidle
  · rw [heq]
    exact hidle.trans (withdrawNamed_goes reported h _)

theorem removeAttempt_attached (x : Sub) (reported : Bool) (c : Core) (y : Sub) :
    (removeAttempt e x reported c).attached y = c.attached y := by
  rcases removeAttempt_cases (e := e) x reported c with h | ⟨h, heq⟩
  · rw [h]
    rfl
  · rw [heq]
    exact (withdrawNamed_goes reported h _).abides.attached y

theorem restartLadder_goes (hcalm : ¬ g.calm) {x : Sub} {c : Core} (ha : c.attached x = true) :
    Goes g e c (restartLadder e x c).1 := by
  have hremoved : (removeAttempt e x true c).attached x = true := (removeAttempt_attached x true c x).trans ha
  exact ((removeAttempt_goes hcalm fun _ => .inl ha).trans (setCoverage_goes hcalm fun _ => .inl hremoved)).trans
    (beginAttempt_goes hcalm fun _ => .inl ((setCoverage_attached _ _ _ _ x).trans hremoved))

/-! ### What follows at the same moment (R44, R155, R165, R167) -/

theorem actOn_goes (hcalm : ¬ g.calm) (n : Notice) (c : Core) : Goes g e c (actOn e n c) := by
  cases n with
  | pageLost x => exact missPage_goes x c
  | pageActive x => exact setMissed_goes _ _ c
  | voiceSkipped s => exact editVoice_goes s fun _ _ hv => hv
  | searchLost x h reference => exact attemptLost_goes hcalm x h reference c
  | recordEnded h x cls reason session endTime => exact recordEndedNotice_goes hcalm h x cls reason session endTime c

theorem noticeStep_goes (hcalm : ¬ g.calm) {c d : Core} (h : noticeStep e c = some d) : Goes g e c d := by
  unfold noticeStep at h
  split at h
  · cases h
  · rename_i n rest hn
    cases h
    exact (Change.notices rest).goes.trans (actOn_goes hcalm n _)

theorem not_on_of_entersNow {c : Core} {d : Device} (h : entersNow e c d = true) : c.power d ≠ .on := by
  intro hp
  simp [entersNow, hp] at h

theorem not_on_of_fallsNow {c : Core} {d : Device} (h : fallsNow e c d = true) : c.power d ≠ .on := by
  intro hp
  simp [fallsNow, hp] at h

theorem not_on_of_risesNow {c : Core} {d : Device} (h : risesNow e c d = true) : c.power d ≠ .on := by
  intro hp
  simp [risesNow, hp] at h

theorem powerStep_goes {c d : Core} (h : powerStep e c = some d) : Goes g e c d := by
  unfold powerStep at h
  split at h
  · rename_i f hf
    cases h
    exact rise_goes (not_on_of_risesNow (List.find?_some hf))
  · split at h
    · rename_i f hf
      cases h
      exact enterOn_goes (not_on_of_entersNow (List.find?_some hf))
    · split at h
      · rename_i f hf
        cases h
        exact finishFall_goes (not_on_of_fallsNow (List.find?_some hf))
      · cases h

theorem sleepStep_goes {c d : Core} (h : sleepStep e c = some d) : Goes g e c d := by
  have hevaluate : (if c.evaluate then some (evaluateSleep e c) else none) = some d → Goes g e c d := by
    intro h
    split at h
    · cases h
      exact evaluateSleep_goes c
    · cases h
  unfold sleepStep at h
  split at h
  · split at h
    · cases h
      exact settledDown_goes _ _ c
    · exact hevaluate h
  · exact hevaluate h

theorem settleStep_goes (hcalm : ¬ g.calm) {c d : Core} (h : settleStep e c = some d) : Goes g e c d := by
  unfold settleStep at h
  split at h
  · rename_i hp
    cases h
    exact powerStep_goes hp
  · split at h
    · rename_i hb
      cases h
      exact busStep_goes hcalm hb
    · split at h
      · rename_i hs
        cases h
        exact sleepStep_goes hs
      · exact noticeStep_goes hcalm h

theorem settleLoop_goes (hcalm : ¬ g.calm) (n : Nat) (c : Core) : Goes g e c (settleLoop e n c) := by
  induction n generalizing c with
  | zero => exact Goes.refl g e c
  | succ n ih =>
    unfold settleLoop
    split
    · exact Goes.refl g e c
    · rename_i d hd
      exact (settleStep_goes hcalm hd).trans (ih d)

theorem settle_goes (hcalm : ¬ g.calm) (c : Core) : Goes g e c (settle e c) := settleLoop_goes hcalm settleFuel c

end Sys2Proof.Machine

/-! PROOFS. What the teardown of a subscription's records leaves alone: the sessions, the searches, the stack states, the
consents, the Application Port's queue, and the values of the shadow map (R35, R62, R106, R127, R180). -/

namespace Sys2Proof.Machine

variable {e : Env}

/-- The part of a map entry that no end of a window changes: all but its live value. -/
def ShadowEntry.kept (m : ShadowEntry) : MapEntry × Pair (Option Half) × Option Half := (m.entry, m.own, m.common)

/-- RX_EN and TX_EN are low. -/
def Core.linesLow (c : Core) : Prop := c.tla.rxEn = false ∧ c.tla.txEn = false

/-- What the ends of a subscription's windows leave alone. -/
structure Spared (c d : Core) : Prop where
  smg : d.smg = c.smg
  csc : d.csc = c.csc
  generations : d.tla.generations = c.tla.generations
  band : d.tla.band = c.tla.band
  subSel : d.tla.subSel = c.tla.subSel
  low : c.linesLow → d.linesLow
  state : ∀ x, (d.ssv.get x).state = (c.ssv.get x).state
  unattached : ∀ x, c.attached x = false → d.ssv.get x = c.ssv.get x
  app : d.pif.get .app = c.pif.get .app
  consent : d.psc.consent = c.psc.consent
  stayAwake : d.psc.stayAwake = c.psc.stayAwake
  shadow : d.rcc.shadow.map ShadowEntry.kept = c.rcc.shadow.map ShadowEntry.kept
  tuning : d.rcc.tuning = c.rcc.tuning
  bus : d.rcc.bus.isSome = c.rcc.bus.isSome
  bridge : ∀ x, (c.bridge x).queue = [] → (d.bridge x).queue = []

theorem Spared.refl (c : Core) : Spared c c :=
  ⟨rfl, rfl, rfl, rfl, rfl, id, fun _ => rfl, fun _ _ => rfl, rfl, rfl, rfl, rfl, rfl, rfl, fun _ h => h⟩

theorem Spared.trans {c d f : Core} (h1 : Spared c d) (h2 : Spared d f) : Spared c f where
  smg := h2.smg.trans h1.smg
  csc := h2.csc.trans h1.csc
  generations := h2.generations.trans h1.generations
  band := h2.band.trans h1.band
  subSel := h2.subSel.trans h1.subSel
  low := fun h => h2.low (h1.low h)
  state := fun x => (h2.state x).trans (h1.state x)
  unattached := fun x h => (h2.unattached x (by rw [Core.attached, h1.state x]; exact h)).trans (h1.unattached x h)
  app := h2.app.trans h1.app
  consent := h2.consent.trans h1.consent
  stayAwake := h2.stayAwake.trans h1.stayAwake
  shadow := h2.shadow.trans h1.shadow
  tuning := h2.tuning.trans h1.tuning
  bus := h2.bus.trans h1.bus
  bridge := fun x h => h2.bridge x (h1.bridge x h)

/-- The Measurement Unit's and the Handover Evaluator's records stand. -/
def SameCells (c d : Core) : Prop := d.msu = c.msu ∧ d.hoe = c.hoe

theorem SameCells.trans {c d f : Core} (h1 : SameCells c d) (h2 : SameCells d f) : SameCells c f :=
  ⟨h2.1.trans h1.1, h2.2.trans h1.2⟩

/-- A step of the teardown of windows that leaves the cells as well. -/
def Quiet (c d : Core) : Prop := Spared c d ∧ SameCells c d

theorem Quiet.refl (c : Core) : Quiet c c := ⟨Spared.refl c, rfl, rfl⟩

theorem Quiet.trans {c d f : Core} (h1 : Quiet c d) (h2 : Quiet d f) : Quiet c f := ⟨h1.1.trans h2.1, h1.2.trans h2.2⟩

/-! ### Events of a stack port, and the examination of a head -/

theorem post_stack_app (x : Sub) (ev : Event) (c : Core) : (post e (.stack x) ev c).pif.get .app = c.pif.get .app := by
  have hset : ∀ q : EventQueue, (c.pif.set (.stack x) q).get .app = c.pif.get .app := fun q => by cases x <;> rfl
  rcases post_cases e (.stack x) ev c with h | h | ⟨y, m, -, h⟩ <;> rw [h]
  · exact hset _
  · exact hset _

theorem post_unattached (x : Sub) (ev : Event) (c : Core) {y : Sub} (h : c.attached y = false) :
    (post e (.stack x) ev c).ssv.get y = c.ssv.get y := by
  by_cases hx : c.attached x = true
  · rcases post_cases e (.stack x) ev c with hp | hp | ⟨z, m, hz, hp⟩ <;> rw [hp]
    cases hz
    rw [Core.setMonitor, Pair.get_set, if_neg]
    rintro rfl
    rw [h] at hx
    cases hx
  · rw [post_detached (Bool.eq_false_iff.mpr hx)]

theorem post_spared (x : Sub) (ev : Event) (c : Core) : Spared c (post e (.stack x) ev c) :=
  ⟨by simp, by simp, by simp, by simp, by simp, fun h => by simpa [Core.linesLow] using h, fun _ => by simp,
    fun _ => post_unattached x ev c, post_stack_app x ev c, by simp, by simp, by simp, by simp, by simp,
    fun y h => by simpa [Core.bridge] using h⟩

theorem post_quiet (x : Sub) (ev : Event) (c : Core) : Quiet c (post e (.stack x) ev c) :=
  ⟨post_spared x ev c, by simp, by simp⟩

/-- A change of a bridge queue, of the Power and Sleep Controller's times and powers, or of the triggers. -/
theorem quiet_of {c d : Core} (p : Quad Power) (s : Sleep) (divider fraction : Nat) (v : Option RccView) (pr : Option Prep)
    (b : Pair Bridge) (n : Bool) (hb : ∀ x, (c.bridge x).queue = [] → (b.get x).queue = []) (hd : d = { c with
      psc := { c.psc with power := p, sleep := s, divider := divider, fraction := fraction }
      rcc := { c.rcc with view := v, prep := pr, bridges := b }
      evaluate := n }) : Quiet c d := by
  subst hd
  exact ⟨{ Spared.refl c with bridge := hb }, rfl, rfl⟩

theorem setBridge_quiet {x : Sub} {b : Bridge} {c : Core} (h : (c.bridge x).queue ≠ []) : Quiet c (c.setBridge x b) := by
  refine quiet_of _ _ _ _ _ _ _ _ (fun y hy => ?_) rfl
  rw [Pair.get_set, if_neg]
  · exact hy
  · rintro rfl
    exact h hy

theorem setHead_quiet (x : Sub) (t : Txn) (c : Core) : Quiet c (c.setHead x t) := by
  unfold Core.setHead
  split
  · exact Quiet.refl c
  · rename_i u rest hq
    exact setBridge_quiet (by rw [hq]; exact List.cons_ne_nil _ _)

theorem completeHead_quiet (x : Sub) (outcome : Nat) (read : Option Half) (c : Core) :
    Quiet c (completeHead e x outcome read c) := by
  unfold completeHead
  split
  · exact Quiet.refl c
  · rename_i t rest hq
    have h1 : Quiet c (c.setBridge x { c.bridge x with queue := rest }) :=
      setBridge_quiet (by rw [hq]; exact List.cons_ne_nil _ _)
    exact (h1.trans (post_quiet x _ _)).trans (quiet_of _ _ _ _ _ _ _ _ (fun _ h => h) rfl)

/-- Without a window in the view no write is absorbed. -/
theorem examine_quiet {x : Sub} {c : Core} (hv : c.rcc.view = none) : Quiet c (examine e x c) :=
  (examineFrom_goes (P := fun c d => c.rcc.view = none → d.rcc.view = none ∧ Quiet c d) (fun c h => ⟨h, Quiet.refl c⟩)
    (fun a b c h1 h2 h => ⟨(h2 (h1 h).1).1, (h1 h).2.trans (h2 (h1 h).1).2⟩)
    (fun c _ _ _ _ hf hv => by simp [Core.foreign, hv] at hf)
    (fun c outcome read hv => ⟨by
      obtain ⟨-, -, -, -, -, -, hview, -⟩ := completeHead_frame e x outcome read c
      rw [hview, hv], completeHead_quiet x outcome read c⟩)
    (fun c t hv => ⟨by
      obtain ⟨-, -, -, -, -, -, hview, -⟩ := setHead_frame c x t
      rw [hview, hv], setHead_quiet x t c⟩) _ c hv).2

theorem examineIfHeld_quiet {x : Sub} {c : Core} (hv : c.rcc.view = none) : Quiet c (examineIfHeld e x c) := by
  unfold examineIfHeld
  split
  · exact examine_quiet hv
  · exact Quiet.refl c

theorem viewNone_quiet (h : Handle) (c : Core) : Quiet c (viewNone e h c) := by
  unfold viewNone
  split
  · exact Quiet.refl c
  · simp only
    split
    · have h1 : Quiet c { c with rcc := { c.rcc with view := none } } := quiet_of _ _ _ _ _ _ _ _ (fun _ h => h) rfl
      refine (h1.trans (examineIfHeld_quiet rfl)).trans (examineIfHeld_quiet ?_)
      exact (examineIfHeld_same _ _).2.2
    · exact Quiet.refl c

/-! ### Power and sleep -/

theorem setSleep_quiet (s : Sleep) (c : Core) : Quiet c (c.setSleep s) := quiet_of _ _ _ _ _ _ _ _ (fun _ h => h) rfl

theorem mainClock_quiet (c : Core) : Quiet c c.mainClock := quiet_of _ _ _ _ _ _ _ _ (fun _ h => h) rfl

theorem trigger_quiet (c : Core) : Quiet c c.trigger := quiet_of _ _ _ _ _ _ _ _ (fun _ h => h) rfl

theorem setPower_quiet (d : Device) (p : Power) (c : Core) : Quiet c (c.setPower d p) := quiet_of _ _ _ _ _ _ _ _ (fun _ h => h) rfl

theorem forceAwake_quiet (c : Core) : Quiet c (forceAwake c) := by
  unfold forceAwake
  split
  · exact Quiet.refl c
  · exact setSleep_quiet _ c
  · exact setSleep_quiet _ c
  · exact (setSleep_quiet _ c).trans (mainClock_quiet _)
  · exact (setSleep_quiet _ c).trans (mainClock_quiet _)

theorem wakeReached_quiet (c : Core) : Quiet c (wakeReached e c) := by
  unfold wakeReached
  split
  · exact (setSleep_quiet _ c).trans (trigger_quiet _)
  · exact setSleep_quiet _ c
  · exact setSleep_quiet _ c
  · exact Quiet.refl c

theorem recomputeWake_quiet (c : Core) : Quiet c (recomputeWake e c) := by
  have hone : ∀ (s : Sleep) (b : Bool), Quiet c (if b then wakeReached e (c.setSleep s) else c.setSleep s) := fun s b => by
    split
    · exact (setSleep_quiet s c).trans (wakeReached_quiet _)
    · exact setSleep_quiet s c
  unfold recomputeWake
  split
  · split
    · exact setSleep_quiet _ c
    · exact (setSleep_quiet _ c).trans (trigger_quiet _)
  · exact hone _ _
  · exact hone _ _
  · exact Quiet.refl c

theorem foldl_quiet {α : Type} {f : Core → α → Core} (h : ∀ c a, Quiet c (f c a)) (l : List α) (c : Core) :
    Quiet c (l.foldl f c) := by
  induction l generalizing c with
  | nil => exact Quiet.refl c
  | cons a l ih => exact (h c a).trans (ih _)

theorem raiseIfWanted_quiet (c : Core) (d : Device) : Quiet c (raiseIfWanted e c d) := by
  unfold raiseIfWanted
  split
  · exact (forceAwake_quiet c).trans (setPower_quiet _ _ _)
  · exact Quiet.refl c

theorem tableNotice_quiet (c : Core) : Quiet c (tableNotice e c) :=
  (recomputeWake_quiet c).trans (foldl_quiet raiseIfWanted_quiet Device.all _)

theorem leavesOn_spared (d : Device) (c : Core) : Spared c (leavesOn d c) :=
  { Spared.refl c with
    shadow := by
      unfold leavesOn
      rw [List.map_map]
      refine List.map_congr_left fun m _ => ?_
      simp only [Function.comp_apply]
      split <;> rfl
    bus := by
      unfold leavesOn
      cases c.rcc.bus <;> rfl }

theorem fall_quiet (c : Core) (d : Device) : Quiet c (fall e c d) := by
  obtain ⟨t, -, h⟩ | ⟨-, h⟩ | ⟨-, h⟩ := fall_cases e c d <;> rw [h]
  · exact setPower_quiet _ _ c
  · exact (setPower_quiet _ _ c).trans ⟨leavesOn_spared d _, rfl, rfl⟩
  · exact Quiet.refl c

theorem powerDownCheck_quiet (c : Core) (d : Device) : Quiet c (powerDownCheck e c d) := by
  unfold powerDownCheck
  split
  · exact fall_quiet c d
  · exact Quiet.refl c

theorem windowEndNotice_quiet (c : Core) : Quiet c (windowEndNotice e c) :=
  ((foldl_quiet powerDownCheck_quiet Device.all c).trans (tableNotice_quiet _)).trans (trigger_quiet _)

theorem freedNotice_quiet (c : Core) : Quiet c (freedNotice e c) := (tableNotice_quiet c).trans (trigger_quiet _)

/-! ### Windows and records -/

theorem closePrep_quiet (h : Handle) (c : Core) : Quiet c { c with rcc := c.rcc.closePrep h } := by
  unfold Rcc.closePrep
  split
  · exact Quiet.refl c
  · split
    · exact ⟨{ Spared.refl c with bus := by cases c.rcc.bus <;> rfl }, rfl, rfl⟩
    · exact Quiet.refl c

theorem dropPreparation_quiet (h : Handle) (c : Core) : Quiet c (dropPreparation e h c) :=
  ((closePrep_quiet h c).trans (viewNone_quiet h _)).trans (trigger_quiet _)

theorem lowerLines_quiet (c : Core) : Quiet c (lowerLines c) :=
  ⟨{ Spared.refl c with low := fun _ => ⟨rfl, rfl⟩ }, rfl, rfl⟩

theorem dropRecord_quiet (h : Handle) (c : Core) : Quiet c (c.dropRecord h) := ⟨{ Spared.refl c with }, rfl, rfl⟩

theorem postAll_spared (x : Sub) (evs : List Event) (c : Core) : Spared c (postAll e (.stack x) evs c) := by
  induction evs generalizing c with
  | nil => exact Spared.refl c
  | cons ev evs ih => exact (post_spared x ev c).trans (ih _)

/-- What changes the Measurement Unit's and the Handover Evaluator's records alone. -/
theorem spared_of_cells {c d : Core} (m : Msu) (h : Pair Hoe) (hd : d = { c with msu := m, hoe := h }) : Spared c d := by
  subst hd
  exact { Spared.refl c with }

theorem evaluateHandover_spared (x : Sub) (c : Core) : Spared c (evaluateHandover e x c) := by
  unfold evaluateHandover
  simp only
  split
  · exact Spared.refl c
  · split
    · unfold resetTiming
      simp only
      split <;> exact spared_of_cells _ _ rfl
    · exact Spared.trans (spared_of_cells _ _ rfl) (postAll_spared x _ _)

theorem closeView_spared (t : Time) (c : Core) : Spared c (closeView e t c) := by
  unfold closeView
  split
  · exact Spared.refl c
  · have hfolded : ∀ x ms, Spared c (foldMeans x t ms { c with msu := { c.msu with view := none } }) :=
      fun x ms => spared_of_cells _ _ rfl
    simp only
    split
    · exact (hfolded _ _).trans (evaluateHandover_spared _ _)
    · exact hfolded _ _

theorem closeWindow_spared (t : Time) (r : Reservation) (c : Core) : Spared c (closeWindow e t r c) :=
  ((lowerLines_quiet c).1.trans (viewNone_quiet _ _).1).trans (closeView_spared t _)

theorem stopOccurrence_spared (r : Reservation) (c : Core) : Spared c (stopOccurrence e r c) := by
  unfold stopOccurrence
  split
  · exact (dropPreparation_quiet _ c).1
  · exact (closeWindow_spared _ r c).trans (windowEndNotice_quiet _).1
  · exact Spared.refl c

theorem freeSilently_spared (c : Core) (r : Reservation) : Spared c (freeSilently e c r) :=
  ((stopOccurrence_spared r c).trans (dropRecord_quiet _ _).1).trans (freedNotice_quiet _).1

theorem foldl_spared {α : Type} {f : Core → α → Core} (h : ∀ c a, Spared c (f c a)) (l : List α) (c : Core) :
    Spared c (l.foldl f c) := by
  induction l generalizing c with
  | nil => exact Spared.refl c
  | cons a l ih => exact (h c a).trans (ih _)

theorem tlaTeardown_spared (x : Sub) (c : Core) : Spared c (tlaTeardown e x c) := foldl_spared freeSilently_spared _ c

end Sys2Proof.Machine

/-! PROOFS. The teardown of a subscription, block by block (R35, R62, R75, R119, R147, R163, R180, R205). -/

namespace Sys2Proof.Machine

variable {e : Env}

/-! ### The cells (R75, R82) -/

theorem closeView_none {t : Time} {c : Core} (h : c.msu.view = none) : closeView e t c = c := by
  simp only [closeView, h]

theorem cells_setCells_other {c : Core} {x y : Sub} (h : y ≠ x) (t : CellTable) : (c.setCells x t).cells y = c.cells y := by
  rw [Core.cells, Core.setCells, Pair.get_set, if_neg h]
  rfl

theorem postAll_msu (x : Sub) (evs : List Event) (c : Core) : (postAll e (.stack x) evs c).msu = c.msu := by
  induction evs generalizing c with
  | nil => rfl
  | cons ev evs ih => exact (ih _).trans (by simp)

theorem postAll_hoe (x : Sub) (evs : List Event) (c : Core) : (postAll e (.stack x) evs c).hoe = c.hoe := by
  induction evs generalizing c with
  | nil => rfl
  | cons ev evs ih => exact (ih _).trans (by simp)

theorem evaluateHandover_other {x y : Sub} (h : y ≠ x) (c : Core) :
    (evaluateHandover e x c).cells y = c.cells y ∧ (evaluateHandover e x c).hoe.get y = c.hoe.get y := by
  have hset : ∀ p : Hoe, (c.hoe.set x p).get y = c.hoe.get y := fun p => by rw [Pair.get_set, if_neg h]
  unfold evaluateHandover
  simp only
  split
  · exact ⟨rfl, rfl⟩
  · split
    · unfold resetTiming
      simp only
      split
      · exact ⟨cells_setCells_other h _, hset _⟩
      · exact ⟨cells_setCells_other h _, rfl⟩
    · rw [Core.cells, postAll_msu, postAll_hoe]
      exact ⟨cells_setCells_other h _, hset _⟩

/-- X's cells and conditions, while the open measurement window is not X's. -/
def CellsStand (x : Sub) (c d : Core) : Prop :=
  (∀ v ∈ c.msu.view, v.owner ≠ x) → (∀ v ∈ d.msu.view, v.owner ≠ x) ∧ d.cells x = c.cells x ∧ d.hoe.get x = c.hoe.get x

theorem CellsStand.trans {x : Sub} {c d f : Core} (h1 : CellsStand x c d) (h2 : CellsStand x d f) : CellsStand x c f :=
  fun h => ⟨(h2 (h1 h).1).1, ((h2 (h1 h).1).2.1).trans (h1 h).2.1, ((h2 (h1 h).1).2.2).trans (h1 h).2.2⟩

theorem Quiet.cells {x : Sub} {c d : Core} (h : Quiet c d) : CellsStand x c d := by
  obtain ⟨-, hm, hh⟩ := h
  intro hv
  rw [Core.cells, Core.cells, hm, hh]
  exact ⟨hv, rfl, rfl⟩

theorem closeView_cells (x : Sub) (t : Time) (c : Core) : CellsStand x c (closeView e t c) := by
  intro h
  refine ⟨?_, ?_⟩
  · obtain ⟨-, -, -, -, -, -, -, hview, -⟩ := closeView_leaves e t c
    intro v hv
    rw [hview] at hv
    cases hv
  · unfold closeView
    split
    · exact ⟨rfl, rfl⟩
    · rename_i v hv
      have hx : x ≠ v.owner := Ne.symm (h v hv)
      have hfold : ∀ ms, (foldMeans v.owner t ms { c with msu := { c.msu with view := none } }).cells x = c.cells x :=
        fun ms => cells_setCells_other hx _
      simp only
      split
      · obtain ⟨hc, hh⟩ := evaluateHandover_other (e := e) hx
          (foldMeans v.owner t (means v.accs) { c with msu := { c.msu with view := none } })
        exact ⟨hc.trans (hfold _), hh⟩
      · exact ⟨hfold _, rfl⟩

theorem freeSilently_cells (x : Sub) (c : Core) (r : Reservation) : CellsStand x c (freeSilently e c r) := by
  have hfreed : ∀ c : Core, CellsStand x c (freedNotice e (c.dropRecord r.handle)) := fun c =>
    (dropRecord_quiet r.handle c).cells.trans (freedNotice_quiet _).cells
  refine CellsStand.trans ?_ (hfreed _)
  unfold stopOccurrence
  split
  · exact (dropPreparation_quiet _ c).cells
  · exact (((lowerLines_quiet c).cells.trans (viewNone_quiet _ _).cells).trans (closeView_cells x _ _)).trans
      (windowEndNotice_quiet _).cells
  · exact (Quiet.refl c).cells

theorem tlaTeardown_cells (x y : Sub) (c : Core) : CellsStand x c (tlaTeardown e y c) := by
  unfold tlaTeardown
  generalize (c.tla.table.filter _) = l
  induction l generalizing c with
  | nil => exact (Quiet.refl c).cells
  | cons r l ih => exact (freeSilently_cells x c r).trans (ih _)

/-- Records that are not ACTIVE, or ended with no measurement window open, leave the cells and the conditions. -/
theorem freeSilently_quiet {c : Core} {r : Reservation} (h : c.msu.view = none ∨ r.state ≠ .active) :
    Quiet c (freeSilently e c r) := by
  refine Quiet.trans ?_ ((dropRecord_quiet r.handle _).trans (freedNotice_quiet _))
  unfold stopOccurrence
  split
  · exact dropPreparation_quiet _ c
  · rename_i hs
    have hopen := h.resolve_right fun hne => hne hs
    have hlowered : Quiet c (viewNone e r.handle (lowerLines c)) := (lowerLines_quiet c).trans (viewNone_quiet _ _)
    refine Quiet.trans ?_ (windowEndNotice_quiet _)
    rw [closeWindow, closeView_none (by rw [hlowered.2.1]; exact hopen)]
    exact hlowered
  · exact Quiet.refl c

theorem tlaTeardown_quiet {x : Sub} {c : Core}
    (h : c.msu.view = none ∨ ∀ r ∈ c.tla.table, r.owner = x → r.state ≠ .active) : Quiet c (tlaTeardown e x c) := by
  have hall : c.msu.view = none ∨ ∀ r ∈ c.tla.table.filter (fun r => decide (r.owner = x)), r.state ≠ .active :=
    h.imp_right fun h r hr => h r (List.mem_filter.mp hr).1 (of_decide_eq_true (List.mem_filter.mp hr).2)
  clear h
  unfold tlaTeardown
  generalize (c.tla.table.filter _) = l at hall
  induction l generalizing c with
  | nil => exact Quiet.refl c
  | cons r l ih =>
    have hone : Quiet c (freeSilently e c r) := freeSilently_quiet (hall.imp_right fun h => h r (List.mem_cons_self ..))
    exact hone.trans (ih (hall.imp (fun h => by rw [hone.2.1]; exact h) fun h q hq => h q (List.mem_cons_of_mem _ hq)))

/-! ### The Timeline Arbiter's table (R35) -/

theorem tlaTeardown_table (x : Sub) (c : Core) (q : Reservation) : q ∈ (tlaTeardown e x c).tla.table ↔
    q ∈ c.tla.table ∧ ∀ r ∈ c.tla.table, r.owner = x → q.handle ≠ r.handle := by
  unfold tlaTeardown
  rw [foldl_removes_table freeSilently_table]
  simp only [List.mem_filter, decide_eq_true_eq, and_imp]

theorem tlaTeardown_owner {x : Sub} {c : Core} : ∀ r ∈ (tlaTeardown e x c).tla.table, r.owner ≠ x := by
  intro r hr ho
  obtain ⟨hmem, hne⟩ := (tlaTeardown_table x c r).mp hr
  exact hne r hmem ho rfl

/-- The filters of one removal after another are one filter. -/
theorem foldl_removes_filter {f : Core → Reservation → Core}
    (ht : ∀ c r, (f c r).tla.table = c.tla.table.filter fun q => decide (q.handle ≠ r.handle)) (rs : List Reservation)
    (c : Core) : (rs.foldl f c).tla.table = c.tla.table.filter fun q => rs.all fun r => decide (q.handle ≠ r.handle) := by
  induction rs generalizing c with
  | nil => simp
  | cons r rs ih =>
    rw [List.foldl_cons, ih, ht, List.filter_filter]
    refine List.filter_congr fun q _ => ?_
    rw [List.all_cons, Bool.and_comm]

/-- Where handles differ, the teardown keeps exactly the other's records. -/
theorem tlaTeardown_keeps {x : Sub} {c : Core} (h : c.TableLaw) :
    (tlaTeardown e x c).tla.table = c.tla.table.filter fun r => decide (r.owner = x.other) := by
  unfold tlaTeardown
  rw [foldl_removes_filter freeSilently_table]
  refine List.filter_congr fun q hq => ?_
  rw [Bool.eq_iff_iff, List.all_eq_true, decide_eq_true_eq]
  constructor
  · intro hall
    have hne : q.owner ≠ x := fun ho =>
      of_decide_eq_true (hall q (List.mem_filter.mpr ⟨hq, decide_eq_true ho⟩)) rfl
    revert hne
    cases q.owner <;> cases x <;> decide
  · intro ho r hr
    obtain ⟨hmem, hr⟩ := List.mem_filter.mp hr
    refine decide_eq_true fun hh => ?_
    rw [handle_inj h hq hmem hh, of_decide_eq_true hr] at ho
    cases x <;> cases ho

/-! ### The other blocks (R62, R119, R147, R163) -/

/-- What the teardown of X leaves of the Session Manager's record. -/
def Smg.clear (m : Smg) (x : Sub) : Smg :=
  { m with sessions := dropSessions x m.sessions, queues := m.queues.set x [], missed := m.missed.set x ⟨0, false⟩ }

/-- What the teardown of X leaves of the RF Context Controller's record. -/
def Rcc.clear (r : Rcc) (x : Sub) : Rcc :=
  { r with
    shadow := r.shadow.map fun s => { s with own := s.own.set x none }
    bus := r.bus.map (Transfer.orphan x)
    bridges := r.bridges.set x { r.bridges.get x with queue := [] } }

/-- The core when X's records, sessions, search, transactions and consent are gone. -/
def Core.clear (c : Core) (x : Sub) : Core :=
  { c with
    smg := c.smg.clear x
    hoe := c.hoe.set x Hoe.initial
    csc := c.csc.set x Search.initial
    rcc := c.rcc.clear x
    psc := { c.psc with consent := c.psc.consent.set x false } }

/-- The core when the Timeline Arbiter's and the Measurement Unit's shares of X's teardown are done. -/
def tornWindows (e : Env) (x : Sub) (left : StackState) (c : Core) : Core :=
  tlaTeardown e x (msuTeardown x (c.setStack x ⟨left, none⟩))

/-- What the Application Port is told of X's teardown: the end of its call, and then of its coverage. -/
def tellTeardown (e : Env) (x : Sub) (reason : Nat) (held : Bool) (was : Coverage) (c : Core) : Core :=
  let told := if held then postCall e .app x callClosed reason c else c
  if was = .noCell then told
  else post e .app
    (Event.now e .coverage (.subscription x) (value16 Coverage.noCell.code) (value16 CoverageCause.teardown.code)) told

theorem post_app (ev : Event) (c : Core) :
    post e .app ev c = { c with pif := c.pif.set .app ((c.pif.get .app).join ev) } := rfl

theorem smgTeardown_eq (x : Sub) (reason : Nat) (c : Core) : smgTeardown e x reason c = { c with
    smg := c.smg.clear x
    pif := (if c.holdsCall x then postCall e .app x callClosed reason c else c).pif } := by
  unfold smgTeardown
  simp only
  split <;> rfl

theorem cscTeardown_unserved {x : Sub} {c : Core} (h : (c.csc.get x).coverage = .noCell) :
    cscTeardown e x c = { c with csc := c.csc.set x Search.initial } := by
  unfold cscTeardown
  simp only
  rw [if_pos h]
  rfl

theorem cscTeardown_served {x : Sub} {c : Core} (h : (c.csc.get x).coverage ≠ .noCell) :
    cscTeardown e x c = post e .app
      (Event.now e .coverage (.subscription x) (value16 Coverage.noCell.code) (value16 CoverageCause.teardown.code))
      { c with csc := c.csc.set x Search.initial } := by
  unfold cscTeardown
  simp only
  rw [if_neg h]
  rfl

/-- The teardown, but for the last steps on X's event queue and the triggers. -/
theorem teardown_eq (e : Env) (x : Sub) (left : StackState) (c : Core) : ∃ b, teardown e x left c =
    emptyQueue (.stack x) { (tornWindows e x left c).clear x with
      pif := (tellTeardown e x left.closeReason ((tornWindows e x left c).holdsCall x)
        ((tornWindows e x left c).csc.get x).coverage (tornWindows e x left c)).pif
      evaluate := b } := by
  have hafter : ∀ c : Core, ∃ b, clearConsent x (rccTeardown x c) = { c with
      rcc := c.rcc.clear x
      psc := { c.psc with consent := c.psc.consent.set x false }
      evaluate := b } := fun c => by
    obtain ⟨b, hb⟩ := rccTeardown_frame x c
    rw [hb, clearConsent_eq]
    exact ⟨_, rfl⟩
  unfold teardown
  simp only
  obtain ⟨b, hb⟩ := hafter (cscTeardown e x ((smgTeardown e x left.closeReason (tornWindows e x left c)).setHoe x Hoe.initial))
  refine ⟨b, ?_⟩
  change emptyQueue (.stack x) (clearConsent x (rccTeardown x (cscTeardown e x ((smgTeardown e x left.closeReason
    (tornWindows e x left c)).setHoe x Hoe.initial)))) = _
  rw [hb]
  generalize tornWindows e x left c = t
  obtain ⟨u, hu⟩ : ∃ u, u = (smgTeardown e x left.closeReason t).setHoe x Hoe.initial := ⟨_, rfl⟩
  have hcsc : u.csc = t.csc := by rw [hu, smgTeardown_eq]; rfl
  rw [← hu]
  by_cases hcov : (t.csc.get x).coverage = .noCell
  · rw [tellTeardown, if_pos hcov, cscTeardown_unserved (hcsc ▸ hcov), hu, smgTeardown_eq]
    rfl
  · rw [tellTeardown, if_neg hcov, cscTeardown_served (hcsc ▸ hcov), hu, smgTeardown_eq]
    rfl

/-! ### What is emptied, and what stands -/

theorem emptyQueue_pif (port : Port) (c : Core) : (emptyQueue port c).pif = c.pif.set port ⟨[], 0⟩ := by
  unfold emptyQueue
  simp only
  split
  · rfl
  · cases port <;> rfl

theorem emptyQueue_ssv (x : Sub) (c : Core) (y : Sub) (h : y = x → (c.ssv.get x).monitor = none) :
    (emptyQueue (.stack x) c).ssv.get y = c.ssv.get y := by
  unfold emptyQueue
  simp only
  split
  · rfl
  · change (c.ssv.set x { c.ssv.get x with monitor := none }).get y = _
    rw [Pair.get_set]
    split
    · rename_i hyx
      subst hyx
      rw [← h rfl]
    · rfl

/-- What the steps on the event queue leave of the core. -/
theorem emptyQueue_rest (port : Port) (c : Core) : (emptyQueue port c).tla = c.tla ∧ (emptyQueue port c).smg = c.smg
    ∧ (emptyQueue port c).msu = c.msu ∧ (emptyQueue port c).hoe = c.hoe ∧ (emptyQueue port c).csc = c.csc
    ∧ (emptyQueue port c).rcc = c.rcc ∧ (emptyQueue port c).psc = c.psc := by
  obtain ⟨q, s, b, h⟩ := emptyQueue_frame port c
  rw [h]
  exact ⟨rfl, rfl, rfl, rfl, rfl, rfl, rfl⟩

/-- The records of the torn-down core. -/
theorem teardown_records (e : Env) (x : Sub) (left : StackState) (c : Core) :
    (teardown e x left c).tla = (tornWindows e x left c).tla
    ∧ (teardown e x left c).smg = (tornWindows e x left c).smg.clear x
    ∧ (teardown e x left c).msu = (tornWindows e x left c).msu
    ∧ (teardown e x left c).hoe = (tornWindows e x left c).hoe.set x Hoe.initial
    ∧ (teardown e x left c).csc = (tornWindows e x left c).csc.set x Search.initial
    ∧ (teardown e x left c).rcc = (tornWindows e x left c).rcc.clear x
    ∧ (teardown e x left c).psc = { (tornWindows e x left c).psc with
        consent := (tornWindows e x left c).psc.consent.set x false } := by
  obtain ⟨b, h⟩ := teardown_eq e x left c
  rw [h]
  exact emptyQueue_rest _ _

theorem tornWindows_spared (e : Env) (x : Sub) (left : StackState) (c : Core) :
    Spared (msuTeardown x (c.setStack x ⟨left, none⟩)) (tornWindows e x left c) := tlaTeardown_spared x _

theorem tornWindows_smg (e : Env) (x : Sub) (left : StackState) (c : Core) : (tornWindows e x left c).smg = c.smg :=
  (tornWindows_spared e x left c).smg

theorem tornWindows_csc (e : Env) (x : Sub) (left : StackState) (c : Core) : (tornWindows e x left c).csc = c.csc :=
  (tornWindows_spared e x left c).csc

theorem msuTeardown_view (x : Sub) (c : Core) : ∀ v ∈ (msuTeardown x c).msu.view, v ∈ c.msu.view ∧ v.owner ≠ x := by
  intro v hv
  unfold msuTeardown at hv
  simp only at hv
  split at hv
  · cases hv
  · rename_i w hw
    split at hv
    · cases hv
    · rename_i hne
      cases hv
      exact ⟨hw, hne⟩

theorem setStack_unattached {x : Sub} {left : StackState} (hl : left ≠ .attached) (c : Core) :
    (c.setStack x ⟨left, none⟩).attached x = false := by
  rw [Core.attached, Core.setStack, Pair.get_set_self]
  exact decide_eq_false hl

theorem teardown_cells (e : Env) (x : Sub) (left : StackState) (c : Core) :
    (teardown e x left c).cells x = CellTable.initial ∧ ∀ v ∈ (teardown e x left c).msu.view, v.owner ≠ x := by
  obtain ⟨hview, hcells, -⟩ := tlaTeardown_cells (e := e) x x (msuTeardown x (c.setStack x ⟨left, none⟩))
    fun v hv => (msuTeardown_view x _ v hv).2
  obtain ⟨-, -, hm, -⟩ := teardown_records e x left c
  rw [Core.cells, hm]
  exact ⟨hcells.trans (Pair.get_set_self ..), hview⟩

theorem dropSessions_owner {x : Sub} {l : List (Option Session)} {n : Session} (h : some n ∈ dropSessions x l) :
    some n ∈ l ∧ n.owner ≠ x := by
  obtain ⟨o, ho, heq⟩ := List.mem_map.mp h
  split at heq
  · split at heq
    · cases heq
    · rename_i hne
      cases heq
      exact ⟨ho, hne⟩
  · cases heq

theorem teardown_stack (e : Env) {x : Sub} {left : StackState} (hl : left ≠ .attached) (c : Core) :
    (teardown e x left c).ssv.get x = ⟨left, none⟩ := by
  have hset : (c.setStack x ⟨left, none⟩).ssv.get x = ⟨left, none⟩ := Pair.get_set_self ..
  have hwindows : (tornWindows e x left c).ssv.get x = ⟨left, none⟩ :=
    ((tornWindows_spared e x left c).unattached x (setStack_unattached hl c)).trans hset
  obtain ⟨b, h⟩ := teardown_eq e x left c
  rw [h]
  refine (emptyQueue_ssv x _ x fun _ => ?_).trans ?_
  · exact congrArg Stack.monitor hwindows
  · exact hwindows

theorem teardown_other_state (e : Env) {x y : Sub} (hy : y ≠ x) (left : StackState) (c : Core) :
    ((teardown e x left c).ssv.get y).state = (c.ssv.get y).state := by
  obtain ⟨b, h⟩ := teardown_eq e x left c
  rw [h, emptyQueue_ssv x _ y fun h => absurd h hy]
  refine ((tornWindows_spared e x left c).state y).trans ?_
  change ((c.ssv.set x _).get y).state = _
  rw [Pair.get_set, if_neg hy]

theorem teardown_pif (e : Env) (x : Sub) (left : StackState) (c : Core) : (teardown e x left c).pif =
    (tellTeardown e x left.closeReason (c.holdsCall x) (c.csc.get x).coverage (tornWindows e x left c)).pif.set (.stack x)
      ⟨[], 0⟩ := by
  obtain ⟨b, h⟩ := teardown_eq e x left c
  have hheld : (tornWindows e x left c).holdsCall x = c.holdsCall x := by
    rw [Core.holdsCall, Core.voiceSession, tornWindows_smg]
    rfl
  rw [h, emptyQueue_pif, hheld, tornWindows_csc]

/-- What the Application Port is told is the same wherever its queue is. -/
theorem tellTeardown_app (e : Env) (x : Sub) (reason : Nat) (held : Bool) (was : Coverage) {c d : Core}
    (h : d.pif.get .app = c.pif.get .app) : (tellTeardown e x reason held was d).pif.get .app =
      (tellTeardown e x reason held was c).pif.get .app := by
  have hpost : ∀ (ev : Event) {c d : Core}, d.pif.get .app = c.pif.get .app →
      (post e .app ev d).pif.get .app = (post e .app ev c).pif.get .app := fun ev c d h => by
    rw [post_app, post_app]
    change (d.pif.get .app).join ev = (c.pif.get .app).join ev
    rw [h]
  have htold : (if held then postCall e .app x callClosed reason d else d).pif.get .app
      = (if held then postCall e .app x callClosed reason c else c).pif.get .app := by
    cases held
    · exact h
    · exact hpost _ h
  unfold tellTeardown
  simp only
  split
  · exact htold
  · exact hpost _ htold

theorem holdsCall_iff (c : Core) (x : Sub) : c.holdsCall x = true ↔ ∃ n v, c.voiceSession = some (n, v) ∧ n.owner = x := by
  unfold Core.holdsCall
  split
  · rename_i h
    rw [h]
    exact ⟨fun h => (nomatch h), fun ⟨_, _, h, _⟩ => nomatch h⟩
  · rename_i n v h
    rw [h, decide_eq_true_eq]
    constructor
    · intro ho
      exact ⟨n, v, rfl, ho⟩
    · rintro ⟨m, u, hm, ho⟩
      cases hm
      exact ho

/-- What the teardown of X leaves of each map entry for the other subscription. -/
theorem teardown_shadow (e : Env) (x : Sub) (left : StackState) (c : Core) :
    (teardown e x left c).rcc.shadow.map (fun m => (m.entry, m.own.get x.other, m.common))
      = c.rcc.shadow.map (fun m => (m.entry, m.own.get x.other, m.common)) := by
  have hkept : ∀ l : List ShadowEntry, l.map (fun m => (m.entry, m.own.get x.other, m.common))
      = (l.map ShadowEntry.kept).map fun k => (k.1, k.2.1.get x.other, k.2.2) := fun l => by
    rw [List.map_map]
    rfl
  obtain ⟨-, -, -, -, -, hrcc, -⟩ := teardown_records e x left c
  rw [hrcc]
  change ((tornWindows e x left c).rcc.shadow.map _).map _ = _
  rw [List.map_map, hkept c.rcc.shadow]
  have hspared := (tornWindows_spared e x left c).shadow
  change _ = c.rcc.shadow.map ShadowEntry.kept at hspared
  rw [← hspared, ← hkept]
  refine List.map_congr_left fun m _ => ?_
  simp only [Function.comp_apply, Pair.get_set_other]

/-- The sessions left are exactly the other's. -/
theorem dropSessions_eq (x : Sub) (l : List (Option Session)) :
    dropSessions x l = l.map fun o => o.filter fun n => decide (n.owner = x.other) := by
  refine List.map_congr_left fun o _ => ?_
  cases o with
  | none => rfl
  | some n =>
    rw [Option.filter_some]
    cases hn : n.owner <;> cases x <;> simp [hn, Sub.other]

/-- Settles O21. -/
theorem teardownClears : Obligations.TeardownClears := by
  unfold Obligations.TeardownClears
  refine ⟨fun e x left c t hl ht => ?_, fun e x y left c t hy hlaw hview hl ht => ?_, fun e x left c told held hl hheld htold => ?_⟩
  · subst ht
    have hspared := tornWindows_spared e x left c
    obtain ⟨htla, hsmg, -, hhoe, hcsc, hrcc, hpsc⟩ := teardown_records e x left c
    refine ⟨teardown_stack e hl c, fun r hr => ?_, fun n hn => ?_, ?_, ?_, (teardown_cells e x left c).1, ?_, ?_, ?_, fun m hm => ?_,
      ?_, ?_, ?_, ?_⟩
    · rw [htla] at hr
      exact tlaTeardown_owner r hr
    · rw [hsmg] at hn
      exact (dropSessions_owner hn).2
    · rw [Core.queue, hsmg]
      exact Pair.get_set_self ..
    · rw [hsmg]
      exact Pair.get_set_self ..
    · rw [hhoe, Pair.get_set_self]
    · rw [hcsc, Pair.get_set_self]
    · rw [Core.bridge, hrcc]
      exact congrArg Bridge.queue (Pair.get_set_self ..)
    · rw [hrcc] at hm
      obtain ⟨n, -, rfl⟩ := List.mem_map.mp hm
      exact Pair.get_set_self ..
    · rw [hpsc]
      exact Pair.get_set_self ..
    · rw [teardown_pif, Trio.get_set, if_pos rfl]
    · rw [htla]
      exact hspared.generations
    · rw [hsmg]
      exact (congrArg Smg.generations (tornWindows_smg e x left c) :)
  · subst hy ht
    have hspared := tornWindows_spared e x left c
    have hother : x.other ≠ x := by cases x <;> decide
    obtain ⟨htla, hsmg, hmsu, hhoe, hcsc, -, hpsc⟩ := teardown_records e x left c
    have hquiet : Quiet (msuTeardown x (c.setStack x ⟨left, none⟩)) (tornWindows e x left c) := by
      refine tlaTeardown_quiet ?_
      cases hv : (msuTeardown x (c.setStack x ⟨left, none⟩)).msu.view with
      | none => exact .inl rfl
      | some v =>
        obtain ⟨hmem, hne⟩ := msuTeardown_view x _ v hv
        exact .inr ((hview v hmem).resolve_left hne)
    refine ⟨?_, ?_, ?_, ?_, ?_, ?_, ?_, teardown_shadow e x left c, ?_, ?_, teardown_other_state e hother left c, ?_, ?_⟩
    · rw [htla]
      exact tlaTeardown_keeps (c := msuTeardown x (c.setStack x ⟨left, none⟩)) hlaw
    · rw [hsmg, tornWindows_smg]
      exact dropSessions_eq x _
    · rw [Core.queue, hsmg, tornWindows_smg]
      exact (Pair.get_set ..).trans (if_neg hother)
    · rw [hsmg, tornWindows_smg]
      exact (Pair.get_set ..).trans (if_neg hother)
    · rw [Core.cells, hmsu, hquiet.2.1]
      exact (Pair.get_set ..).trans (if_neg hother)
    · rw [hhoe, Pair.get_set, if_neg hother, hquiet.2.2]
      rfl
    · rw [hcsc, Pair.get_set, if_neg hother, tornWindows_csc]
    · rw [hpsc]
      exact ((Pair.get_set ..).trans (if_neg hother)).trans (congrArg (fun p : Pair Bool => p.get x.other) hspared.consent)
    · rw [hpsc]
      exact hspared.stayAwake
    · rw [htla]
      exact hspared.band
    · rw [htla]
      exact hspared.subSel
  · have hheld' : held = c.holdsCall x := by rw [Bool.eq_iff_iff, hheld, holdsCall_iff]
    rw [teardown_pif, Trio.get_set, if_neg (by rintro ⟨⟩), tellTeardown_app (c := c) _ _ _ _ _ (tornWindows_spared e x left c).app,
      ← hheld']
    have hreason : left.closeReason = if left = .lost then 2 else 3 := by
      cases left <;> rfl
    rw [htold, ← hreason]
    unfold tellTeardown
    clear htold hheld hheld'
    by_cases hcov : (c.csc.get x).coverage = .noCell
    · have hnot : ¬ (c.csc.get x).coverage ≠ .noCell := fun h => h hcov
      simp only [if_pos hcov, if_neg hnot]
      rfl
    · have hdo : (c.csc.get x).coverage ≠ .noCell := hcov
      simp only [if_neg hcov, if_pos hdo]
      rfl

end Sys2Proof.Machine

/-! PROOFS. The teardown of a subscription, one change after another, and that the other's teardown gives it nothing back
(R35, R62, R75, R119, R147, R180). -/

namespace Sys2Proof.Machine

variable {g : Claims} {e : Env}

/-! ### The Session Manager's share (R62) -/

theorem dropSessions_place (x : Sub) (m : Smg) (i : Nat) (n : Session) :
    (m.clear x).place i = some n ↔ m.place i = some n ∧ ¬ n.owner = x := by
  rw [place_iff, place_iff]
  change (dropSessions x m.sessions)[i]? = _ ↔ _
  rw [dropSessions, List.getElem?_map]
  constructor
  · intro h
    obtain ⟨o, ho, heq⟩ := Option.map_eq_some_iff.mp h
    split at heq
    · split at heq
      · cases heq
      · rename_i hne
        cases heq
        exact ⟨ho, hne⟩
    · cases heq
  · rintro ⟨h, hne⟩
    rw [h, Option.map_some]
    simp only [if_neg hne]

theorem Places.clear {m : Smg} (w : Places e m) (x : Sub) : Places e (m.clear x) := by
  refine w.fewer ((List.length_map ..).trans w.size) w.generations (fun n => n.owner = x) (dropSessions_place x m)
    (fun y h => ?_) fun y => ?_
  · change h ∈ (m.queues.set x []).get y ↔ _
    rw [Pair.get_set]
    split
    · rename_i hyx
      subst hyx
      refine ⟨fun h => (nomatch h), ?_⟩
      rintro ⟨hq, hnot⟩
      obtain ⟨n, hn, -, ho, -⟩ := (w.queue y h).mp hq
      exact absurd ho (hnot n hn)
    · rename_i hyx
      refine ⟨fun hq => ⟨hq, fun n hn ho => ?_⟩, fun h => h.1⟩
      obtain ⟨k, hk, -, hko, -⟩ := (w.queue y h).mp hq
      rw [hn] at hk
      cases hk
      exact hyx (hko.symm.trans ho)
  · change ((m.queues.set x []).get y).Sublist _
    rw [Pair.get_set]
    split
    · exact List.nil_sublist _
    · exact List.Sublist.refl _

/-- X's sessions leave the table with no record left that names one. -/
theorem clearSmg_goes (hcalm : ¬ g.calm) {x : Sub} {c : Core} (h : ∀ r ∈ c.tla.table, r.owner ≠ x) :
    Goes g e c { c with smg := c.smg.clear x } := by
  refine smg_goes _ (fun hl => ?_) (fun _ n hn => alive_of_session (dropSessions_owner hn).1) (fun _ y hy => ?_)
    fun hg => absurd hg hcalm
  · obtain ⟨w, hnamed⟩ := sessionsLaw_iff.mp hl
    refine sessionsLaw_iff.mpr ⟨w.clear x, fun r hr k hk => ?_⟩
    obtain ⟨n, hn, hh, ho⟩ := ownsSession_iff.mp (hnamed r hr k hk)
    exact ownsSession_iff.mpr ⟨n, (dropSessions_place x c.smg _ n).mpr ⟨hn, fun hx => h r hr (ho.symm.trans hx)⟩, hh, ho⟩
  · refine alive_of_queue fun hnil => hy ?_
    change (c.smg.queues.set x []).get y = []
    rw [Pair.get_set]
    split
    · rfl
    · exact hnil

theorem smgTeardown_goes (hcalm : ¬ g.calm) {x : Sub} {reason : Nat} {c : Core} (h : ∀ r ∈ c.tla.table, r.owner ≠ x) :
    Goes g e c (smgTeardown e x reason c) := by
  have hcleared := clearSmg_goes (g := g) (e := e) hcalm h
  unfold smgTeardown
  simp only
  split
  · exact hcleared.trans (post_goes _ _ _)
  · exact hcleared

/-! ### The whole teardown (R180) -/

theorem cscTeardown_goes (hcalm : ¬ g.calm) (x : Sub) (c : Core) : Goes g e c (cscTeardown e x c) := by
  have hcleared : Goes g e c (c.setSearch x Search.initial) :=
    (Change.search x Search.initial (fun _ => .inr ⟨rfl, rfl⟩) hcalm).goes
  unfold cscTeardown
  simp only
  split
  · exact hcleared
  · exact hcleared.trans (post_goes _ _ _)

/-- What follows the change of the stack state. -/
theorem teardown_goes (hcalm : ¬ g.calm) (x : Sub) (left : StackState) (c : Core) :
    Goes g e (c.setStack x ⟨left, none⟩) (teardown e x left c) := by
  have hwindows : Goes g e (c.setStack x ⟨left, none⟩) (tornWindows e x left c) :=
    (msuTeardown_goes x _).trans (tlaTeardown_goes x _)
  have hsessions : Goes g e (c.setStack x ⟨left, none⟩) (smgTeardown e x left.closeReason (tornWindows e x left c)) :=
    hwindows.trans (smgTeardown_goes hcalm tlaTeardown_owner)
  have hsearch := (hsessions.trans (Change.handover ((smgTeardown e x left.closeReason (tornWindows e x left c)).hoe.set x
    Hoe.initial)).goes).trans (cscTeardown_goes hcalm x _)
  exact ((hsearch.trans (Change.tearsDown x).goes).trans (clearConsent_goes x _)).trans (Change.empty (.stack x)).goes

theorem sound_of_stacks {c d : Core} (w : Sound g e c) (htla : d.tla = c.tla) (hsmg : d.smg = c.smg) (hrcc : d.rcc = c.rcc)
    (hpower : d.psc.power = c.psc.power) : Sound g e d where
  table := fun hg => by simpa only [Core.TableLaw, Core.recordsOwned, htla] using w.table hg
  works := fun hg => (w.works hg).congr htla (by rw [hrcc]) (by rw [hrcc])
  sessions := fun hg => (w.sessions hg).congr hsmg (by rw [htla]; exact fun r hr h hh => (w.sessions hg).named hr hh)
  live := fun hg => (w.live hg).congr hrcc hpower (by rw [htla]; exact (w.live hg).staged)

/-- The teardown keeps what is claimed. -/
theorem teardown_sound (hcalm : ¬ g.calm) {c : Core} (w : Sound g e c) (x : Sub) (left : StackState) :
    Sound g e (teardown e x left c) :=
  (teardown_goes hcalm x left c).sound (sound_of_stacks w rfl rfl rfl rfl)

theorem teardown_narrower {left : StackState} (hl : left ≠ .attached) {c : Core} (w : c.Works) (x : Sub) :
    Narrower c (teardown e x left c) := by
  let g : Claims := ⟨True, True, False, False, False, fun _ => trivial, False.elim⟩
  have hsound : Sound g e (c.setStack x ⟨left, none⟩) :=
    ⟨fun _ => w.table, fun _ => w.congr rfl rfl rfl, False.elim, False.elim⟩
  exact (detach_narrower c x hl).trans ((teardown_goes (g := g) id x left c).narrower hsound trivial)

end Sys2Proof.Machine

/-! PROOFS. COORDINATOR_RESET: what its two teardowns leave, and what the reset of the RF side, the power and the queues adds
(R147, R155, R163, R205, R216). -/

namespace Sys2Proof.Machine

variable {e : Env}

/-! ### A subscription that holds nothing (R110, R180) -/

/-- X owns no reservation, session, queued text, bridge transaction or context value. -/
structure Holdless (x : Sub) (c : Core) : Prop where
  table : ∀ r ∈ c.tla.table, r.owner ≠ x
  sessions : ∀ n, some n ∈ c.smg.sessions → n.owner ≠ x
  queue : c.queue x = []
  bridge : (c.bridge x).queue = []
  shadow : ∀ m ∈ c.rcc.shadow, m.own.get x = none

theorem Holdless.congr {x : Sub} {c d : Core} (h : Holdless x c) (ht : d.tla = c.tla) (hs : d.smg = c.smg)
    (hr : d.rcc = c.rcc) : Holdless x d := by
  obtain ⟨h1, h2, h3, h4, h5⟩ := h
  exact ⟨by rw [ht]; exact h1, by rw [hs]; exact h2, by rw [Core.queue, hs]; exact h3, by rw [Core.bridge, hr]; exact h4,
    by rw [hr]; exact h5⟩

theorem teardown_holdless (e : Env) (x : Sub) (left : StackState) (c : Core) : Holdless x (teardown e x left c) := by
  obtain ⟨htla, hsmg, -, -, -, hrcc, -⟩ := teardown_records e x left c
  refine ⟨?_, ?_, ?_, ?_, ?_⟩
  · rw [htla]
    exact tlaTeardown_owner
  · rw [hsmg]
    exact fun n hn => (dropSessions_owner hn).2
  · rw [Core.queue, hsmg]
    exact Pair.get_set_self ..
  · rw [Core.bridge, hrcc]
    exact congrArg Bridge.queue (Pair.get_set_self ..)
  · rw [hrcc]
    intro m hm
    obtain ⟨n, -, rfl⟩ := List.mem_map.mp hm
    exact Pair.get_set_self ..

/-- Own values that are UNSET are so in every map with the same values but for the live ones. -/
theorem own_none_of_kept {x : Sub} {l k : List ShadowEntry} (h : l.map ShadowEntry.kept = k.map ShadowEntry.kept)
    (hk : ∀ m ∈ k, m.own.get x = none) : ∀ m ∈ l, m.own.get x = none := by
  intro m hm
  have hmem : m.kept ∈ k.map ShadowEntry.kept := h ▸ List.mem_map_of_mem hm
  obtain ⟨n, hn, heq⟩ := List.mem_map.mp hmem
  have hown : n.own = m.own := congrArg (fun q : MapEntry × Pair (Option Half) × Option Half => q.2.1) heq
  rw [← hown]
  exact hk n hn

/-- A teardown gives nothing to anyone. -/
theorem Holdless.teardown {x : Sub} {c : Core} (h : Holdless x c) (y : Sub) (left : StackState) :
    Holdless x (Machine.teardown e y left c) := by
  have hspared := tornWindows_spared e y left c
  obtain ⟨htla, hsmg, -, -, -, hrcc, -⟩ := teardown_records e y left c
  refine ⟨?_, ?_, ?_, ?_, ?_⟩
  · rw [htla]
    exact fun r hr => h.table r ((tlaTeardown_table y _ r).mp hr).1
  · rw [hsmg]
    intro n hn
    have := (dropSessions_owner hn).1
    rw [tornWindows_smg] at this
    exact h.sessions n this
  · rw [Core.queue, hsmg, tornWindows_smg]
    change (c.smg.queues.set y []).get x = []
    rw [Pair.get_set]
    split
    · rfl
    · exact h.queue
  · rw [Core.bridge, hrcc]
    change ((tornWindows e y left c).rcc.bridges.set y _ |>.get x).queue = []
    rw [Pair.get_set]
    split
    · rfl
    · exact hspared.bridge x h.bridge
  · rw [hrcc]
    intro m hm
    obtain ⟨n, hn, rfl⟩ := List.mem_map.mp hm
    have := own_none_of_kept (x := x) hspared.shadow h.shadow n hn
    change (n.own.set y none).get x = none
    rw [Pair.get_set]
    split
    · rfl
    · exact this

/-- X's cells, conditions, search and missed pages are at their first values, and no measurement window is X's. -/
structure Blank (x : Sub) (c : Core) : Prop where
  missed : c.smg.missed.get x = ⟨0, false⟩
  cells : c.cells x = CellTable.initial
  hoe : c.hoe.get x = Hoe.initial
  csc : c.csc.get x = Search.initial
  view : ∀ v ∈ c.msu.view, v.owner ≠ x

theorem teardown_blank (e : Env) (x : Sub) (left : StackState) (c : Core) : Blank x (teardown e x left c) := by
  obtain ⟨-, hsmg, -, hhoe, hcsc, -⟩ := teardown_records e x left c
  refine ⟨?_, (teardown_cells e x left c).1, ?_, ?_, (teardown_cells e x left c).2⟩
  · rw [hsmg]
    exact Pair.get_set_self ..
  · rw [hhoe, Pair.get_set_self]
  · rw [hcsc, Pair.get_set_self]

/-- The other's teardown leaves X's records at their first values. -/
theorem Blank.teardown {x y : Sub} (hxy : x ≠ y) {c : Core} (h : Blank x c) (left : StackState) :
    Blank x (Machine.teardown e y left c) := by
  obtain ⟨-, hsmg, hmsu, hhoe, hcsc, -⟩ := teardown_records e y left c
  have hother : ∀ {α : Type} (p : Pair α) (a : α), (p.set y a).get x = p.get x := fun p a => by
    rw [Pair.get_set, if_neg hxy]
  obtain ⟨hview, hcells, hcond⟩ := tlaTeardown_cells (e := e) x y (msuTeardown y (c.setStack y ⟨left, none⟩))
    fun v hv => h.view v (msuTeardown_view y _ v hv).1
  refine ⟨?_, ?_, ?_, ?_, ?_⟩
  · rw [hsmg, tornWindows_smg]
    exact (hother _ _).trans h.missed
  · rw [Core.cells, hmsu]
    exact hcells.trans ((hother c.msu.tables _).trans h.cells)
  · rw [hhoe, hother]
    exact hcond.trans h.hoe
  · rw [hcsc, hother, tornWindows_csc]
    exact h.csc
  · rw [hmsu]
    exact hview

/-! ### The two teardowns of the reset (R216) -/

theorem resetStack_holdless {x : Sub} {c : Core} (h : c.attached x = true ∨ Holdless x c) (y : Sub) :
    (resetStack e y c).attached x = true ∨ Holdless x (resetStack e y c) := by
  unfold resetStack
  rcases h with h | h
  · by_cases hxy : x = y
    · subst hxy
      rw [if_pos h]
      exact .inr (teardown_holdless e x _ c)
    · left
      split
      · rw [Core.attached, teardown_other_state e hxy]
        exact h
      · rw [Core.attached, Core.setStack, Pair.get_set, if_neg hxy]
        exact h
  · right
    split
    · exact h.teardown y _
    · exact h.congr rfl rfl rfl

theorem resetStack_stack (e : Env) (x : Sub) (c : Core) : (resetStack e x c).ssv.get x = ⟨.detached, none⟩ := by
  unfold resetStack
  split
  · exact teardown_stack e (by decide) c
  · exact Pair.get_set_self ..

theorem teardown_unattached (e : Env) {x y : Sub} (hxy : x ≠ y) (left : StackState) {c : Core} (h : c.attached x = false) :
    (teardown e y left c).ssv.get x = c.ssv.get x := by
  have hset : (c.setStack y ⟨left, none⟩).ssv.get x = c.ssv.get x := by
    rw [Core.setStack, Pair.get_set, if_neg hxy]
  have hwindows : (tornWindows e y left c).ssv.get x = c.ssv.get x :=
    ((tornWindows_spared e y left c).unattached x (by
      change decide (((c.setStack y ⟨left, none⟩).ssv.get x).state = .attached) = false
      rw [hset]
      exact h)).trans hset
  obtain ⟨b, heq⟩ := teardown_eq e y left c
  rw [heq]
  exact (emptyQueue_ssv y _ x fun h => absurd h hxy).trans hwindows

theorem resetStack_other (e : Env) {x y : Sub} (hxy : x ≠ y) {c : Core} (h : c.ssv.get x = ⟨.detached, none⟩) :
    (resetStack e y c).ssv.get x = ⟨.detached, none⟩ := by
  unfold resetStack
  split
  · rw [teardown_unattached e hxy _ (by rw [Core.attached, h]; rfl), h]
  · rw [Core.setStack, Pair.get_set, if_neg hxy, h]

theorem resetStack_attached_other (e : Env) {x y : Sub} (hxy : x ≠ y) (c : Core) :
    (resetStack e y c).attached x = c.attached x := by
  unfold resetStack
  split
  · rw [Core.attached, teardown_other_state e hxy]
    rfl
  · rw [Core.attached, Core.setStack, Pair.get_set, if_neg hxy]
    rfl

/-! ### Devices that fall after the reset of the RF side (R128, R147, R155) -/

/-- The power state of a present device after it has been let fall. -/
def Power.fallen (t : Time) : Power → Power
  | .off => .off
  | .rising _ => .falling t
  | .on => .falling t
  | .falling u => .falling u

/-- The RF side as the reset leaves it: no live value, no replay write and no failed answer check. -/
structure Rcc.Restarted (r : Rcc) : Prop where
  live : ∀ m ∈ r.shadow, m.live = none
  replay : r.replay = []
  answering : r.answering = ⟨.answering, .answering, .answering, .answering⟩

theorem leavesOn_restarted (d : Device) {c : Core} (h : c.rcc.Restarted) :
    leavesOn d c = { c with rcc := { c.rcc with bus := c.rcc.bus.map (Transfer.leave d) } } := by
  have hshadow : c.rcc.shadow.map (fun s => if s.entry.device = d then { s with live := none } else s) = c.rcc.shadow := by
    refine (List.map_congr_left fun m hm => ?_).trans (List.map_id _)
    have hlive := h.live m hm
    rw [id_eq]
    split
    · rw [← hlive]
    · rfl
  have hanswering : c.rcc.answering.set d .answering = c.rcc.answering := by
    rw [h.answering]
    cases d <;> rfl
  have hreplay : (c.rcc.replay.filter fun p => decide (p.device ≠ d)) = c.rcc.replay := by
    rw [h.replay]
    rfl
  rw [leavesOn, hshadow, hanswering, hreplay]

/-- A change of a transfer that leaves whose it is and whether it has an effect. -/
def SameOwner (f : Transfer → Transfer) : Prop :=
  ∀ t, (f t).void = t.void ∧ (f t).owner = t.owner ∧ (f t).ownerGone = t.ownerGone

theorem SameOwner.refl : SameOwner fun t => t := fun _ => ⟨rfl, rfl, rfl⟩

theorem SameOwner.trans {f k : Transfer → Transfer} (hf : SameOwner f) (hk : SameOwner k) : SameOwner fun t => k (f t) :=
  fun t => ⟨(hk _).1.trans (hf t).1, (hk _).2.1.trans (hf t).2.1, (hk _).2.2.trans (hf t).2.2⟩

/-- What is changed when a device falls after the reset: its power state, and the transfer in flight. -/
theorem fall_restarted (d : Device) {c : Core} (h : c.rcc.Restarted) : ∃ p f, SameOwner f ∧
    fall e c d = { c with psc := { c.psc with power := p }, rcc := { c.rcc with bus := c.rcc.bus.map f } } := by
  have hid : c.rcc.bus.map (fun t : Transfer => t) = c.rcc.bus := Option.map_id'
  obtain ⟨t, -, hf⟩ | ⟨-, hf⟩ | ⟨-, hf⟩ := fall_cases e c d
  · exact ⟨_, fun t => t, SameOwner.refl, by rw [hf, hid]; rfl⟩
  · refine ⟨_, Transfer.leave d, fun t => ?_, by
      rw [hf, leavesOn_restarted d (c := c.setPower d _) ⟨h.live, h.replay, h.answering⟩]
      rfl⟩
    unfold Transfer.leave
    split <;> exact ⟨rfl, rfl, rfl⟩
  · exact ⟨_, fun t => t, SameOwner.refl, by rw [hf, hid]⟩

theorem foldl_fall_restarted (l : List Device) {c : Core} (h : c.rcc.Restarted) : ∃ p f, SameOwner f ∧
    l.foldl (fall e) c = { c with psc := { c.psc with power := p }, rcc := { c.rcc with bus := c.rcc.bus.map f } } := by
  induction l generalizing c with
  | nil => exact ⟨c.psc.power, fun t => t, SameOwner.refl, by rw [Option.map_id']; rfl⟩
  | cons d l ih =>
    obtain ⟨p, f, hf, heq⟩ := fall_restarted (e := e) d h
    rw [List.foldl_cons, heq]
    obtain ⟨q, k, hk, hq⟩ := ih (c := { c with psc := { c.psc with power := p }, rcc := { c.rcc with bus := c.rcc.bus.map f } })
      ⟨h.live, h.replay, h.answering⟩
    refine ⟨q, fun t => k (f t), hf.trans hk, ?_⟩
    rw [hq]
    dsimp only
    rw [Option.map_map]
    rfl

theorem fall_power (c : Core) (d : Device) (f : Device) : (fall e c d).power f =
    if f = d then (c.power d).fallen (e.count + tu e.image.offSettle) else c.power f := by
  by_cases hfd : f = d
  · subst hfd
    rw [if_pos rfl]
    obtain ⟨t, hp, h⟩ | ⟨hp, h⟩ | ⟨hp | ⟨t, hp⟩, h⟩ := fall_cases e c f <;> rw [h, hp]
    · exact setPower_self c _ f
    · exact setPower_self c _ f
    · rfl
    · rfl
  · rw [if_neg hfd, fall_power_other e c hfd]

theorem fallen_fallen (t : Time) (p : Power) : (p.fallen t).fallen t = p.fallen t := by cases p <;> rfl

/-- Every present device has been let fall, and no other. -/
theorem fallAll_fallen (c : Core) {f : Device} (hf : e.has f = true) : (fallAll e c).power f =
    (c.power f).fallen (e.count + tu e.image.offSettle) := by
  have hfold : ∀ (l : List Device) (c : Core), (l.foldl (fall e) c).power f =
      if f ∈ l then (c.power f).fallen (e.count + tu e.image.offSettle) else c.power f := by
    intro l
    induction l with
    | nil => exact fun c => by simp
    | cons d l ih =>
      intro c
      rw [List.foldl_cons, ih, fall_power]
      by_cases hfd : f = d
      · subst hfd
        simp [fallen_fallen]
      · simp [hfd]
  exact (hfold _ c).trans (if_pos (by simp [Device.mem_all, hf]))

/-! ### The whole reset (R216) -/

/-- The core after the two teardowns of the reset, but for the devices' power. -/
def bothReset (e : Env) (c : Core) : Core := resetStack e .B (resetStack e .A (c.setSleep .awake))

theorem bothReset_stacks (e : Env) (c : Core) (x : Sub) : (bothReset e c).ssv.get x = ⟨.detached, none⟩ := by
  cases x
  · exact resetStack_other e (by decide) (resetStack_stack e .A _)
  · exact resetStack_stack e .B _

theorem bothReset_eq (e : Env) (c : Core) : bothReset e c =
    (if c.attached .B = true then teardown e .B .detached (resetStack e .A (c.setSleep .awake))
      else (resetStack e .A (c.setSleep .awake)).setStack .B ⟨.detached, none⟩) := by
  have h : (resetStack e .A (c.setSleep .awake)).attached .B = c.attached .B :=
    resetStack_attached_other e (by decide) _
  rw [bothReset, resetStack, h]

/-- The RF Context Controller's record after the reset of the RF side. -/
theorem rccReset_restarted (c : Core) : (rccReset c).rcc.Restarted := by
  refine ⟨fun m hm => ?_, rfl, rfl⟩
  obtain ⟨n, -, rfl⟩ := List.mem_map.mp hm
  unfold ShadowEntry.restart
  split <;> rfl

theorem restart_eq (m : ShadowEntry) : m.restart =
    { m with live := none, common := if m.entry.scope = .common then m.entry.initial else m.common } := by
  unfold ShadowEntry.restart
  cases h : m.entry.scope <;> simp

/-- The core after the reset, but for the queues, the notices and the trigger. -/
theorem resetBlocks_inner (e : Env) (c : Core) : ∃ (p : Quad Power) (f : Transfer → Transfer), SameOwner f ∧
    fallAll e (rccReset (resetStacks e c)) = { bothReset e c with
      psc := { (bothReset e c).psc with power := p }
      rcc := { (rccReset (bothReset e c)).rcc with bus := (rccReset (bothReset e c)).rcc.bus.map f } } := by
  obtain ⟨p, f, hf, h⟩ := foldl_fall_restarted (e := e) (Device.all.filter e.has)
    (rccReset_restarted (resetStacks e c))
  refine ⟨p, f, hf, ?_⟩
  rw [fallAll, h]
  rfl

/-- All three event queues emptied. -/
def emptyAll (c : Core) : Core := emptyQueue .app (emptyQueue (.stack .B) (emptyQueue (.stack .A) c))

theorem emptyAll_rest (c : Core) : (emptyAll c).tla = c.tla ∧ (emptyAll c).smg = c.smg ∧ (emptyAll c).msu = c.msu
    ∧ (emptyAll c).hoe = c.hoe ∧ (emptyAll c).csc = c.csc ∧ (emptyAll c).rcc = c.rcc ∧ (emptyAll c).psc = c.psc := by
  obtain ⟨a1, a2, a3, a4, a5, a6, a7⟩ := emptyQueue_rest (.stack .A) c
  obtain ⟨b1, b2, b3, b4, b5, b6, b7⟩ := emptyQueue_rest (.stack .B) (emptyQueue (.stack .A) c)
  obtain ⟨d1, d2, d3, d4, d5, d6, d7⟩ := emptyQueue_rest .app (emptyQueue (.stack .B) (emptyQueue (.stack .A) c))
  exact ⟨(d1.trans b1).trans a1, (d2.trans b2).trans a2, (d3.trans b3).trans a3, (d4.trans b4).trans a4,
    (d5.trans b5).trans a5, (d6.trans b6).trans a6, (d7.trans b7).trans a7⟩

theorem emptyAll_pif (c : Core) (port : Port) : (emptyAll c).pif.get port = ⟨[], 0⟩ := by
  rw [emptyAll, emptyQueue_pif, emptyQueue_pif, emptyQueue_pif]
  rcases port with x | _
  · cases x <;> rfl
  · rfl

theorem emptyQueue_app_ssv (c : Core) : (emptyQueue .app c).ssv = c.ssv := by
  unfold emptyQueue
  simp only
  split <;> rfl

theorem emptyAll_ssv {c : Core} (h : ∀ x, (c.ssv.get x).monitor = none) (x : Sub) : (emptyAll c).ssv.get x = c.ssv.get x := by
  have hA : ∀ y, (emptyQueue (.stack .A) c).ssv.get y = c.ssv.get y := fun y => emptyQueue_ssv .A c y fun _ => h .A
  rw [emptyAll, emptyQueue_app_ssv, emptyQueue_ssv .B _ x fun _ => by rw [hA]; exact h .B, hA]

theorem emptyQueue_notices (port : Port) (c : Core) : (emptyQueue port c).notices = c.notices := by
  obtain ⟨q, s, b, h⟩ := emptyQueue_frame port c
  rw [h]

/-- The flags, the sleep state and the notices reset. -/
def Core.rested (c : Core) : Core := { clearSleep (clearMeasurement c) with notices := [] }

/-- What the reset adds once the devices have been let fall. -/
def Core.concluded (c : Core) : Core := (emptyAll c.rested).trigger

theorem Core.concluded_records (c : Core) : c.concluded.tla = c.tla ∧ c.concluded.smg = c.smg
    ∧ c.concluded.msu = (clearMeasurement c).msu ∧ c.concluded.hoe = c.hoe ∧ c.concluded.csc = c.csc
    ∧ c.concluded.rcc = c.rcc
    ∧ c.concluded.psc = { c.psc with sleep := .awake, consent := ⟨false, false⟩, stayAwake := false } :=
  emptyAll_rest c.rested

theorem resetBlocks_eq (e : Env) (c : Core) : resetBlocks e c = (fallAll e (rccReset (resetStacks e c))).concluded := rfl

/-- The records after the reset. -/
theorem resetBlocks_records (e : Env) (c : Core) : ∃ f : Transfer → Transfer, SameOwner f ∧
    (resetBlocks e c).tla = (bothReset e c).tla ∧ (resetBlocks e c).smg = (bothReset e c).smg
    ∧ (resetBlocks e c).msu = (clearMeasurement (bothReset e c)).msu ∧ (resetBlocks e c).hoe = (bothReset e c).hoe
    ∧ (resetBlocks e c).csc = (bothReset e c).csc
    ∧ (resetBlocks e c).rcc = { (rccReset (bothReset e c)).rcc with bus := (rccReset (bothReset e c)).rcc.bus.map f }
    ∧ (resetBlocks e c).psc = { (bothReset e c).psc with
        power := (fallAll e (rccReset (resetStacks e c))).psc.power
        sleep := .awake
        consent := ⟨false, false⟩
        stayAwake := false } := by
  obtain ⟨p, f, hf, h⟩ := resetBlocks_inner e c
  obtain ⟨h1, h2, h3, h4, h5, h6, h7⟩ := (fallAll e (rccReset (resetStacks e c))).concluded_records
  rw [resetBlocks_eq, h1, h2, h3, h4, h5, h6, h7]
  generalize fallAll e (rccReset (resetStacks e c)) = t at h ⊢
  generalize bothReset e c = b at h ⊢
  subst h
  exact ⟨f, hf, rfl, rfl, rfl, rfl, rfl, rfl, rfl⟩

/-- Every queue is empty and every monitor stopped. -/
theorem resetBlocks_ports (e : Env) (c : Core) : (∀ x, (resetBlocks e c).ssv.get x = ⟨.detached, none⟩)
    ∧ (∀ port, (resetBlocks e c).pif.get port = ⟨[], 0⟩) ∧ (resetBlocks e c).notices = [] := by
  have hstacks : ∀ x, (fallAll e (rccReset (resetStacks e c))).rested.ssv.get x = ⟨.detached, none⟩ := fun x => by
    obtain ⟨p, f, -, h⟩ := resetBlocks_inner e c
    have hb := bothReset_stacks e c x
    generalize fallAll e (rccReset (resetStacks e c)) = t at h ⊢
    generalize bothReset e c = b at h hb
    subst h
    exact hb
  rw [resetBlocks_eq]
  generalize (fallAll e (rccReset (resetStacks e c))) = t at hstacks ⊢
  refine ⟨fun x => ?_, emptyAll_pif _, ?_⟩
  · exact (emptyAll_ssv (fun x => congrArg Stack.monitor (hstacks x)) x).trans (hstacks x)
  · exact ((emptyQueue_notices _ _).trans (emptyQueue_notices _ _)).trans (emptyQueue_notices _ _)

end Sys2Proof.Machine

/-! PROOFS. COORDINATOR_RESET: what its two teardowns leave alone, and what they leave of a stack that was ATTACHED (R216). -/

namespace Sys2Proof.Machine

variable {e : Env}

/-! ### What both teardowns leave alone (R11, R33, R126) -/

/-- The handle generations, the band and the owner of the window lines, the tuning register, and that a transfer is in flight. -/
structure Standing (c d : Core) : Prop where
  reservations : d.tla.generations = c.tla.generations
  sessions : d.smg.generations = c.smg.generations
  band : d.tla.band = c.tla.band
  subSel : d.tla.subSel = c.tla.subSel
  tuning : d.rcc.tuning = c.rcc.tuning
  bus : d.rcc.bus.isSome = c.rcc.bus.isSome
  low : c.linesLow → d.linesLow

theorem Standing.trans {c d f : Core} (h1 : Standing c d) (h2 : Standing d f) : Standing c f :=
  ⟨h2.1.trans h1.1, h2.2.trans h1.2, h2.3.trans h1.3, h2.4.trans h1.4, h2.5.trans h1.5, h2.6.trans h1.6,
    fun h => h2.low (h1.low h)⟩

theorem msuTeardown_rest (x : Sub) (c : Core) : (msuTeardown x c).tla = c.tla ∧ (msuTeardown x c).smg = c.smg
    ∧ (msuTeardown x c).rcc = c.rcc := by
  unfold msuTeardown
  exact ⟨rfl, rfl, rfl⟩

theorem teardown_standing (e : Env) (x : Sub) (left : StackState) (c : Core) : Standing c (teardown e x left c) := by
  obtain ⟨htla, hsmg, -, -, -, hrcc, -⟩ := teardown_records e x left c
  obtain ⟨mtla, msmg, mrcc⟩ := msuTeardown_rest x (c.setStack x ⟨left, none⟩)
  have hspared := tornWindows_spared e x left c
  refine ⟨?_, ?_, ?_, ?_, ?_, ?_, ?_⟩
  · rw [htla, hspared.generations, mtla]
    rfl
  · rw [hsmg, tornWindows_smg]
    rfl
  · rw [htla, hspared.band, mtla]
    rfl
  · rw [htla, hspared.subSel, mtla]
    rfl
  · rw [hrcc]
    exact hspared.tuning.trans (by rw [mrcc]; rfl)
  · rw [hrcc]
    exact (Option.isSome_map ..).trans (hspared.bus.trans (by rw [mrcc]; rfl))
  · intro h
    rw [Core.linesLow, htla]
    exact hspared.low (by rw [Core.linesLow, mtla]; exact h)

theorem resetStack_standing (e : Env) (x : Sub) (c : Core) : Standing c (resetStack e x c) := by
  unfold resetStack
  split
  · exact teardown_standing e x _ c
  · exact ⟨rfl, rfl, rfl, rfl, rfl, rfl, id⟩

theorem bothReset_standing (e : Env) (c : Core) : Standing c (bothReset e c) :=
  (show Standing c (c.setSleep .awake) from ⟨rfl, rfl, rfl, rfl, rfl, rfl, id⟩).trans
    ((resetStack_standing e .A _).trans (resetStack_standing e .B _))

/-! ### What is left of a stack that was ATTACHED -/

theorem bothReset_holdless {c : Core} (h : ∀ x, c.attached x = true ∨ Holdless x c) (x : Sub) : Holdless x (bothReset e c) := by
  have hawake : ∀ y, (c.setSleep .awake).attached y = true ∨ Holdless y (c.setSleep .awake) := fun y =>
    (h y).imp id fun hy => hy.congr rfl rfl rfl
  have hlast := resetStack_holdless (e := e) (resetStack_holdless (e := e) (hawake x) .A) .B
  refine hlast.resolve_left ?_
  rw [Core.attached, ← bothReset, bothReset_stacks]
  exact nofun

theorem Holdless.of_attached {x : Sub} {c : Core} (h : c.attached x = true) : Holdless x (bothReset e c) := by
  have hlast := resetStack_holdless (e := e) (resetStack_holdless (e := e)
    (show (c.setSleep .awake).attached x = true ∨ Holdless x (c.setSleep .awake) from .inl h) .A) .B
  refine hlast.resolve_left ?_
  rw [Core.attached, ← bothReset, bothReset_stacks]
  exact nofun

theorem resetStack_blank {x : Sub} {c : Core} (h : c.attached x = true) : Blank x (resetStack e x c) := by
  rw [resetStack, if_pos h]
  exact teardown_blank e x _ c

theorem Blank.resetStack {x y : Sub} (hxy : x ≠ y) {c : Core} (h : Blank x c) : Blank x (Machine.resetStack e y c) := by
  unfold Machine.resetStack
  split
  · exact h.teardown hxy _
  · exact ⟨h.missed, h.cells, h.hoe, h.csc, h.view⟩

theorem bothReset_blank {x : Sub} {c : Core} (h : c.attached x = true) : Blank x (bothReset e c) := by
  cases x
  · exact (resetStack_blank (c := c.setSleep .awake) h).resetStack (by decide)
  · exact resetStack_blank ((resetStack_attached_other e (by decide) _).trans h)

/-! ### The windows after the reset (R31, R33) -/

theorem stopOccurrence_low {r : Reservation} (h : r.state = .active) (c : Core) : (stopOccurrence e r c).linesLow := by
  rw [stopOccurrence, h]
  exact (windowEndNotice_quiet _).1.low ((closeView_spared _ _).low ((viewNone_quiet _ _).1.low ⟨rfl, rfl⟩))

theorem freeSilently_low {r : Reservation} (h : r.state = .active) (c : Core) : (freeSilently e c r).linesLow :=
  (freedNotice_quiet _).1.low ((dropRecord_quiet _ _).1.low (stopOccurrence_low h c))

theorem foldl_freeSilently_low {l : List Reservation} {r : Reservation} (hr : r ∈ l) (h : r.state = .active) (c : Core) :
    (l.foldl (freeSilently e) c).linesLow := by
  induction l generalizing c with
  | nil => cases hr
  | cons q l ih =>
    rw [List.foldl_cons]
    rcases List.mem_cons.mp hr with rfl | hr
    · exact (foldl_spared freeSilently_spared l _).low (freeSilently_low h c)
    · exact ih hr _

/-- The teardown of a subscription with an ACTIVE window lowers RX_EN and TX_EN. -/
theorem teardown_low {x : Sub} {left : StackState} {c : Core} {r : Reservation} (hr : r ∈ c.tla.table) (ho : r.owner = x)
    (h : r.state = .active) : (teardown e x left c).linesLow := by
  rw [Core.linesLow, (teardown_records e x left c).1]
  refine foldl_freeSilently_low (List.mem_filter.mpr ⟨?_, decide_eq_true ho⟩) h _
  rw [(msuTeardown_rest x _).1]
  exact hr

theorem teardown_table_other {x : Sub} {left : StackState} {c : Core} (h : c.TableLaw) {r : Reservation}
    (hr : r ∈ c.tla.table) (ho : r.owner = x.other) : r ∈ (teardown e x left c).tla.table := by
  have hsame : (msuTeardown x (c.setStack x ⟨left, none⟩)).tla = c.tla := (msuTeardown_rest x _).1
  rw [(teardown_records e x left c).1, tornWindows, tlaTeardown_keeps, hsame]
  · exact List.mem_filter.mpr ⟨hr, decide_eq_true ho⟩
  · simpa only [Core.TableLaw, Core.recordsOwned, hsame] using h

theorem bothReset_low {c : Core} (ht : c.TableLaw) (h : c.linesLow
    ∨ ∃ r ∈ c.tla.table, r.state = .active ∧ c.attached r.owner = true) : (bothReset e c).linesLow := by
  rcases h with h | ⟨r, hr, hs, ha⟩
  · exact (bothReset_standing e c).low h
  · have hA : (resetStack e .A (c.setSleep .awake)).linesLow ∨ (r ∈ (resetStack e .A (c.setSleep .awake)).tla.table
        ∧ (resetStack e .A (c.setSleep .awake)).attached .B = true ∧ r.owner = .B) := by
      cases ho : r.owner with
      | A =>
        rw [ho] at ha
        rw [resetStack, if_pos (show (c.setSleep .awake).attached .A = true from ha)]
        exact .inl (teardown_low (c := c.setSleep .awake) hr ho hs)
      | B =>
        rw [ho] at ha
        refine .inr ⟨?_, (resetStack_attached_other e (by decide) _).trans ha, rfl⟩
        unfold resetStack
        split
        · exact teardown_table_other (c := c.setSleep .awake) ht hr ho
        · exact hr
    rcases hA with hA | ⟨hmem, hattached, ho⟩
    · exact (resetStack_standing e .B _).low hA
    · rw [bothReset, resetStack, if_pos hattached]
      exact teardown_low hmem ho hs

/-! ### The work of the RF Context Controller after the reset (R131, R132) -/

theorem resetStack_works {c : Core} (w : c.Works) (x : Sub) : (resetStack e x c).Works := by
  let g : Claims := ⟨True, True, False, False, False, fun _ => trivial, False.elim⟩
  unfold resetStack
  split
  · exact (teardown_sound (g := g) id ⟨fun _ => w.table, fun _ => w, False.elim, False.elim⟩ x .detached).works trivial
  · exact w.congr rfl rfl rfl

theorem bothReset_works {c : Core} (w : c.Works) : (bothReset e c).Works := by
  have hawake : (c.setSleep .awake).Works := w.congr rfl rfl rfl
  rw [bothReset]
  exact resetStack_works (resetStack_works hawake .A) .B

theorem works_of_laws {c : Core} (ht : c.TableLaw) (hw : c.WorkLaw) : c.Works := by
  obtain ⟨hprep, hview, hgranted, -, hlines⟩ := hw
  exact ⟨ht, hprep, hview, hgranted, hlines⟩

theorem holdless_of_law {x : Sub} {c : Core} (h : ownsNothing c x) : c.attached x = true ∨ Holdless x c := by
  cases ha : c.attached x with
  | true => exact .inl rfl
  | false =>
    obtain ⟨htable, hsessions, hqueue, hbridge, hshadow, -⟩ := h ha
    exact .inr ⟨htable, fun n hn => hsessions _ hn n rfl, hqueue, hbridge, hshadow⟩

/-- Where neither subscription holds anything, no window is shown, none is prepared and the lines are low. -/
theorem Core.Works.idle {c : Core} (w : c.Works) (h : c.tla.table = []) :
    c.rcc.view = none ∧ c.rcc.prep = none ∧ c.linesLow := by
  obtain ⟨-, hprep, hview, -, hlines⟩ := w
  rw [h] at hprep hview
  refine ⟨Option.eq_none_iff_forall_not_mem.mpr fun v hv => ?_, Option.eq_none_iff_forall_not_mem.mpr fun p hp => ?_, ?_⟩
  · obtain ⟨r, hr, -⟩ := hview v hv
    cases hr
  · obtain ⟨r, hr, -⟩ := hprep p hp
    cases hr
  · rw [Core.LinesLaw, h] at hlines
    have hlow : ¬ (c.tla.rxEn || c.tla.txEn) = true := fun hh => by
      obtain ⟨r, hr, -⟩ := hlines hh
      cases hr
    exact Bool.or_eq_false_iff.mp (Bool.eq_false_iff.mpr hlow)

end Sys2Proof.Machine

/-! PROOFS. COORDINATOR_RESET: its answer, what it leaves of the records, and the values it puts in their place (R216, R217). -/

namespace Sys2Proof.Machine

variable {e : Env}

/-- COORDINATOR_RESET answers both stack states before it. -/
theorem coordinatorReset_answer {seq : Byte} {s : State} (h : Ready s .app) :
    exec (.coordinatorReset .app seq) s = .next
      ((State.react { s with
          env := { s.env with alert := false }
          links := ⟨{ s.links.a with crcErrors := 0 }, { s.links.b with crcErrors := 0 },
            { s.links.p with crcErrors := 0 }⟩ } resetBlocks).replied .app seq
        [BitVec.ofNat 8 (s.core.ssv.get .A).state.code, BitVec.ofNat 8 (s.core.ssv.get .B).state.code]) :=
  takeRequest_app_accept h rfl

theorem clearMeasurement_cells (x : Sub) (c : Core) :
    (clearMeasurement c).cells x = { c.cells x with flags := ⟨false, false, false, false⟩ } := by
  cases x <;> rfl

/-- The power of the present devices after the reset. -/
theorem resetBlocks_power (e : Env) (c : Core) {d : Device} (hd : e.has d = true) :
    (resetBlocks e c).power d = (c.power d).fallen (e.count + tu e.image.offSettle) := by
  obtain ⟨-, -, -, -, -, -, -, -, hpsc⟩ := resetBlocks_records e c
  rw [Core.power, hpsc]
  exact fallAll_fallen (rccReset (resetStacks e c)) hd

/-- The shadow map after the reset: every live value UNKNOWN, every COMMON value at its initial one. -/
theorem resetBlocks_shadow (e : Env) (c : Core) :
    (resetBlocks e c).rcc.shadow = (bothReset e c).rcc.shadow.map ShadowEntry.restart := by
  obtain ⟨f, -, -, -, -, -, -, hrcc, -⟩ := resetBlocks_records e c
  rw [hrcc]
  rfl

theorem resetBlocks_own (e : Env) (c : Core) {x : Sub} (h : ∀ m ∈ (bothReset e c).rcc.shadow, m.own.get x = none) :
    ∀ m ∈ (resetBlocks e c).rcc.shadow, m.own.get x = none := by
  rw [resetBlocks_shadow]
  intro m hm
  obtain ⟨n, hn, rfl⟩ := List.mem_map.mp hm
  rw [restart_eq]
  exact h n hn

/-- What the reset makes of the records that the teardowns leave. -/
theorem resetBlocks_equations (e : Env) (c b t : Core) (hb : b = bothReset e c) (h : resetBlocks e c = t) :
    t.tla = b.tla ∧ t.smg = b.smg ∧ t.hoe = b.hoe ∧ t.csc = b.csc ∧ t.msu.view = b.msu.view
    ∧ (∀ x, t.cells x = { b.cells x with flags := ⟨false, false, false, false⟩ })
    ∧ t.rcc.view = b.rcc.view ∧ t.rcc.prep = b.rcc.prep ∧ t.rcc.bridges = b.rcc.bridges ∧ t.rcc.tuning = c.rcc.tuning
    ∧ t.rcc.shadow = b.rcc.shadow.map fun m =>
      { m with live := none, common := if m.entry.scope = .common then m.entry.initial else m.common } := by
  subst h
  have hshadow := resetBlocks_shadow e c
  have htuning := (bothReset_standing e c).tuning
  obtain ⟨f, -, htla, hsmg, hmsu, hhoe, hcsc, hrcc, -⟩ := resetBlocks_records e c
  rw [← hb] at hshadow htuning htla hsmg hmsu hhoe hcsc hrcc
  refine ⟨htla, hsmg, hhoe, hcsc, by rw [hmsu]; rfl, fun x => ?_, by rw [hrcc]; rfl, by rw [hrcc]; rfl, by rw [hrcc]; rfl,
    by rw [hrcc]; exact htuning, ?_⟩
  · rw [Core.cells, hmsu]
    exact clearMeasurement_cells x b
  · rw [hshadow]
    exact List.map_congr_left fun m _ => restart_eq m

/-- Nothing is left of a stack that was ATTACHED. -/
theorem resetBlocks_attached (e : Env) (c : Core) {x : Sub} (h : c.attached x = true) :
    Holdless x (resetBlocks e c) ∧ Blank x (resetBlocks e c) := by
  have hheld := Holdless.of_attached (e := e) h
  have hblank := bothReset_blank (e := e) h
  obtain ⟨htla, hsmg, hhoe, hcsc, hview, hcells, -, -, hbridges, -⟩ := resetBlocks_equations e c _ _ rfl rfl
  refine ⟨⟨?_, ?_, ?_, ?_, resetBlocks_own e c hheld.shadow⟩, ⟨?_, ?_, ?_, ?_, ?_⟩⟩
  · rw [htla]; exact hheld.table
  · rw [hsmg]; exact hheld.sessions
  · rw [Core.queue, hsmg]; exact hheld.queue
  · rw [Core.bridge, hbridges]; exact hheld.bridge
  · rw [hsmg]; exact hblank.missed
  · rw [hcells, hblank.cells]; rfl
  · rw [hhoe]; exact hblank.hoe
  · rw [hcsc]; exact hblank.csc
  · rw [hview]; exact hblank.view

/-- By the laws nothing at all is left. -/
theorem resetBlocks_nothing (e : Env) {c : Core} (ht : c.TableLaw) (hu : c.UnattachedLaw) :
    (∀ x, Holdless x (resetBlocks e c)) ∧ (resetBlocks e c).rcc.view = none ∧ (resetBlocks e c).rcc.prep = none
      ∧ (resetBlocks e c).linesLow ∧ (resetBlocks e c).tla.table = [] := by
  obtain ⟨hA, hB, hwork⟩ := hu
  have hheld : ∀ x, Holdless x (bothReset e c) := bothReset_holdless fun x => by
    cases x
    · exact holdless_of_law hA
    · exact holdless_of_law hB
  have htable : (bothReset e c).tla.table = [] := List.eq_nil_iff_forall_not_mem.mpr fun r hr => (hheld r.owner).table r hr rfl
  obtain ⟨hview, hprep, hlow⟩ := (bothReset_works (e := e) (works_of_laws ht hwork)).idle htable
  obtain ⟨htla, hsmg, -, -, -, -, hv, hp, hbridges, -⟩ := resetBlocks_equations e c _ _ rfl rfl
  refine ⟨fun x => ⟨?_, ?_, ?_, ?_, resetBlocks_own e c (hheld x).shadow⟩, hv.trans hview, hp.trans hprep, ?_, ?_⟩
  · rw [htla]; exact (hheld x).table
  · rw [hsmg]; exact (hheld x).sessions
  · rw [Core.queue, hsmg]; exact (hheld x).queue
  · rw [Core.bridge, hbridges]; exact (hheld x).bridge
  · rw [Core.linesLow, htla]; exact hlow
  · rw [htla]; exact htable

/-- What is fixed by the reset, whatever the state it was taken in. -/
theorem resetBlocks_values (e : Env) (c : Core) :
    ((resetBlocks e c).rcc.bus = none ↔ c.rcc.bus = none) ∧ (∀ q ∈ (resetBlocks e c).rcc.bus, q.void = true)
    ∧ (∀ m ∈ (resetBlocks e c).rcc.shadow, m.live = none ∧ (m.entry.scope = .common → m.common = m.entry.initial))
    ∧ (resetBlocks e c).rcc.replay = [] ∧ (∀ d, (resetBlocks e c).rcc.answering.get d = .answering)
    ∧ (resetBlocks e c).rcc.poweredSince = false ∧ (resetBlocks e c).rcc.lastServed = .B
    ∧ (resetBlocks e c).psc.sleep = .awake ∧ (resetBlocks e c).psc.consent = ⟨false, false⟩
    ∧ (resetBlocks e c).psc.stayAwake = false := by
  have hbus := (bothReset_standing e c).bus
  have hshadow := resetBlocks_shadow e c
  obtain ⟨f, hf, -, -, -, -, -, hrcc, hpsc⟩ := resetBlocks_records e c
  generalize bothReset e c = b at hbus hshadow hrcc hpsc
  refine ⟨?_, ?_, ?_, by rw [hrcc]; rfl, fun d => by rw [hrcc]; cases d <;> rfl, by rw [hrcc]; rfl, by rw [hrcc]; rfl,
    by rw [hpsc], by rw [hpsc], by rw [hpsc]⟩
  · rw [hrcc, ← Option.not_isSome_iff_eq_none, ← Option.not_isSome_iff_eq_none, ← hbus]
    simp [rccReset]
  · intro q hq
    rw [hrcc] at hq
    obtain ⟨u, hu, rfl⟩ := Option.map_eq_some_iff.mp hq
    obtain ⟨v, -, rfl⟩ := Option.map_eq_some_iff.mp hu
    exact (hf _).1
  · rw [hshadow]
    intro m hm
    obtain ⟨n, -, rfl⟩ := List.mem_map.mp hm
    rw [restart_eq]
    exact ⟨rfl, fun h => if_pos h⟩

theorem Power.fallen_cases (p : Power) (t : Time) : (p.fallen t = .off ∨ ∃ u, p.fallen t = .falling u)
    ∧ ((p = .on ∨ ∃ u, p = .rising u) → p.fallen t = .falling t)
    ∧ ((p = .off ∨ ∃ u, p = .falling u) → p.fallen t = p) := by
  cases p <;> simp [Power.fallen]

theorem Pair.eq_of_both {α : Type} {p : Pair α} {a b : α} (ha : p.get .A = a) (hb : p.get .B = b) : p = ⟨a, b⟩ := by
  subst ha hb
  rfl

end Sys2Proof.Machine

namespace Sys2Proof

open Machine

/-- Settles O29: the reset is its two teardowns, and then fixed values for the RF side, the power, the flags and the queues. -/
theorem coordinatorReset : Obligations.CoordinatorReset := by
  unfold Obligations.CoordinatorReset
  refine ⟨fun seq s h => coordinatorReset_answer h, ?_, ?_, ?_, ?_⟩
  · rintro e c t awake a b rfl rfl rfl h
    exact resetBlocks_equations e c _ t (bothReset_eq e c).symm h
  · rintro e c _ x rfl ha
    obtain ⟨hheld, hblank⟩ := resetBlocks_attached e c ha
    exact ⟨hheld.table, hheld.sessions, hheld.queue, hblank.missed, hblank.cells, hblank.hoe, hblank.csc, hblank.view,
      hheld.bridge, hheld.shadow⟩
  · rintro e c _ ht hu rfl
    obtain ⟨hheld, hview, hprep, hlow, htable⟩ := resetBlocks_nothing e ht hu
    refine ⟨htable, fun o ho => ?_, ?_, fun x => (hheld x).bridge, fun m hm => ?_, hview, hprep, hlow.1, hlow.2⟩
    · cases o with
      | none => rfl
      | some n => exact absurd rfl ((hheld n.owner).sessions n ho)
    · exact Pair.eq_of_both (hheld .A).queue (hheld .B).queue
    · exact Pair.eq_of_both ((hheld .A).shadow m hm) ((hheld .B).shadow m hm)
  · rintro e c _ rfl
    obtain ⟨hstacks, hports, hnotices⟩ := resetBlocks_ports e c
    obtain ⟨hbus, hvoid, hshadow, hreplay, hanswering, hpowered, hlast, hsleep, hconsent, hhold⟩ := resetBlocks_values e c
    obtain ⟨htla, hsmg, -, -, -, hcells, -⟩ := resetBlocks_equations e c _ _ rfl rfl
    have hstanding := bothReset_standing e c
    have hstray : (resetBlocks e c).msu.stray = 0 := by
      obtain ⟨f, -, -, -, hmsu, -⟩ := resetBlocks_records e c
      rw [hmsu]
      rfl
    refine ⟨hstacks, hports, hnotices, hbus, hvoid, hshadow, hreplay, hanswering, hpowered, hlast, hsleep, hconsent, hhold,
      fun d hd => ?_, fun ht h => ?_, fun x => ?_, hstray, ?_, ?_, ?_, ?_⟩
    · rw [resetBlocks_power e c hd]
      exact Power.fallen_cases _ _
    · rw [htla]
      exact bothReset_low ht h
    · rw [hcells]
    · rw [htla]; exact hstanding.reservations
    · rw [hsmg]; exact hstanding.sessions
    · rw [htla]; exact hstanding.band
    · rw [htla]; exact hstanding.subSel

end Sys2Proof

/-! PROOFS. What the commands do to the blocks, one change after another: the requests of an ATTACHED stack and the events. -/

namespace Sys2Proof.Machine

variable {g : Claims} {e : Env}

/-! ### New sessions (R41, R42) -/

/-- With fewer than eight sessions a new one takes a free place. -/
theorem newSession_free {c : Core} (w : Places e c.smg) (h : sessionCount c < 8) :
    (newSessionHandle c.smg).index.toNat < 8 ∧ c.smg.place (newSessionHandle c.smg).index.toNat = none := by
  have hnone : none ∈ c.smg.sessions := by
    by_contra hno
    have hsome : ∀ o ∈ c.smg.sessions, ∃ n, id o = some n := fun o ho => by
      cases o with
      | none => exact absurd ho hno
      | some n => exact ⟨n, rfl⟩
    have hall : (c.smg.sessions.filterMap id).length = c.smg.sessions.length := by
      rw [List.length_filterMap_eq_countP, List.countP_eq_length]
      intro o ho
      obtain ⟨n, hn⟩ := hsome o ho
      rw [hn]
      rfl
    rw [sessionCount, hall, w.size] at h
    exact absurd h (lt_irrefl _)
  cases hfind : c.smg.sessions.findIdx? Option.isNone with
  | none => exact absurd (List.findIdx?_eq_none_iff.mp hfind none hnone) (by simp)
  | some i =>
    obtain ⟨hi, hget, -⟩ := List.findIdx?_eq_some_iff_getElem.mp hfind
    have hindex : (newSessionHandle c.smg).index.toNat = i := by
      simp only [newSessionHandle, hfind, Option.getD_some, BitVec.toNat_ofNat]
      exact Nat.mod_eq_of_lt (by rw [w.size] at hi; omega)
    rw [hindex]
    refine ⟨w.size ▸ hi, ?_⟩
    rw [Smg.place, List.getElem?_eq_getElem hi, Option.isNone_iff_eq_none.mp hget]
    rfl

/-- The Session Manager's record with a new session of x, a text of which joins the tail of x's queue. -/
def Smg.added (m : Smg) (x : Sub) (body : SessionBody) : Smg :=
  { m with
    sessions := m.sessions.set (newSessionHandle m).index.toNat (some ⟨newSessionHandle m, x, body⟩)
    generations := m.generations.set (newSessionHandle m).index.toNat (newSessionHandle m).generation
    queues := if body.text?.isSome = true then m.queues.set x (m.queues.get x ++ [newSessionHandle m]) else m.queues }

theorem added_goes (hcalm : ¬ g.calm) {x : Sub} {body : SessionBody} {c : Core} (ha : c.attached x = true)
    (hroom : sessionCount c < 8) (hvoice : body.voice?.isSome = true → c.voiceSession = none)
    (hshort : body.text?.isSome = true → (c.queue x).length < 4) (hcredit : ∀ v ∈ body.voice?, v.traffic = none) :
    Goes g e c { c with smg := c.smg.added x body } := by
  refine smg_goes _ (fun hl => ?_) (fun _ n hn => ?_) (fun _ y hy => ?_) fun hg => absurd hg hcalm
  · obtain ⟨w, hnamed⟩ := sessionsLaw_iff.mp hl
    obtain ⟨hi, hfree⟩ := newSession_free w hroom
    have hplaces : Places e (c.smg.added x body) := by
      refine w.add (n := ⟨newSessionHandle c.smg, x, body⟩) hi ((List.length_set ..).trans w.generations) hfree
        (fun hv i k hk => ?_) (fun y => ?_) hshort (fun v hv tr htr => ?_)
      · cases hb : k.body with
        | text t => rfl
        | voice v =>
          have hmem : some k ∈ c.smg.sessions := mem_sessions_iff.mpr ⟨i, hk⟩
          exact absurd (hvoice hv) (Option.ne_none_iff_isSome.mpr (List.findSome?_isSome_iff.mpr
            ⟨some k, hmem, by simp [hb]⟩))
      · dsimp only
        by_cases ht : body.text?.isSome = true
        · rw [if_pos ht]
          by_cases hy : y = x
          · subst hy
            rw [Pair.get_set_self, if_pos ⟨rfl, ht⟩]
          · rw [Pair.get_set, if_neg hy, if_neg fun h => hy h.1]
        · rw [if_neg ht, if_neg fun h => ht h.2]
      · have := hcredit v hv
        rw [this] at htr
        cases htr
    refine sessionsLaw_iff.mpr ⟨hplaces, fun r hr k hk => ?_⟩
    obtain ⟨n, hn, hh, ho⟩ := ownsSession_iff.mp (hnamed r hr k hk)
    refine ownsSession_iff.mpr ⟨n, ?_, hh, ho⟩
    rw [Smg.added, place_set (by rw [w.size]; exact hi), if_neg]
    · exact hn
    · intro heq
      rw [heq, hfree] at hn
      cases hn
  · rcases List.mem_or_eq_of_mem_set hn with hn | hn
    · exact alive_of_session hn
    · cases hn
      exact .inl ha
  · by_cases hyx : y = x
    · subst hyx
      exact .inl ha
    · refine alive_of_queue fun hnil => hy ?_
      change ((if body.text?.isSome = true then _ else c.smg.queues : Pair (List Handle)).get y) = []
      split
      · rw [Pair.get_set, if_neg hyx]
        exact hnil
      · exact hnil

theorem addVoice_eq (x : Sub) (v : Voice) (c : Core) :
    addSession x (.voice v) c = ({ c with smg := c.smg.added x (.voice v) }, newSessionHandle c.smg) := rfl

theorem submitted_eq (x : Sub) (t : TextBody) (c : Core) :
    (addSession x (.text t) c).1.setQueue x ((addSession x (.text t) c).1.queue x ++ [newSessionHandle c.smg])
      = { c with smg := c.smg.added x (.text t) } := rfl

theorem submitText_goes (hcalm : ¬ g.calm) {x : Sub} {t : TextBody} {c : Core} (ha : c.attached x = true)
    (hroom : sessionCount c < 8) (hshort : (c.queue x).length < 4) : Goes g e c (submitText e x t c).1 := by
  have hadded := added_goes (g := g) (e := e) (body := .text t) hcalm ha hroom (fun h => by cases h) (fun _ => hshort)
    fun v hv => by cases hv
  rw [← submitted_eq] at hadded
  change Goes g e c (if (c.queue x).isEmpty then sendOrHold e x _ else _)
  split
  · exact hadded.trans (sendOrHold_goes x _)
  · exact hadded

theorem voiceOpen_goes (hcalm : ¬ g.calm) {x : Sub} {b : Bool} {n : Nat} {c : Core} (ha : c.attached x = true)
    (hroom : sessionCount c < 8) (hv : c.voiceSession = none) :
    Goes g e c (postCall e .app x callSetup n (addSession x (.voice ⟨b, none, 0⟩) c).1) := by
  rw [addVoice_eq]
  exact (added_goes hcalm ha hroom (fun _ => hv) (fun h => by cases h)
    fun v hv => by cases hv; rfl).trans (postCall_goes _ _ _ _ _)

end Sys2Proof.Machine

/-! PROOFS. What the commands do to the blocks, continued: one lemma for each command's share of the core. -/

namespace Sys2Proof.Machine

variable {g : Claims} {e : Env}

/-! ### The Timeline Arbiter's commands (R28 to R31, R37 to R39) -/

theorem reserve_goes {r : Reservation} {c : Core} (ha : c.attached r.owner = true)
    (hs : ∀ h ∈ r.session, c.ownsSession r.owner h = true) (hst : r.staged = []) :
    Goes g e c (createRecord e r c).1 := createRecord_goes (fun _ => .inl ha) (fun _ => hs) hst

theorem tellRefusedPage_goes (r : Reservation) (made : Creation) (c : Core) : Goes g e c (tellRefusedPage r made c) := by
  unfold tellRefusedPage
  split
  · exact tell_goes _ c
  · exact Goes.refl g e c

theorem touches_stage {d : Device} (hd : e.has d = true) (reg : Byte) (v : Half) :
    Touches e fun q => { q with staged := q.staged ++ [⟨d, reg, v⟩] } := by
  refine ⟨fun _ => rfl, fun _ => rfl, fun _ => rfl, fun _ => rfl, fun _ => rfl, fun _ => rfl, fun _ => rfl, fun r w hw => ?_⟩
  rcases List.mem_append.mp hw with hw | hw
  · exact .inl hw
  · rw [List.mem_singleton] at hw
    rw [hw]
    exact .inr hd

theorem takePreparation_goes (c : Core) : Goes g e c (takePreparation e c) := by
  unfold takePreparation
  split
  · exact Goes.refl g e c
  · rename_i r hr
    refine goes_of_sound fun w => askPreparation_goes fun hg q hq hh => ?_
    have hstate : r.state = .granted := by
      have := List.find?_some hr
      simp only [Bool.and_eq_true, decide_eq_true_eq] at this
      exact this.1
    rw [handle_inj (w.works hg).table hq (List.mem_of_find?_eq_some hr) hh]
    exact hstate

theorem touches_waiting : Touches e fun q => { q with waiting := true } :=
  ⟨fun _ => rfl, fun _ => rfl, fun _ => rfl, fun _ => rfl, fun _ => rfl, fun _ => rfl, fun _ => rfl, fun _ _ h => .inl h⟩

/-- A record whose preparation has ended has no preparation running. -/
theorem prep_of_prepared {c : Core} {r : Reservation} {b : Bool} (w : c.Works) (hr : r ∈ c.tla.table)
    (hb : r.prepared = some b) : ∀ p ∈ c.rcc.prep, p.handle ≠ r.handle := by
  intro p hp hh
  obtain ⟨q, hq, hqh, -, -, hn⟩ := w.prep p hp
  rw [handle_inj w.table hq hr (hqh.trans hh), hb] at hn
  cases hn

theorem takeStart_goes (hcalm : ¬ g.calm) (c : Core) : Goes g e c (takeStart e c) := by
  unfold takeStart
  split
  · exact Goes.refl g e c
  · rename_i r hr
    have hmem := List.mem_of_find?_eq_some hr
    split
    · exact (Change.touch _ _ touches_waiting).goes
    · rename_i retune hretune
      refine goes_of_sound fun w => ?_
      have hprep : g.works → ∀ p ∈ c.rcc.prep, p.handle ≠ r.handle := fun hg => prep_of_prepared (w.works hg) hmem hretune
      split
      · exact activate_goes hcalm hmem hprep
      · exact activateLate_goes hcalm hmem hprep

theorem takeEnd_goes (hcalm : ¬ g.calm) (c : Core) : Goes g e c (takeEnd e c) := by
  unfold takeEnd
  split
  · exact Goes.refl g e c
  · rename_i r hr
    have hmem := List.mem_of_find?_eq_some hr
    have hstate := List.find?_some hr
    simp only [Bool.and_eq_true, Bool.or_eq_true, decide_eq_true_eq] at hstate
    split
    · rename_i hs
      exact finishWindow_goes hcalm (fun _ => hmem) hs
    · rename_i hs
      exact skipAtEnd_goes hmem fun _ => hstate.1.resolve_right hs

/-! ### The bridge (R139, R140) -/

theorem joinQueue_goes {x : Sub} {kind : TxnKind} {d : Device} {reg : Byte} {c : Core} (ha : c.attached x = true)
    (hroom : (c.bridge x).queue.length < 4) : Goes g e c (joinQueue e x kind d reg c) := by
  have hjoin : Goes g e c (c.setBridge x ⟨(c.bridge x).queue ++ [newTxn e c ((c.bridge x).ticket + 1) kind d reg],
      (c.bridge x).ticket + 1⟩) := (Change.join x _ _ (fun _ => .inl ha) hroom (by simp [newTxn])).goes
  unfold joinQueue
  simp only
  split
  · exact hjoin.trans (Change.examined x).goes
  · exact hjoin

/-! ### Voice and text (R46 to R48, R58 to R61) -/

theorem connectCall_goes {r : Session} {v : Voice} {period length : Half} {anchor : Time} {h : Handle} {c : Core} :
    Goes g e c (connectCall e r v period length anchor h c) :=
  (setTraffic_goes _ fun _ => Nat.le_refl _).trans (postCall_goes _ _ _ _ _)

theorem takeVerdict_goes (hcalm : ¬ g.calm) {ok : Bool} {r : Session} {t : TextBody} {c : Core}
    (hs : c.ownsSession r.owner r.handle = true) : Goes g e c (takeVerdict e ok r t c) := by
  have hedited := editText_goes (g := g) (e := e) r.handle (fun t' => { t' with deadline := none }) c
  have howns := (editText_owns c r.handle (fun t' => { t' with deadline := none }) r.owner r.handle).trans hs
  unfold takeVerdict
  simp only
  split
  · exact hedited.trans (segmentSent_goes hcalm howns)
  · exact hedited.trans (failSegment_goes hcalm howns)

theorem takeResultDeadline_goes (hcalm : ¬ g.calm) (x : Sub) (c : Core) : Goes g e c (takeResultDeadline x e c) := by
  unfold takeResultDeadline
  split
  · exact Goes.refl g e c
  · rename_i r t hdue
    unfold dueResult at hdue
    split at hdue
    · cases hdue
    · rename_i r' t' hhead
      split at hdue
      · cases hdue
        exact resultExpired_goes hcalm (owned_of_headText hhead)
      · cases hdue

/-! ### Handover and coverage (R104, R107, R111, R117 to R119, R122) -/

theorem servingTaken_goes (hcalm : ¬ g.calm) {x : Sub} {c : Core} (ha : c.attached x = true) :
    Goes g e c (servingTaken e x c) :=
  (removeAttempt_goes hcalm fun _ => .inl ha).trans
    (setCoverage_goes hcalm fun _ => .inl ((removeAttempt_attached x false c x).trans ha))

theorem completeHandover_goes (x : Sub) (d : Time) (c : Core) : Goes g e c (completeHandover e x d c) := by
  have hcleared : Goes g e c (clearTrigger x c) := cells_goes (clearTrigger_frame x c) (clearTrigger_law x)
  exact (hcleared.trans (Change.handover _).goes).trans (rebaseCall_goes x d _)

theorem serviceLost_goes (hcalm : ¬ g.calm) {x : Sub} {c : Core} (ha : c.attached x = true) :
    Goes g e c (firstAttempt e x (setCoverage e x .near .serviceLost c)).1 :=
  (setCoverage_goes hcalm fun _ => .inl ha).trans
    (beginAttempt_goes hcalm fun _ => .inl ((setCoverage_attached _ _ _ _ x).trans ha))

theorem takeFound_goes (hcalm : ¬ g.calm) {x : Sub} {key : CellKey} {c : Core} (hk : key.identity.toNat ≤ 1023)
    (ha : c.attached x = true) : Goes g e c (takeFound e x key c).1 := by
  let c1 := c.setSearch x { c.csc.get x with phase := .idle, late := false }
  have hidle : Goes g e c c1 := setSearch_goes hcalm fun _ => .inl ha
  have hserving : (makeServing e x key c1).1.attached x = true := (makeServing_goes (e := e) hk).attached x |>.trans ha
  exact (hidle.trans (makeServing_goes hk)).trans (setCoverage_goes hcalm fun _ => .inl hserving)

theorem takeSearchDeadline_goes (hcalm : ¬ g.calm) (x : Sub) (c : Core) : Goes g e c (takeSearchDeadline x e c) := by
  unfold takeSearchDeadline
  split
  · rename_i deadline reference hphase
    have hne : (c.csc.get x).phase ≠ .idle := by rw [hphase]; exact nofun
    split
    · refine (setSearch_goes hcalm fun _ => alive_of_phase hne).trans (countAttempt_goes hcalm fun _ => ?_)
      refine .inr (.inr ?_)
      rw [Core.setSearch, Pair.get_set_self]
      exact hne
    · exact Goes.refl g e c
  · exact Goes.refl g e c

theorem takeSearchDue_goes (hcalm : ¬ g.calm) (x : Sub) (c : Core) : Goes g e c (takeSearchDue x e c) := by
  unfold takeSearchDue
  split
  · rename_i due hphase
    have hne : (c.csc.get x).phase ≠ .idle := by rw [hphase]; exact nofun
    split
    · exact (reportNoWindow_goes x c).trans (countAttempt_goes hcalm fun _ => reportNoWindow_firm (.inr (.inr hne)))
    · exact Goes.refl g e c
  · exact Goes.refl g e c

/-! ### Power, sleep and supply (R155 to R157, R160, R168 to R172) -/

theorem takeRiseEnd_goes (d : Device) (c : Core) : Goes g e c (takeRiseEnd d e c) := by
  unfold takeRiseEnd
  split
  · rename_i t hp
    split
    · exact enterOn_goes (by rw [hp]; exact nofun)
    · exact Goes.refl g e c
  · exact Goes.refl g e c

theorem takeFallEnd_goes (d : Device) (c : Core) : Goes g e c (takeFallEnd d e c) := by
  unfold takeFallEnd
  split
  · rename_i t hp
    split
    · exact finishFall_goes (by rw [hp]; exact nofun)
    · exact Goes.refl g e c
  · exact Goes.refl g e c

theorem takeDemand_goes (d : Device) (c : Core) : Goes g e c (takeDemand d e c) := by
  unfold takeDemand
  split
  · exact (forceAwake_goes c).trans (raiseIfWanted_goes _ d)
  · exact Goes.refl g e c

theorem takeWake_goes (c : Core) : Goes g e c (takeWake e c) := by
  unfold takeWake
  split
  · exact wakeReached_goes c
  · exact Goes.refl g e c

theorem takeSettleEnd_goes (c : Core) : Goes g e c (takeSettleEnd e c) := by
  unfold takeSettleEnd
  split
  · split
    · exact (setSleep_goes _ c).trans (mainClock_goes _)
    · exact Goes.refl g e c
  · exact Goes.refl g e c

theorem transactionWakes_goes (c : Core) : Goes g e c (transactionWakes e c) := by
  unfold transactionWakes
  split
  · exact Goes.refl g e c
  · exact setSleep_goes _ c
  · exact setSleep_goes _ c
  · exact setSleep_goes _ c
  · exact Goes.refl g e c

theorem supplyChanged_goes (was : Supply) (c : Core) : Goes g e c (supplyChanged was e c) :=
  (((post_goes _ _ c).trans (lookAgain_goes .A _)).trans (lookAgain_goes .B _)).trans (trigger_goes _)

theorem takeHoldExpiry_goes (x : Sub) (c : Core) : Goes g e c (takeHoldExpiry x e c) := by
  unfold takeHoldExpiry
  split
  · exact (Change.handover _).goes
  · exact Goes.refl g e c

end Sys2Proof.Machine

/-! PROOFS. The moves that every step is made of: a reaction of the blocks, a teardown, an attachment, a change of the policy, the
environment, the load or the links, the reset. -/

namespace Sys2Proof.Machine

/-! ### Moves -/

/-- A policy within its ranges (R186). -/
structure Policy.InRange (p : Policy) : Prop where
  credit : p.creditMax ≤ 8
  refill : 3200 ≤ p.refill ∧ p.refill ≤ 320000
  limits : limitInRange p.limits.a ∧ limitInRange p.limits.b

/-- Two environments with the same image, policy and load, and a calibration step that is the same or in its range. -/
structure Env.Similar (e e' : Env) : Prop where
  image : e'.image = e.image
  policy : e'.policy = e.policy
  load : e'.load = e.load
  step : e'.step = e.step ∨ (Config.stepLow ≤ e'.step ∧ e'.step ≤ Config.stepHigh)

/-- One move of a step. -/
inductive Move : State → State → Prop
  | links {s : State} (l : Trio Link) : Move s { s with links := l }
  | env {s : State} (e : Env) : s.env.Similar e → Move s { s with env := e }
  | run {s : State} (c : Core) : (∀ g : Claims, ¬ g.calm → (g.works → s.core.BusOwned) → Goes g s.env s.core c)
    → Move s (s.setCore c)
  | restart {s : State} (x : Sub) (t : Time) : (s.core.ssv.get x).monitor.isSome = true
    → Move s (s.setCore (s.core.setMonitor x (some t)))
  | teardown {s : State} (x : Sub) (left : StackState) : left ≠ .attached
    → Move s (s.setCore (teardown s.env x left s.core))
  | attach {s : State} (x : Sub) : s.core.attached x = false → s.env.load.phase = .ended
    → Move s (s.setCore (s.core.setStack x ⟨.attached, none⟩))
  | detach {s : State} (x : Sub) : s.core.attached x = false → Move s (s.setCore (s.core.setStack x ⟨.detached, none⟩))
  | policy {s : State} (p : Policy) : p.InRange → Move s { s with
      env := { s.env with policy := p }, core := applyPolicy s.env.count s.env.policy p s.core }
  | reset {s : State} : Move s (s.setCore (resetBlocks s.env s.core))
  | loading {s : State} (l : Load) : s.env.load.phase = .reading → l.phase = .reading
    → (s.env.load.working.InRange → l.working.InRange) → Move s (s.setLoad l)
  | handsOver {s : State} (i : Image) (l : Load) : s.env.load.phase = .reading → l.phase = .ended
    → (s.env.load.working.InRange → i.InRange ∧ l.working.InRange) → i.offSettle + 4 ≤ i.lightThreshold
    → Move s { s with
      env := { s.env with load := l, image := i }
      core := { s.core with rcc := { s.core.rcc with shadow := i.map.map freshEntry, tuning := i.tuning } } }
  | rises {s : State} : s.env.load.phase = .notBegun → Move s (releaseReset s)
  | fresh {s : State} : Move s (powerOn s)

/-- The states that moves lead to. -/
abbrev Reaches : State → State → Prop := Relation.ReflTransGen Move

theorem Move.reaches {s t : State} (h : Move s t) : Reaches s t := .single h

theorem Move.pending {s t : State} (h : Move s t) : t.pending = s.pending := by
  cases h <;> rfl

theorem Reaches.pending {s t : State} (h : Reaches s t) : t.pending = s.pending := by
  induction h with
  | refl => rfl
  | tail _ hm ih => exact hm.pending.trans ih

/-! ### Reactions of the blocks -/

theorem reaches_run {s : State} {c : Core} (h : ∀ g : Claims, ¬ g.calm → Goes g s.env s.core c) : Reaches s (s.setCore c) :=
  (Move.run c fun g hcalm _ => h g hcalm).reaches

theorem reaches_settled (s : State) : Reaches s s.settled := reaches_run fun _ hcalm => settle_goes hcalm s.core

theorem reaches_setCore_settled {s : State} {c : Core} (h : ∀ g : Claims, ¬ g.calm → Goes g s.env s.core c) :
    Reaches s (s.setCore c).settled := (reaches_run h).trans (reaches_settled _)

theorem reaches_react {s : State} {f : Env → Core → Core} (h : ∀ g : Claims, ¬ g.calm → Goes g s.env s.core (f s.env s.core)) :
    Reaches s (s.react f) := reaches_setCore_settled h

theorem reaches_links (s : State) (port : Port) (l : Link) : Reaches s (s.setLink port l) := (Move.links _).reaches

theorem reaches_teardown (s : State) (x : Sub) {left : StackState} (h : left ≠ .attached) :
    Reaches s (s.setCore (teardown s.env x left s.core)) := (Move.teardown x left h).reaches

theorem teardown_then_post_attached (e : Env) (x : Sub) (c : Core) (kind : EventKind) (v w : Nat) :
    (postStack e kind x v w (teardown e x .detached c)).attached x = false := by
  have hstack := teardown_stack e (x := x) (left := .detached) (by decide) c
  have hpost := (post_abides e .app (Event.now e kind (.subscription x) (value16 v) (value16 w)) (teardown e x .detached c)).attached x
  rw [postStack, hpost, Core.attached, hstack]
  rfl

theorem reaches_detachFirst (s : State) (x : Sub) : Reaches s (s.setCore (detachFirst s.env x s.core))
    ∧ (detachFirst s.env x s.core).attached x = false := by
  unfold detachFirst
  split
  · exact ⟨(reaches_teardown s x (by decide)).trans (reaches_run fun _ _ => post_goes _ _ _),
      teardown_then_post_attached ..⟩
  · rename_i h
    exact ⟨.refl, Bool.eq_false_iff.mpr h⟩

theorem reaches_attach {s : State} (x : Sub) (was : StackState) (he : s.env.load.phase = .ended) :
    Reaches s (s.react fun e c => attachStack e x was c) := by
  obtain ⟨hfirst, hnot⟩ := reaches_detachFirst s x
  have hattached : Reaches s (s.setCore ((detachFirst s.env x s.core).setStack x ⟨.attached, none⟩)) :=
    hfirst.trans (Move.attach (s := s.setCore (detachFirst s.env x s.core)) x hnot he).reaches
  exact (hattached.trans (reaches_run fun _ _ => (clearConsent_goes x _).trans (post_goes _ _ _))).trans (reaches_settled _)

theorem reaches_detach (s : State) (x : Sub) : Reaches s (s.react fun e c => detachStack e x c) := by
  refine Relation.ReflTransGen.trans ?_ (reaches_settled _)
  change Reaches s (s.setCore (detachStack s.env x s.core))
  unfold detachStack
  split
  · exact (reaches_teardown s x (by decide)).trans (reaches_run fun _ _ => post_goes _ _ _)
  · rename_i h
    have hnot : s.core.attached x = false := by rw [Core.attached, h]; rfl
    exact (Move.detach x hnot).reaches.trans (reaches_run fun _ _ => post_goes _ _ _)
  · exact .refl

theorem silenceExpired_goes {g : Claims} {e : Env} (x : Sub) (c : Core) :
    Goes g e (teardown e x .lost c) (silenceExpired e x c) := by
  unfold silenceExpired postStack
  exact post_goes _ _ _

theorem reaches_silence (s : State) (x : Sub) : Reaches s (s.react (takeSilence x)) := by
  refine Relation.ReflTransGen.trans ?_ (reaches_settled _)
  change Reaches s (s.setCore (takeSilence x s.env s.core))
  unfold takeSilence
  split
  · exact (reaches_teardown s x (left := .lost) (by decide)).trans (reaches_run (c := silenceExpired s.env x s.core)
      fun _ _ => silenceExpired_goes x s.core)
  · exact .refl

theorem reaches_reset (s : State) : Reaches s (coordinatorReset s) := by
  refine Relation.ReflTransGen.trans ?_ (reaches_settled _)
  have hlinks : Reaches s { s with links := ⟨s.links.a.clearCount, s.links.b.clearCount, s.links.p.clearCount⟩ } :=
    (Move.links _).reaches
  refine hlinks.trans (Relation.ReflTransGen.trans ?_ Move.reset.reaches)
  exact (Move.env (s := { s with links := ⟨s.links.a.clearCount, s.links.b.clearCount, s.links.p.clearCount⟩ })
    { s.env with alert := false } ⟨rfl, rfl, rfl, .inl rfl⟩).reaches

end Sys2Proof.Machine

/-! PROOFS. Every request is a run of moves: what its handling does to the state, whether it is accepted or refused. -/

namespace Sys2Proof.Machine

/-! ### Lawful requests -/

/-- Once the load has ended, the handling leads to its answer's state by moves; one that needs an ATTACHED stack when it is. -/
def Handling.Lawful (needs : Bool) : Handling → Prop
  | .stack run => ∀ x s, s.env.load.phase = .ended → (needs = true → s.core.attached x = true) → Reaches s (run x s).state
  | .app run => ∀ k s, s.env.load.phase = .ended → Reaches s (run k s).state
  | .shared run => ∀ port s, s.env.load.phase = .ended → Reaches s (run port s).state

def Request.Lawful (r : Request) : Prop := r.handling.Lawful r.needsAttached

theorem reaches_accept {s t : State} (payload : List Byte) (h : Reaches s t) : Reaches s (accept t payload).state := h

/-! ### Reads of the part, and the Port Interface's requests -/

theorem fetch_lawful : fetchRequest.Lawful := fun _ _ _ => .refl

theorem linkRead_lawful : linkReadRequest.Lawful := fun _ _ _ => .refl

theorem configRead_lawful : configReadRequest.Lawful := fun _ _ _ => .refl

theorem timeRead_lawful : timeReadRequest.Lawful := fun _ _ _ => .refl

theorem eventRead_lawful : eventReadRequest.Lawful := fun port _ _ => reaches_setCore_settled fun _ _ => (Change.read port).goes

theorem statusRead_lawful : statusReadRequest.Lawful := fun _ s _ =>
  (Move.env { s.env with alert := s.env.alert && decide (s.env.supply ≠ .normal) } ⟨rfl, rfl, rfl, .inl rfl⟩).reaches

theorem reservationRead_lawful (h : Handle) : (reservationReadRequest h).Lawful := by
  intro port s _
  change Reaches s (match s.core.reservation h with
    | none => refuse .noSuch s
    | some r => if mayRead port r.owner then accept s (reservationBytes r) else refuse .notOwner s).state
  split
  · exact .refl
  · split <;> exact .refl

theorem reaches_readAbsent (s : State) (r : Session) : Reaches s (s.readAbsent r) := by
  unfold State.readAbsent
  split
  · split
    · exact .refl
    · exact (Move.env { s.env with unstated := s.env.unstated + 1 } ⟨rfl, rfl, rfl, .inl rfl⟩).reaches
  · exact .refl

theorem sessionRead_lawful (h : Handle) : (sessionReadRequest h).Lawful := by
  intro port s _
  change Reaches s (match s.core.session h with
    | none => refuse .noSuch s
    | some r => if mayRead port r.owner then accept (s.readAbsent r) (sessionBytes s r) else refuse .notOwner s).state
  split
  · exact .refl
  · split
    · exact reaches_readAbsent s _
    · exact .refl

theorem cellRead_lawful (sub slot : Byte) : (cellReadRequest sub slot).Lawful := by
  intro port s _
  change Reaches s (if 11 < slot.toNat then refuse .badParam s
    else match actsFor port sub with
      | none => refuse .badParam s
      | some x => accept s (cellReadBytes s.env.count (s.core.cells x) slot.toNat)).state
  split
  · exact .refl
  · split <;> exact .refl

theorem contextRead_lawful (sub entry : Byte) : (contextReadRequest sub entry).Lawful := by
  intro port s _
  change Reaches s (match s.core.rcc.shadow[entry.toNat]?, actsFor port sub with
    | some m, some x => accept s (contextBytes s.env s.core x entry.toNat m)
    | _, _ => refuse .badParam s).state
  split <;> exact .refl

/-! ### The Measurement Unit's requests -/

theorem flagsRead_lawful (sub : Byte) : (flagsReadRequest sub).Lawful := by
  intro port s _
  change Reaches s (match actsFor port sub with
    | none => refuse .badParam s
    | some x => accept (match port with
        | .stack _ => s.setCore (s.core.setFlags x fun _ => ⟨false, false, false, false⟩)
        | .app => s) (flagBytes (s.core.cells x).flags s.core.msu.stray)).state
  split
  · exact .refl
  · refine reaches_accept _ ?_
    split
    · exact reaches_run fun _ _ => setFlags_goes _ _ _
    · exact .refl

theorem filterSet_lawful (k : Byte) (stale : BitVec 32) : (filterSetRequest k stale).Lawful :=
  fun x _ _ _ => reaches_run fun _ _ => setCells_goes fun h => h.get x

theorem identity_of_badKey {key : CellKey} (h : ¬ badKey key = true) : key.identity.toNat ≤ 1023 := by
  simpa [badKey] using h

theorem takenOffset_range (o : Byte) : -48 ≤ takenOffset o ∧ takenOffset o ≤ 48 := by
  unfold takenOffset clampInt
  omega

theorem cell_range {t : CellTable} {i : Nat} {r : Cell} (h : t.Law) (hr : cellAt t.slots i = some r) : r.InRange :=
  ((cellLaw_iff t).mp h).2.2.2 r (mem_of_cellAt hr)

/-- A record that takes the place of one of its key and role. -/
theorem cellLaw_replace {t : CellTable} {i : Nat} {r r' : Cell} (h : t.Law) (hr : cellAt t.slots i = some r)
    (hkey : r'.key = r.key) (hrole : r'.role = r.role) (hrange : r'.InRange) : (t.put i (some r')).Law := by
  obtain ⟨-, hapart, hserving, -⟩ := (cellLaw_iff t).mp h
  have hne : ∀ j, j ≠ i → ∀ q, cellAt t.slots j = some q → q.key ≠ r.key := by
    intro j hj q hq
    obtain ⟨hi, hri⟩ := List.getElem?_eq_some_iff.mp (Option.join_eq_some_iff.mp hr)
    obtain ⟨hj', hqj⟩ := List.getElem?_eq_some_iff.mp (Option.join_eq_some_iff.mp hq)
    rw [List.pairwise_iff_getElem] at hapart
    rcases Nat.lt_or_gt_of_ne hj with hlt | hgt
    · exact hapart j i hj' hi hlt q hqj r hri
    · exact (hapart i j hi hj' hgt r hri q hqj).symm
  refine cellLaw_set h (fun p hp j hj q hq => ?_) (fun p hp hs j hj q hq hqs => ?_) fun p hp => ?_
  · cases hp
    rw [hkey]
    exact hne j hj q hq
  · cases hp
    exact hne j hj q hq (hserving q r (mem_of_cellAt hq) (mem_of_cellAt hr) hqs (hrole.symm.trans hs))
  · cases hp
    exact hrange

theorem cellSet_lawful (key : CellKey) (o : Byte) (barred : Bool) : (cellSetRequest key o barred).Lawful := by
  intro x s _ _
  dsimp only
  split
  · exact .refl
  · rename_i hkey
    split
    · rename_i i hslot
      split
      · exact .refl
      · rename_i r hr
        refine reaches_accept _ (reaches_run fun _ _ => setCells_goes fun h => cellLaw_replace (h.get x) hr rfl rfl ?_)
        obtain ⟨hid, -, -, hrest⟩ := cell_range (h.get x) hr
        exact ⟨hid, (takenOffset_range o).1, (takenOffset_range o).2, hrest⟩
    · rename_i hslot
      split
      · exact .refl
      · rename_i i hfree
        refine reaches_accept _ (reaches_run fun _ _ => setCells_goes fun h => ?_)
        refine cellLaw_set (h.get x) (fun r hr j _ q hq => ?_) (fun r hr hserving => ?_) fun r hr => ?_
        · cases hr
          exact slotOf_none_iff.mp hslot q (mem_of_cellAt hq)
        · cases hr
          cases hserving
        · cases hr
          exact newCell_range (identity_of_badKey hkey) _ _ (takenOffset_range o)

theorem cellRemove_lawful (key : CellKey) : (cellRemoveRequest key).Lawful := by
  intro x s _ _
  dsimp only
  split
  · exact .refl
  · split
    · exact .refl
    · split
      · exact .refl
      · exact reaches_accept _ (reaches_run fun _ _ => removeCell_goes x _ _)

end Sys2Proof.Machine

/-! PROOFS. Every request is a run of moves, continued: the requests that change the timeline, the sessions, the coverage, the
bridges and the part. -/

namespace Sys2Proof.Machine

/-! ### The Timeline Arbiter's requests -/

theorem reaches_creation {s : State} {c : Core} (made : Creation) (h : ∀ g : Claims, ¬ g.calm → Goes g s.env s.core c) :
    Reaches s (answerCreation s c made).state := by
  cases made
  · exact .refl
  · exact reaches_setCore_settled h
  · exact reaches_setCore_settled h
  · exact reaches_setCore_settled h

theorem ownsSession_of_openCall {c : Core} {x : Sub} {h : Handle} (ho : openCall c x h = true) : c.ownsSession x h = true := by
  cases hs : c.session h with
  | none =>
    unfold openCall at ho
    rw [hs] at ho
    cases ho
  | some s =>
    have hown : decide (s.owner = x) = true := by
      unfold openCall at ho
      rw [hs] at ho
      exact (Bool.and_eq_true_iff.mp ho).1
    unfold Core.ownsSession
    rw [hs]
    exact hown

theorem reserve_lawful (cls : Byte) (emergency : Bool) (desired : Time) (slack length frequency : Half) (band : Byte)
    (period : BitVec 32) (count : Half) (session : Option Handle) (cells : List CellKey) :
    (reserveRequest cls emergency desired slack length frequency band period count session cells).Lawful := by
  intro x s _ ha
  dsimp only
  split
  · exact .refl
  · rename_i k hk
    split
    · exact .refl
    · split
      · exact .refl
      · rename_i hsession
        split
        · exact .refl
        · refine reaches_creation _ fun g _ => (reserve_goes (ha rfl) (fun h hh => ?_) rfl).trans (tellRefusedPage_goes _ _ _)
          change session = some h at hh
          rw [hh] at hsession
          have hopen : openCall s.core x h = true := by simpa [badSession] using hsession
          exact ownsSession_of_openCall hopen

theorem ownRecord_reaches {x : Sub} {h : Handle} {s : State} {go : Reservation → Answer}
    (hgo : ∀ r, s.core.reservation h = some r → r.owner = x → Reaches s (go r).state) : Reaches s (ownRecord x h s go).state := by
  unfold ownRecord
  split
  · exact .refl
  · rename_i r hr
    split
    · rename_i ho
      exact hgo r hr ho
    · exact .refl

theorem withdraw_lawful (handle : Handle) : (withdrawRequest handle).Lawful := by
  intro x s _ _
  refine ownRecord_reaches fun r hr _ => ?_
  split
  · exact .refl
  · exact reaches_accept _ (reaches_react fun _ _ => withdrawRecord_goes fun _ => mem_of_reservation hr)

theorem has_of_presentDevice {e : Env} {b : Byte} {d : Device} (h : presentDevice e b = some d) : e.has d = true := by
  unfold presentDevice at h
  split at h
  · cases h
  · split at h
    · cases h
      assumption
    · cases h

theorem stage_lawful (handle : Handle) (device register : Byte) (value : Half) :
    (stageRequest handle device register value).Lawful := by
  intro x s _ _
  refine ownRecord_reaches fun r hr _ => ?_
  split
  · exact .refl
  · rename_i d hd
    split
    · exact .refl
    · split
      · exact .refl
      · exact reaches_run fun _ _ => (Change.touch handle _ (touches_stage (has_of_presentDevice hd) register value)).goes

/-! ### The Session Manager's requests -/

theorem voiceOpen_lawful (emergency : Bool) : (voiceOpenRequest emergency).Lawful := by
  intro x s _ ha
  dsimp only
  split
  · exact .refl
  · rename_i hv
    split
    · exact .refl
    · split
      · exact .refl
      · split
        · exact .refl
        · rename_i hroom
          exact reaches_run fun _ hcalm => voiceOpen_goes hcalm (ha rfl) (Nat.lt_of_not_le hroom)
            (Option.not_isSome_iff_eq_none.mp hv)

theorem ownSession_reaches {x : Sub} {h : Handle} {s : State} {go : Session → Answer}
    (hgo : ∀ r, s.core.session h = some r → r.owner = x → Reaches s (go r).state) : Reaches s (ownSession x h s go).state := by
  unfold ownSession
  split
  · exact .refl
  · rename_i r hr
    split
    · rename_i ho
      exact hgo r hr ho
    · exact .refl

theorem connect_reaches {r : Session} {v : Voice} {period length : Half} {anchor : Time} {frequency : Half} {band : Byte}
    {s : State} (hr : s.core.ownsSession r.owner r.handle = true) :
    Reaches s (connect r v period length anchor frequency band s).state := by
  have hcreated : ∀ g : Claims, Goes g s.env s.core
      (createRecord s.env (voiceRecord r v period length anchor frequency band) s.core).1 := fun g =>
    createRecord_goes (fun _ => .inr (.inl ⟨r.handle, hr⟩)) (fun _ h hh => by cases hh; exact hr) rfl
  unfold connect
  split
  · rename_i c h start heq
    rw [heq] at hcreated
    exact reaches_creation _ fun g _ => (hcreated g).trans connectCall_goes
  · rename_i c made hne heq
    rw [heq] at hcreated
    exact reaches_creation _ fun g _ => hcreated g

theorem voiceConnect_lawful (session : Handle) (period length : Half) (anchor : Time) (frequency : Half) (band : Byte) :
    (voiceConnectRequest session period length anchor frequency band).Lawful := by
  intro x s _ _
  refine ownSession_reaches fun r hr _ => ?_
  split
  · exact .refl
  · split
    · exact .refl
    · split
      · exact .refl
      · exact connect_reaches (owned_of_session hr)

theorem voiceRelease_lawful (session : Handle) : (voiceReleaseRequest session).Lawful := by
  intro x s _ _
  refine ownSession_reaches fun r hr _ => ?_
  split
  · exact .refl
  · exact reaches_accept _ (reaches_react fun _ hcalm => closeCall_goes hcalm (owned_of_session hr))

theorem textSubmit_lawful (segments : Byte) (length : Half) (urgent : Bool) (frequency : Half) (band : Byte) :
    (textSubmitRequest segments length urgent frequency band).Lawful := by
  intro x s _ ha
  dsimp only
  split
  · exact .refl
  · split
    · exact .refl
    · rename_i hshort
      split
      · exact .refl
      · rename_i hroom
        exact reaches_setCore_settled fun _ hcalm => submitText_goes hcalm (ha rfl) (Nat.lt_of_not_le hroom)
          (Nat.lt_of_not_le hshort)

theorem segmentResult_lawful (session : Handle) (result : Byte) : (segmentResultRequest session result).Lawful := by
  intro x s _ _
  refine ownSession_reaches fun r hr _ => ?_
  split
  · exact .refl
  · split
    · exact .refl
    · split
      · exact reaches_accept _ (reaches_react fun _ hcalm => takeVerdict_goes hcalm (owned_of_session hr))
      · split <;> exact .refl

theorem textCancel_lawful (session : Handle) : (textCancelRequest session).Lawful := by
  intro x s _ _
  refine ownSession_reaches fun r hr _ => ?_
  split
  · exact .refl
  · exact reaches_accept _ (reaches_react fun _ hcalm => closeSession_goes hcalm (owned_of_session hr))

/-! ### The Handover Evaluator's and the Coverage Search Controller's requests -/

theorem servingSet_lawful (key : CellKey) : (servingSetRequest key).Lawful := by
  intro x s _ ha
  dsimp only
  split
  · exact .refl
  · rename_i hkey
    have hk := identity_of_badKey hkey
    exact reaches_setCore_settled fun _ hcalm => (makeServing_goes hk).trans
      (servingTaken_goes hcalm (((makeServing_goes (e := s.env) hk).attached x).trans (ha rfl)))

theorem handoverDone_lawful (key : CellKey) (offset : Half) : (handoverDoneRequest key offset).Lawful := by
  intro x s _ _
  dsimp only
  split
  · exact .refl
  · rename_i hbad
    have hk : key.identity.toNat ≤ 1023 := identity_of_badKey fun h => hbad (by rw [h]; rfl)
    split
    · exact .refl
    · exact reaches_setCore_settled fun _ _ => (makeServing_goes hk).trans (completeHandover_goes x _ _)

theorem handoverSet_lawful (hysteresis : Byte) (ttt : BitVec 32) (weak : Half) (hold : BitVec 32) :
    (handoverSetRequest hysteresis ttt weak hold).Lawful := fun _ _ _ _ => reaches_run fun _ _ => (Change.handover _).goes

theorem serviceLost_lawful : serviceLostRequest.Lawful := by
  intro x s _ ha
  dsimp only
  split
  · exact .refl
  · exact reaches_setCore_settled fun _ hcalm => serviceLost_goes hcalm (ha rfl)

theorem searchResult_lawful (result : Byte) (key : CellKey) : (searchResultRequest result key).Lawful := by
  intro x s _ ha
  dsimp only
  split
  · exact .refl
  · rename_i found _
    split
    · exact .refl
    · rename_i hbad
      split
      · split
        · rename_i hfound
          have hk : key.identity.toNat ≤ 1023 := identity_of_badKey fun h => hbad (by rw [hfound, h]; rfl)
          exact reaches_setCore_settled fun _ hcalm => takeFound_goes hcalm hk (ha rfl)
        · exact reaches_accept _ (reaches_react fun _ hcalm => countAttempt_goes hcalm fun _ => .inl (ha rfl))
      · split <;> exact .refl

theorem searchPlan_lawful (frequency : Half) (band : Byte) : (searchPlanRequest frequency band).Lawful := by
  intro x s _ ha
  dsimp only
  split
  · exact .refl
  · exact reaches_run fun _ hcalm => setSearch_goes hcalm fun _ => .inl (ha rfl)

theorem searchRestart_lawful (sub : Byte) : (searchRestartRequest sub).Lawful := by
  intro k s _
  dsimp only
  split
  · exact .refl
  · split
    · rename_i x _ ha
      split
      · exact .refl
      · exact reaches_setCore_settled fun _ hcalm => restartLadder_goes hcalm ha
    · exact .refl

theorem clamp_within {lo hi : Nat} (h : lo ≤ hi) (n : Nat) : lo ≤ clamp lo hi n ∧ clamp lo hi n ≤ hi := by
  unfold clamp
  omega

/-! ### The RF Context Controller's and the Power and Sleep Controller's requests -/

theorem acceptTransaction_reaches {x : Sub} {kind : TxnKind} {device register : Byte} {s : State}
    (ha : s.core.attached x = true) : Reaches s (acceptTransaction x kind device register s).state := by
  unfold acceptTransaction
  split
  · exact .refl
  · split
    · exact .refl
    · rename_i hroom
      exact reaches_setCore_settled fun _ _ => joinQueue_goes ha (Nat.lt_of_not_le hroom)

theorem rfWrite_lawful (device register : Byte) (value : Half) : (rfWriteRequest device register value).Lawful :=
  fun _ _ _ ha => acceptTransaction_reaches (ha rfl)

theorem rfRead_lawful (device register : Byte) : (rfReadRequest device register).Lawful :=
  fun _ _ _ ha => acceptTransaction_reaches (ha rfl)

theorem calibrate_lawful (step : Half) : (calibrateRequest step).Lawful := fun _ s _ =>
  (Move.env { s.env with step := takenStep step }
    ⟨rfl, rfl, rfl, .inr (clamp_within (by decide) _)⟩).reaches

theorem sleepConsent_lawful (consent : Byte) : (sleepConsentRequest consent).Lawful := by
  intro x s _ _
  dsimp only
  split
  · exact .refl
  · exact reaches_accept _ (reaches_react fun _ _ => setConsent_goes x _ _)

theorem stayAwake_lawful (hold : Byte) : (stayAwakeRequest hold).Lawful := by
  intro k s _
  dsimp only
  split
  · exact .refl
  · exact reaches_accept _ (reaches_react fun _ _ => setHold_goes _ _)

/-! ### The Subscription Supervisor's requests, and COORDINATOR_RESET -/

theorem attach_lawful : attachRequest.Lawful := fun x _ he _ => reaches_attach x _ he

theorem detach_lawful : detachRequest.Lawful := fun x s _ _ => reaches_detach s x

theorem coordinatorReset_lawful : coordinatorResetRequest.Lawful := fun _ s _ => reaches_reset s

theorem takenPolicy_range (preferred : Option Sub) (credit : Byte) (refill limitA limitB : BitVec 32) :
    (takenPolicy preferred credit refill limitA limitB).InRange := by
  have hlimit : ∀ n, limitInRange (takenLimit n) := fun n => by
    unfold takenLimit
    split
    · exact .inl rfl
    · exact .inr (clamp_within (by decide) _)
  exact ⟨(clamp_within (by decide) _).2, clamp_within (by decide) _, hlimit _, hlimit _⟩

theorem policySet_lawful (preferred credit : Byte) (refill limitA limitB : BitVec 32) :
    (policySetRequest preferred credit refill limitA limitB).Lawful := by
  intro k s _
  dsimp only
  split
  · exact .refl
  · exact (Move.policy _ (takenPolicy_range ..)).reaches

/-- Every request of the index is a run of moves. -/
theorem request_lawful {i : Instr} {r : Request} (h : requestOf i = some r) : r.Lawful := by
  cases i <;> cases h
  case fetch => exact fetch_lawful
  case eventRead => exact eventRead_lawful
  case linkRead => exact linkRead_lawful
  case attach => exact attach_lawful
  case detach => exact detach_lawful
  case statusRead => exact statusRead_lawful
  case policySet => exact policySet_lawful _ _ _ _ _
  case coordinatorReset => exact coordinatorReset_lawful
  case configRead => exact configRead_lawful
  case reserve => exact reserve_lawful _ _ _ _ _ _ _ _ _ _ _
  case withdraw => exact withdraw_lawful _
  case stage => exact stage_lawful _ _ _ _
  case reservationRead => exact reservationRead_lawful _
  case voiceOpen => exact voiceOpen_lawful _
  case voiceConnect => exact voiceConnect_lawful _ _ _ _ _ _
  case voiceRelease => exact voiceRelease_lawful _
  case textSubmit => exact textSubmit_lawful _ _ _ _ _
  case segmentResult => exact segmentResult_lawful _ _
  case textCancel => exact textCancel_lawful _
  case sessionRead => exact sessionRead_lawful _
  case cellSet => exact cellSet_lawful _ _ _
  case cellRemove => exact cellRemove_lawful _
  case cellRead => exact cellRead_lawful _ _
  case filterSet => exact filterSet_lawful _ _
  case flagsRead => exact flagsRead_lawful _
  case servingSet => exact servingSet_lawful _
  case handoverDone => exact handoverDone_lawful _ _
  case handoverSet => exact handoverSet_lawful _ _ _ _
  case serviceLost => exact serviceLost_lawful
  case searchResult => exact searchResult_lawful _ _
  case searchPlan => exact searchPlan_lawful _ _
  case searchRestart => exact searchRestart_lawful _
  case rfWrite => exact rfWrite_lawful _ _ _
  case rfRead => exact rfRead_lawful _ _
  case contextRead => exact contextRead_lawful _ _
  case timeRead => exact timeRead_lawful
  case calibrate => exact calibrate_lawful _
  case sleepConsent => exact sleepConsent_lawful _
  case stayAwake => exact stayAwake_lawful _

end Sys2Proof.Machine

/-! PROOFS. Every command is a run of moves: the events, the links, the load and the reset. -/

namespace Sys2Proof.Machine

/-! ### Frames and requests (R183, R195 to R199) -/

theorem reaches_restartMonitor (port : Port) (s : State) : Reaches s (restartMonitor port s) := by
  unfold restartMonitor
  split
  · exact .refl
  · rename_i x
    split
    · exact .refl
    · rename_i t ht
      exact (Move.restart x _ (by rw [ht]; rfl)).reaches

theorem judge_reaches {r : Request} (hr : r.Lawful) {s : State} (he : s.env.load.phase = .ended) (port : Port)
    (began : SleepKind) : Reaches s (r.judge port began s).state := by
  rcases r with ⟨needs, run | run | run⟩ <;> rcases port with x | _
  · change Reaches s (if (needs && !s.core.attached x) = true then refuse .notAttached s else run x s).state
    split
    · exact .refl
    · rename_i h
      exact hr x s he fun (hn : needs = true) => by simpa [hn] using h
  · exact .refl
  · exact .refl
  · exact hr began s he
  · change Reaches s (if (needs && !s.core.attached x) = true then refuse .notAttached s else run (.stack x) s).state
    split
    · exact .refl
    · exact hr (.stack x) s he
  · exact hr .app s he

theorem answerFrame_reaches {a : Asked} (ha : ∀ r, a = .request r → r.Lawful) (port : Port) (began : SleepKind) (s : State) :
    Reaches s (answerFrame port began a s).state := by
  unfold answerFrame
  split
  · exact .refl
  · rename_i he
    split
    · exact .refl
    · split
      · exact .refl
      · exact .refl
      · exact judge_reaches (ha _ rfl) (not_not.mp he) port began

theorem takeFrame_reaches {a : Asked} (ha : ∀ r, a = .request r → r.Lawful) (port : Port) (seq : Byte) (s : State) :
    Reaches s (takeFrame port seq a s) :=
  ((reaches_restartMonitor port s).trans (answerFrame_reaches ha port _ _)).trans (reaches_links _ _ _)

theorem ensureBegun_reaches (port : Port) (s : State) : Reaches s (s.ensureBegun port) := by
  unfold State.ensureBegun
  split
  · exact .refl
  · exact (reaches_links s port _).trans (reaches_run fun _ _ => transactionWakes_goes s.core)

theorem askedBy_lawful {port : Port} {f : WholeFrame} {r : Request} (h : askedBy port f = .request r) : r.Lawful := by
  unfold askedBy at h
  split at h
  · cases h
  · cases h
  · split at h
    · rename_i hr
      cases h
      exact request_lawful hr
    · cases h

theorem endTransaction_reaches (port : Port) (received : List Byte) (s : State) :
    Reaches s (endTransaction port received s) := by
  unfold endTransaction
  split
  · exact reaches_links _ _ _
  · split
    · exact reaches_links _ _ _
    · exact takeFrame_reaches (fun r h => askedBy_lawful h) _ _ _

/-! ### Events -/

theorem advanceClock_reaches (periods : Nat) (s : State) : Reaches s (advanceClock periods s) := by
  have hclock : ∀ (count : Time) (p : Psc), p.power = s.core.psc.power →
      Reaches s { s with env := { s.env with count := count }, core := { s.core with psc := p } } := fun count p hp =>
    (reaches_run fun _ _ => (Change.sleep p hp).goes).trans
      (Move.env (s := s.setCore { s.core with psc := p }) { s.env with count := count } ⟨rfl, rfl, rfl, .inl rfl⟩).reaches
  unfold advanceClock
  split
  · exact hclock _ { s.core.psc with divider := _ } rfl
  · exact hclock _ { s.core.psc with fraction := _ } rfl

theorem takeSupply_reaches (s : State) : Reaches s (takeSupply s) := by
  have henv : ∀ (e : Env), e.image = s.env.image → e.policy = s.env.policy → e.load = s.env.load → e.step = s.env.step →
      Reaches s { s with env := e } := fun e h1 h2 h3 h4 => (Move.env e ⟨h1, h2, h3, .inl h4⟩).reaches
  unfold takeSupply
  simp only
  split
  · exact henv _ rfl rfl rfl rfl
  · refine Relation.ReflTransGen.trans ?_ (reaches_react fun _ _ => supplyChanged_goes _ _)
    exact henv _ rfl rfl rfl rfl

theorem endTransfer_reaches (b : BusReply) (s : State) : Reaches s (s.react fun e c => endTransfer e b c) :=
  (Move.run _ fun _ _ hb => endTransfer_goes hb).reaches.trans (reaches_settled _)

/-- Every event that waits for RESET_N is a run of moves. -/
theorem event_reaches {i : Instr} {f : State → State} (h : eventOf i = some f) (s : State) : Reaches s (f s) := by
  cases i <;> cases h
  case linkTransactionBegin port => exact ensureBegun_reaches port s
  case linkTransactionEnd port received =>
    dsimp only
    split
    · exact .refl
    · exact endTransaction_reaches _ _ _
  case preparationRequest => exact reaches_react fun _ _ => takePreparation_goes _
  case windowStart => exact reaches_react fun _ hcalm => takeStart_goes hcalm _
  case windowEnd => exact reaches_react fun _ hcalm => takeEnd_goes hcalm _
  case sampleReport => exact reaches_run fun _ hcalm => takeSample_goes hcalm _ _
  case holdExpiry => exact reaches_run fun _ _ => takeHoldExpiry_goes _ _
  case searchResultDeadline => exact reaches_react fun _ hcalm => takeSearchDeadline_goes hcalm _ _
  case searchDueTime => exact reaches_react fun _ hcalm => takeSearchDue_goes hcalm _ _
  case textResultDeadline => exact reaches_react fun _ hcalm => takeResultDeadline_goes hcalm _ _
  case busTransferEnd => exact endTransfer_reaches _ s
  case busTransferTimeout => exact endTransfer_reaches _ s
  case riseEnd => exact reaches_react fun _ _ => takeRiseEnd_goes _ _
  case fallEnd => exact reaches_react fun _ _ => takeFallEnd_goes _ _
  case demandTime => exact reaches_react fun _ _ => takeDemand_goes _ _
  case wakeTime => exact reaches_react fun _ _ => takeWake_goes _
  case settleEnd => exact reaches_react fun _ _ => takeSettleEnd_goes _
  case timelineClockAdvance => exact advanceClock_reaches _ s
  case supplyStabilityTime => exact takeSupply_reaches s
  case silenceMonitorExpiry x => exact reaches_silence s x

theorem changeLine_reaches (line : BattLine) (level : Bool) (s : State) : Reaches s (changeLine line level s) := by
  cases line
  · exact (Move.env { s.env with warn := s.env.warn.move s.held s.env.count level } ⟨rfl, rfl, rfl, .inl rfl⟩).reaches
  · exact (Move.env { s.env with low := s.env.low.move s.held s.env.count level } ⟨rfl, rfl, rfl, .inl rfl⟩).reaches

/-! ### The load (R212 to R215) -/

theorem Image.InRange.withMap {i : Image} (h : i.InRange) (m : MapEntry)
    (hnew : i.map.any (fun k => decide (k.device = m.device) && decide (k.register = m.register)) = false)
    (hroom : ¬ m.scope.limit ≤ (i.map.filter fun k => decide (k.scope = m.scope)).length) :
    ({ i with map := i.map ++ [m] } : Image).InRange := by
  obtain ⟨h1, h2, h3, h4, h5, h6, h7, h8, h9, h10⟩ := h
  have hcount : ∀ sc : Scope, (i.map.filter fun k => decide (k.scope = sc)).length ≤ sc.limit →
      ((i.map ++ [m]).filter fun k => decide (k.scope = sc)).length ≤ sc.limit := by
    intro sc hsc
    rw [List.filter_append, List.length_append]
    by_cases hm : m.scope = sc
    · subst hm
      have := List.length_filter_le (fun k : MapEntry => decide (k.scope = m.scope)) [m]
      simp only [List.length_singleton] at this
      omega
    · simpa [hm] using hsc
  refine ⟨h1, h2, h3, h4, h5, h6, h7, hcount .context h8, hcount .common h9, ?_⟩
  refine List.pairwise_append.mpr ⟨h10, List.pairwise_singleton _ _, fun k hk n hn => ?_⟩
  rw [List.mem_singleton.mp hn]
  rintro ⟨hd, hr⟩
  have := List.any_eq_false.mp hnew k hk
  simp [hd, hr] at this

theorem takeMapEntry_range {device register scope : Byte} {initial : Option Half} {i i' : Image} (h : i.InRange)
    (ht : takeMapEntry device register scope initial i = some i') : i'.InRange := by
  unfold takeMapEntry at ht
  split at ht
  · split at ht
    · cases ht
    · rename_i hnew
      split at ht
      · cases ht
      · rename_i hroom
        cases ht
        exact h.withMap _ (Bool.eq_false_iff.mpr hnew) hroom
  · cases ht

theorem delayOf_range (b : Byte) : (delayOf b).1 ≤ 2016 := by
  have := (clamp_within (lo := 0) (hi := 63) (by decide) b.toNat).2
  simp only [delayOf, clampCount]
  omega

theorem half_bound (a b : Byte) : (a ++ b : BitVec (8 + 8)).toNat ≤ 65535 := by
  have := (a ++ b : BitVec (8 + 8)).isLt
  omega

/-- A record keeps the working image in its ranges (R213). -/
theorem takeRecord_range {kind : Byte} {data : List Byte} {i i' : Image} {n : Nat} (h : i.InRange)
    (ht : takeRecord kind data i = some (i', n)) : i'.InRange := by
  have hmap : ∀ {o : Option Image}, (∀ k, o = some k → k.InRange) → o.map (fun k => (k, 0)) = some (i', n) → i'.InRange := by
    intro o ho hk
    obtain ⟨k, hok, heq⟩ := Option.map_eq_some_iff.mp hk
    cases heq
    exact ho _ hok
  obtain ⟨h1, h2, h3, h4, h5, h6, h7, h8, h9, h10⟩ := id h
  unfold takeRecord at ht
  split at ht
  · cases ht
    exact h
  · rename_i a b c d _
    cases ht
    refine ⟨fun f hf => ?_, h2, h3, h4, h5, h6, h7, h8, h9, h10⟩
    cases f
    · exact delayOf_range a
    · exact delayOf_range b
    · exact delayOf_range c
    · exact delayOf_range d
  · cases ht
    exact ⟨h1, (clamp_within (by decide) _).2, h3, h4, h5, h6, h7, h8, h9, h10⟩
  · cases ht
    exact ⟨h1, h2, (clamp_within (by decide) _).1, (clamp_within (by decide) _).2, h5, h6, h7, h8, h9, h10⟩
  · cases ht
    exact ⟨h1, h2, h3, h4, (clamp_within (by decide) _).2, half_bound _ _, h7, h8, h9, h10⟩
  · cases ht
    exact h
  · cases ht
    exact ⟨h1, h2, h3, h4, h5, h6, (clamp_within (by decide) _).2, h8, h9, h10⟩
  · exact hmap (fun k hk => takeMapEntry_range h hk) ht
  · exact hmap (fun k hk => takeMapEntry_range h hk) ht
  · cases ht
    exact h
  · cases ht

theorem takeWhole_range {l : Load} {kind : Byte} {data : List Byte} (h : l.working.InRange) :
    (l.takeWhole kind data).working.InRange := by
  unfold Load.takeWhole
  split
  · rename_i i n ht
    exact takeRecord_range h ht
  · exact h

theorem takeWhole_phase (l : Load) (kind : Byte) (data : List Byte) : (l.takeWhole kind data).phase = l.phase := by
  unfold Load.takeWhole
  split <;> rfl

theorem settleImage_range {i : Image} (h : i.InRange) : (settleImage i).1.InRange := by
  obtain ⟨h1, h2, h3, h4, h5, h6, h7, h8, h9, h10⟩ := h
  refine ⟨h1, h2, h3, h4, ?_, h6, h7, h8, h9, h10⟩
  change max (i.offSettle + Config.guardGap) i.lightThreshold ≤ 4095
  have : Config.guardGap = 4 := rfl
  omega

theorem handOver_reaches {i : Image} {l : Load} {s : State} (hs : s.env.load.phase = .reading) (hl : l.phase = .ended)
    (hi : s.env.load.working.InRange → i.InRange ∧ l.working.InRange) (hlight : i.offSettle + 4 ≤ i.lightThreshold) :
    Reaches s (handOver i l s) :=
  (Move.handsOver i l hs hl hi hlight).reaches.trans (reaches_react fun _ _ => trigger_goes _)

theorem endLoaded_reaches {l : Load} {s : State} (hs : s.env.load.phase = .reading)
    (hw : s.env.load.working.InRange → l.working.InRange) : Reaches s (endLoaded l s) :=
  handOver_reaches hs rfl (fun h => ⟨settleImage_range (hw h), settleImage_range (hw h)⟩) (Nat.le_max_left ..)

theorem endDefaults_reaches (cause : LoadCause) (l : Load) {s : State} (hs : s.env.load.phase = .reading) :
    Reaches s (endDefaults cause l s) :=
  have hdefault : Image.default.InRange := by decide
  handOver_reaches hs rfl (fun _ => ⟨hdefault, hdefault⟩) (by decide)

theorem setLoad_reaches {l : Load} {s : State} (hs : s.env.load.phase = .reading) (hl : l.phase = .reading)
    (hw : s.env.load.working.InRange → l.working.InRange) : Reaches s (s.setLoad l) := (Move.loading l hs hl hw).reaches

theorem continueLoad_reaches {l : Load} {s : State} (hs : s.env.load.phase = .reading) (hl : l.phase = .reading)
    (hw : s.env.load.working.InRange → l.working.InRange) : Reaches s (continueLoad l s) := by
  unfold continueLoad
  split
  · exact endLoaded_reaches hs hw
  · exact setLoad_reaches hs hl hw

theorem recordByte_reaches (b : Byte) {l : Load} {s : State} (hs : s.env.load.phase = .reading) (hl : l.phase = .reading)
    (hw : s.env.load.working.InRange → l.working.InRange) : Reaches s (recordByte b l s) := by
  unfold recordByte
  split
  · split
    · exact continueLoad_reaches hs ((takeWhole_phase ..).trans hl) fun h => takeWhole_range (hw h)
    · exact setLoad_reaches hs hl hw
  · exact setLoad_reaches hs hl hw

theorem takeConfigByte_reaches (byte : Option Byte) (s : State) : Reaches s (takeConfigByte byte s) := by
  unfold takeConfigByte
  split
  · rename_i b hs
    unfold loadByte
    simp only
    split
    · split
      · exact setLoad_reaches hs hs id
      · exact endDefaults_reaches _ _ hs
    · split
      · exact continueLoad_reaches hs hs id
      · exact recordByte_reaches b hs hs id
  · rename_i hs
    exact endDefaults_reaches _ _ hs
  · exact .refl

/-! ### Every command -/

/-- Every command answers a next state, by a run of moves. -/
theorem exec_reaches (i : Instr) (s : State) : ∃ t, exec i s = .next t ∧ Reaches s t := by
  rcases command_cases i with ⟨port, seq, head⟩ | ⟨f, event⟩ | rfl | rfl | ⟨line, level, rfl⟩ | ⟨byte, rfl⟩
  · obtain ⟨r, hr, hexec, -⟩ := request_of_head head
    rw [hexec, takeRequest]
    split
    · exact ⟨s, rfl, .refl⟩
    · exact ⟨_, rfl, (ensureBegun_reaches port s).trans
        (takeFrame_reaches (fun q hq => by cases hq; exact request_lawful hr) _ _ _)⟩
  · rw [exec_event event, onEvent]
    refine ⟨_, rfl, ?_⟩
    split
    · exact .refl
    · exact event_reaches event s
  · exact ⟨_, rfl, Move.fresh.reaches⟩
  · refine ⟨_, rfl, ?_⟩
    split
    · rename_i held
      exact (Move.rises (of_decide_eq_true held)).reaches
    · exact .refl
  · exact ⟨_, rfl, changeLine_reaches line level s⟩
  · exact ⟨_, rfl, takeConfigByte_reaches byte s⟩

/-- Settles O2: no move changes the queue of waiting commands. -/
theorem commandsGoOn : Obligations.CommandsGoOn := by
  unfold Obligations.CommandsGoOn
  intro i s
  obtain ⟨t, ht, hreach⟩ := exec_reaches i s
  exact ⟨t, ht, hreach.pending⟩

end Sys2Proof.Machine

/-! PROOFS. What every move keeps, every step keeps: the ranges of the environment, the laws of the queues and the monitors, of the
table, of the sessions and of the cells. -/

namespace Sys2Proof.Machine

/-! ### From moves to steps -/

/-- A law of the environment and the blocks that every move keeps. -/
def KeptByMoves (law : Env → Core → Prop) : Prop := ∀ s t : State, Move s t → law s.env s.core → law t.env t.core

theorem KeptByMoves.step {law : Env → Core → Prop} (hlaw : KeptByMoves law) {s t : State} (h : law s.env s.core)
    (hstep : step s = .next t) : law t.env t.core := by
  have hreach : ∀ {u v : State}, Reaches u v → law u.env u.core → law v.env v.core := by
    intro u v huv hu
    induction huv with
    | refl => exact hu
    | tail _ hm ih => exact hlaw _ _ hm ih
  unfold Machine.step at hstep
  split at hstep
  · cases hstep
    exact h
  · rename_i i rest _
    obtain ⟨v, hv, hr⟩ := exec_reaches i { s with pending := rest }
    rw [hv] at hstep
    cases hstep
    exact hreach hr h

theorem Claims.nothing_sound (e : Env) (c : Core) : Sound Claims.nothing e c :=
  ⟨False.elim, False.elim, False.elim, False.elim⟩

/-! ### The ranges (R151, R174, R186, R213, R214) -/

theorem ranges_kept : KeptByMoves fun e _ => e.Inv := by
  intro s t hm h
  obtain ⟨h1, h2, h3, h4, h5, h6, h7, h8, h9, h10⟩ := id h
  cases hm with
  | env e he =>
    obtain ⟨hi, hp, hl, hstep⟩ := he
    have hs : Config.stepLow ≤ e.step ∧ e.step ≤ Config.stepHigh := by
      rcases hstep with hstep | hstep
      · rw [hstep]
        exact ⟨h1, h2⟩
      · exact hstep
    dsimp only [Env.Inv]
    rw [hi, hp, hl]
    exact ⟨hs.1, hs.2, h3, h4, h5, h6, h7, h8, h9, h10⟩
  | policy p hp => exact ⟨h1, h2, hp.credit, hp.refill.1, hp.refill.2, hp.limits.1, hp.limits.2, h8, h9, h10⟩
  | loading l _ _ hw => exact ⟨h1, h2, h3, h4, h5, h6, h7, h8, h9, hw h10⟩
  | handsOver i l _ _ hi hlight => exact ⟨h1, h2, h3, h4, h5, h6, h7, (hi h10).1, hlight, (hi h10).2⟩
  | rises _ =>
    have hinitial : Load.initial.working.InRange := by decide
    exact ⟨h1, h2, h3, h4, h5, h6, h7, h8, h9, hinitial⟩
  | fresh =>
    have hreset : State.reset.env.Inv := by decide
    exact hreset
  | _ => exact h

/-- Settles O4: every move keeps the ranges. -/
theorem stepKeepsRanges : Obligations.StepKeepsRanges := by
  unfold Obligations.StepKeepsRanges
  exact fun s t h hstep => ranges_kept.step h hstep

/-! ### The queues and the monitors (R182, R202) -/

/-- The law of the queues and the monitors, of the stacks as they are. -/
def Core.QueuesLaw (e : Env) (c : Core) : Prop := Queues c.attached e c

theorem queuesLaw_iff (s : State) : (s.core.QueueLaw ∧ s.MonitorLaw) ↔ s.core.QueuesLaw s.env := by
  constructor
  · rintro ⟨⟨hA, hB, hP, qA, qB⟩, mA, mB⟩
    refine ⟨fun port => ?_, fun _ h => h, fun x => ?_, fun x => ?_⟩
    · rcases port with x | _
      · cases x
        · exact hA
        · exact hB
      · exact hP
    · cases x
      · exact qA
      · exact qB
    · cases x
      · exact mA
      · exact mB
  · rintro ⟨hb, -, hq, hm⟩
    exact ⟨⟨hb _, hb _, hb _, hq .A, hq .B⟩, hm .A, hm .B⟩

theorem Queues.limits {att : Sub → Bool} {e e' : Env} {c : Core} (h : Queues att e c) (hl : e'.policy.limits = e.policy.limits) :
    Queues att e' c := ⟨h.bounded, h.attached, h.quiet, by rw [hl]; exact h.monitor⟩

theorem Queues.same {e e' : Env} {c d : Core} (h : c.QueuesLaw e) (hs : d.ssv = c.ssv) (hp : d.pif = c.pif)
    (hl : e'.policy.limits = e.policy.limits) : d.QueuesLaw e' := by
  have hatt : d.attached = c.attached := funext fun x => by rw [Core.attached, hs]; rfl
  rw [Core.QueuesLaw, hatt]
  exact (Queues.congr h hs hp).limits hl

theorem Queues.of_goes {e : Env} {c d : Core} (h : Goes Claims.nothing e c d) (w : c.QueuesLaw e) : d.QueuesLaw e := by
  have hatt : d.attached = c.attached := funext h.attached
  rw [Core.QueuesLaw, hatt]
  exact h.keeps (Claims.nothing_sound e c) (fun _ _ hstep => hstep.queues) w

theorem Queues.teardown {e : Env} {c : Core} (w : c.QueuesLaw e) (x : Sub) {left : StackState} (hl : left ≠ .attached) :
    (Machine.teardown e x left c).QueuesLaw e := by
  obtain ⟨hb, ha, hq, hm⟩ := (teardown_goes (g := Claims.nothing) id x left c).keeps (Claims.nothing_sound e _)
    (fun _ _ hstep => hstep.queues) (detach_queues w hl)
  refine ⟨hb, fun _ h => h, fun y hy => ?_, hm⟩
  by_cases hyx : y = x
  · subst hyx
    rw [teardown_pif]
    cases y <;> rfl
  · refine hq y ?_
    rw [← hy, Core.attached, Core.attached, teardown_other_state e hyx]

theorem setMonitor_get (c : Core) (x : Sub) (m : Option Time) (y : Sub) :
    ((c.setMonitor x m).ssv.get y).monitor = if y = x then m else (c.ssv.get y).monitor := by
  rw [Core.setMonitor, Pair.get_set]
  split <;> rfl

/-- A monitor set as the law asks for it. -/
theorem Queues.setMonitor {att : Sub → Bool} {e e' : Env} {c : Core} (w : Queues att e c) (x : Sub) (m : Option Time)
    (hx : m.isSome = true ↔ (c.attached x = true ∧ (c.pif.get (.stack x)).events ≠ [] ∧ e'.policy.limits.get x ≠ 0))
    (hother : ∀ y, y ≠ x → e'.policy.limits.get y = e.policy.limits.get y) : Queues att e' (c.setMonitor x m) := by
  refine ⟨w.bounded, fun y hy => w.attached y (by rwa [attached_setMonitor] at hy), w.quiet, fun y => ?_⟩
  rw [setMonitor_get, attached_setMonitor]
  split
  · rename_i hyx
    subst hyx
    exact hx
  · rename_i hyx
    rw [hother y hyx]
    exact w.monitor y

theorem Queues.attach {e : Env} {c : Core} (w : c.QueuesLaw e) {x : Sub} (hx : c.attached x = false) :
    (c.setStack x ⟨.attached, none⟩).QueuesLaw e := by
  have hempty := w.quiet x hx
  refine ⟨w.bounded, fun _ h => h, fun y hy => ?_, fun y => ?_⟩
  · refine w.quiet y ?_
    by_cases hyx : y = x
    · rw [hyx, hx]
    · rwa [Core.attached, Core.setStack, Pair.get_set, if_neg hyx] at hy
  · by_cases hyx : y = x
    · subst hyx
      rw [Core.setStack, Pair.get_set_self]
      exact ⟨nofun, fun h => absurd (congrArg EventQueue.events hempty) h.2.1⟩
    · have hget : (c.setStack x ⟨.attached, none⟩).ssv.get y = c.ssv.get y := by
        rw [Core.setStack, Pair.get_set, if_neg hyx]
      rw [Core.attached, hget]
      exact w.monitor y

theorem Queues.detach {e : Env} {c : Core} (w : c.QueuesLaw e) {x : Sub} (hx : c.attached x = false) :
    (c.setStack x ⟨.detached, none⟩).QueuesLaw e := by
  have hatt : (c.setStack x ⟨.detached, none⟩).attached = c.attached := funext fun y => by
    by_cases hyx : y = x
    · subst hyx
      rw [hx, Core.attached, Core.setStack, Pair.get_set_self]
      rfl
    · rw [Core.attached, Core.setStack, Pair.get_set, if_neg hyx]
      rfl
  rw [Core.QueuesLaw, hatt]
  exact detach_queues w (by decide)

/-- One subscription's monitor takes its new limit. -/
theorem limitPolicy_queues {att : Sub → Bool} {e e' : Env} {c : Core} (w : Queues att e c) (now : Time) (x : Sub)
    (hother : ∀ y, y ≠ x → e'.policy.limits.get y = e.policy.limits.get y) :
    Queues att e' (limitPolicy now x (e.policy.limits.get x) (e'.policy.limits.get x) c) := by
  unfold limitPolicy
  split
  · rename_i hzero
    exact w.setMonitor x _ ⟨nofun, fun h => absurd hzero h.2.2⟩ hother
  · rename_i hzero
    split
    · rename_i h
      exact w.setMonitor x _ ⟨fun _ => ⟨h.2.1, h.2.2, hzero⟩, fun _ => rfl⟩ hother
    · rename_i h
      refine ⟨w.bounded, w.attached, w.quiet, fun y => ?_⟩
      by_cases hyx : y = x
      · subst hyx
        rw [w.monitor y]
        by_cases hwas : e.policy.limits.get y = 0
        · exact ⟨fun hm => absurd hwas hm.2.2, fun hm => absurd ⟨hwas, hm.1, hm.2.1⟩ h⟩
        · exact ⟨fun hm => ⟨hm.1, hm.2.1, hzero⟩, fun hm => ⟨hm.1, hm.2.1, hwas⟩⟩
      · rw [hother y hyx]
        exact w.monitor y

theorem creditPolicy_rest (now : Time) (was will : Policy) (c : Core) : (creditPolicy now was will c).ssv = c.ssv
    ∧ (creditPolicy now was will c).pif = c.pif := by
  have hedit : ∀ h tr, (c.setTraffic h tr).ssv = c.ssv ∧ (c.setTraffic h tr).pif = c.pif := fun h tr => by
    unfold Core.setTraffic Core.editSession
    split <;> exact ⟨rfl, rfl⟩
  unfold creditPolicy
  split
  · exact ⟨rfl, rfl⟩
  · split
    · exact ⟨rfl, rfl⟩
    · split
      · exact ⟨rfl, rfl⟩
      · exact hedit _ _

theorem limitPolicy_attached (now : Time) (x : Sub) (was will : Nat) (c : Core) (y : Sub) :
    (limitPolicy now x was will c).attached y = c.attached y := by
  unfold limitPolicy
  split
  · exact attached_setMonitor ..
  · split
    · exact attached_setMonitor ..
    · rfl

theorem applyPolicy_attached (now : Time) (was will : Policy) (c : Core) (x : Sub) :
    (applyPolicy now was will c).attached x = c.attached x := by
  rw [applyPolicy, limitPolicy_attached, limitPolicy_attached, Core.attached, (creditPolicy_rest ..).1]
  rfl

theorem applyPolicy_queues {e : Env} {c : Core} (w : c.QueuesLaw e) (p : Policy) :
    (applyPolicy e.count e.policy p c).QueuesLaw { e with policy := p } := by
  obtain ⟨hs, hq⟩ := creditPolicy_rest e.count e.policy p c
  have hcredit : Queues c.attached e (creditPolicy e.count e.policy p c) := w.congr hs hq
  let e1 : Env := { e with policy := { e.policy with limits := ⟨p.limits.a, e.policy.limits.b⟩ } }
  have hA : Queues c.attached e1 (limitPolicy e.count .A e.policy.limits.a p.limits.a (creditPolicy e.count e.policy p c)) :=
    limitPolicy_queues (e' := e1) hcredit e.count .A fun y hy => by
      cases y
      · exact absurd rfl hy
      · rfl
  have hB : Queues c.attached { e with policy := p } (applyPolicy e.count e.policy p c) :=
    limitPolicy_queues (e' := { e with policy := p }) hA e.count .B fun y hy => by
      cases y
      · rfl
      · exact absurd rfl hy
  have hatt : (applyPolicy e.count e.policy p c).attached = c.attached := funext fun y => applyPolicy_attached ..
  rw [Core.QueuesLaw, hatt]
  exact hB

theorem queues_kept : KeptByMoves fun e c => c.QueuesLaw e := by
  intro s t hm h
  cases hm with
  | env e he => exact Queues.limits h (by rw [he.policy])
  | run c hc => exact Queues.of_goes (hc Claims.nothing id False.elim) h
  | restart x u hx =>
    have hatt : (s.core.setMonitor x (some u)).attached = s.core.attached := funext fun y => attached_setMonitor ..
    dsimp only [State.setCore]
    rw [Core.QueuesLaw, hatt]
    exact Queues.setMonitor h x _ ⟨fun _ => (h.monitor x).mp hx, fun _ => rfl⟩ fun _ _ => rfl
  | teardown x left hl => exact Queues.teardown h x hl
  | attach x hx _ => exact Queues.attach h hx
  | detach x hx => exact Queues.detach h hx
  | policy p _ => exact applyPolicy_queues h p
  | reset =>
    obtain ⟨hstacks, hports, -⟩ := resetBlocks_ports s.env s.core
    refine ⟨fun port => ?_, fun _ h => h, fun x _ => hports _, fun x => ?_⟩
    · dsimp only [State.setCore]
      rw [hports]
      exact ⟨Nat.zero_le _, Nat.zero_le _⟩
    · dsimp only [State.setCore]
      rw [hstacks, hports]
      exact ⟨nofun, fun h => absurd rfl h.2.1⟩
  | fresh =>
    have hreset : State.reset.core.QueueLaw ∧ State.reset.MonitorLaw := ⟨by decide, by decide⟩
    exact Queues.same ((queuesLaw_iff State.reset).mp hreset) rfl rfl rfl
  | loading l _ _ _ => exact Queues.same h rfl rfl rfl
  | handsOver i l _ _ _ _ => exact Queues.same h rfl rfl rfl
  | rises _ => exact Queues.same h rfl rfl rfl
  | links l => exact h

/-- Settles O5: both laws together are one that every move keeps. -/
theorem stepKeepsQueueLaw : Obligations.StepKeepsQueueLaw := by
  unfold Obligations.StepKeepsQueueLaw
  exact fun s t hq hm hstep => (queuesLaw_iff t).mpr (queues_kept.step ((queuesLaw_iff s).mp ⟨hq, hm⟩) hstep)

end Sys2Proof.Machine

/-! PROOFS. What every step keeps, continued: the laws of the table, of the sessions and of the cells. -/

namespace Sys2Proof.Machine

/-! ### A change of the policy (R51, R185) -/

theorem no_voice_of_none {c : Core} (h : c.voiceSession = none) {n : Session} (hn : some n ∈ c.smg.sessions) :
    n.body.voice? = none := by
  cases hb : n.body with
  | text t => rfl
  | voice v =>
    refine absurd h (Option.ne_none_iff_isSome.mpr (List.findSome?_isSome_iff.mpr ⟨some n, hn, ?_⟩))
    simp [hb]

/-- The environment with another credit maximum. -/
def Env.credited (e : Env) (n : Nat) : Env := { e with policy := { e.policy with creditMax := n } }

/-- A change of the policy is a change of one call's credit, for a credit maximum that covers both. -/
theorem creditPolicy_goes {g : Claims} (e : Env) (now : Time) (was will : Policy) {n : Nat} (hn : will.creditMax ≤ n) (c : Core) :
    Goes g (e.credited n) c (creditPolicy now was will c) := by
  unfold creditPolicy
  split
  · exact Goes.refl _ _ c
  · split
    · exact Goes.refl _ _ c
    · split
      · exact Goes.refl _ _ c
      · exact setTraffic_goes _ fun _ => (Nat.min_le_right ..).trans hn

theorem limitPolicy_frame (now : Time) (x : Sub) (n m : Nat) (c : Core) : ∃ p, limitPolicy now x n m c = { c with ssv := p } := by
  unfold limitPolicy
  split
  · exact ⟨_, rfl⟩
  · split
    · exact ⟨_, rfl⟩
    · exact ⟨c.ssv, rfl⟩

/-- A change of the policy changes a call's credit and the monitors. -/
theorem applyPolicy_frame (now : Time) (was will : Policy) (c : Core) :
    ∃ p, applyPolicy now was will c = { creditPolicy now was will c with ssv := p } := by
  obtain ⟨q, hq⟩ := limitPolicy_frame now .A was.limits.a will.limits.a (creditPolicy now was will c)
  obtain ⟨r, hr⟩ := limitPolicy_frame now .B was.limits.b will.limits.b { creditPolicy now was will c with ssv := q }
  exact ⟨r, by rw [applyPolicy, hq, hr]⟩

theorem creditPolicy_frame (now : Time) (was will : Policy) (c : Core) :
    ∃ p, creditPolicy now was will c = { c with smg := p } := by
  unfold creditPolicy
  split
  · exact ⟨c.smg, rfl⟩
  · split
    · exact ⟨c.smg, rfl⟩
    · split
      · exact ⟨c.smg, rfl⟩
      · unfold Core.setTraffic Core.editSession
        split
        · exact ⟨c.smg, rfl⟩
        · exact ⟨_, rfl⟩

/-- What a change of the policy leaves besides: all but the sessions and the monitors. -/
theorem applyPolicy_rest (now : Time) (was will : Policy) (c : Core) :
    (applyPolicy now was will c).tla = c.tla ∧ (applyPolicy now was will c).rcc = c.rcc
    ∧ (applyPolicy now was will c).msu = c.msu ∧ (applyPolicy now was will c).psc = c.psc
    ∧ (applyPolicy now was will c).csc = c.csc ∧ (applyPolicy now was will c).smg = (creditPolicy now was will c).smg := by
  obtain ⟨q, hq⟩ := applyPolicy_frame now was will c
  obtain ⟨p, hp⟩ := creditPolicy_frame now was will c
  rw [hq, hp]
  exact ⟨rfl, rfl, rfl, rfl, rfl, rfl⟩

/-! ### The table (R11, R12) -/

def Claims.tableOnly : Claims := ⟨True, False, False, False, False, False.elim, False.elim⟩

theorem sound_table {e : Env} {c : Core} (h : c.TableLaw) : Sound Claims.tableOnly e c :=
  ⟨fun _ => h, False.elim, False.elim, False.elim⟩

theorem tableLaw_congr {c d : Core} (h : c.TableLaw) (ht : d.tla = c.tla) : d.TableLaw := by
  simpa only [Core.TableLaw, Core.recordsOwned, ht] using h

/-- What both teardowns keep, the reset's two teardowns keep. -/
theorem bothReset_keeps {e : Env} {law : Core → Prop} (hsleep : ∀ c, law c → law (c.setSleep .awake))
    (hstack : ∀ x c, law c → law (c.setStack x ⟨.detached, none⟩))
    (hteardown : ∀ x c, law c → law (teardown e x .detached c)) {c : Core} (h : law c) : law (bothReset e c) := by
  have hone : ∀ x c, law c → law (resetStack e x c) := fun x c h => by
    unfold resetStack
    split
    · exact hteardown x c h
    · exact hstack x c h
  exact hone .B _ (hone .A _ (hsleep c h))

theorem table_kept : KeptByMoves fun _ c => c.TableLaw := by
  intro s t hm h
  cases hm with
  | run c hc => exact ((hc Claims.tableOnly id False.elim).sound (sound_table h)).table trivial
  | teardown x left hl => exact (teardown_sound (g := Claims.tableOnly) id (sound_table h) x left).table trivial
  | policy p _ => exact tableLaw_congr h (applyPolicy_rest ..).1
  | reset =>
    obtain ⟨f, -, htla, -⟩ := resetBlocks_records s.env s.core
    refine tableLaw_congr ?_ htla
    exact bothReset_keeps (law := Core.TableLaw) (fun _ h => h) (fun _ _ h => h)
      (fun x c h => (teardown_sound (g := Claims.tableOnly) id (sound_table h) x .detached).table trivial) h
  | fresh =>
    have hreset : State.reset.core.TableLaw := by decide
    exact hreset
  | _ => exact h

/-- Settles O6: every move keeps the law of the table. -/
theorem stepKeepsTableLaw : Obligations.StepKeepsTableLaw := by
  unfold Obligations.StepKeepsTableLaw
  exact fun s t h hstep => table_kept.step h hstep

/-! ### The cells (R71, R79, R81, R83) -/

theorem clearMeasurement_law {c : Core} (h : c.CellLaw) : (clearMeasurement c).CellLaw :=
  setFlags_law .B (fun _ => ⟨false, false, false, false⟩) (setFlags_law .A (fun _ => ⟨false, false, false, false⟩) h)

theorem teardown_cellLaw {e : Env} {c : Core} (h : c.CellLaw) (x : Sub) (left : StackState) : (teardown e x left c).CellLaw :=
  (teardown_goes (g := Claims.nothing) id x left c).keeps (Claims.nothing_sound e _) (fun _ _ hstep => hstep.cellLaw)
    (h.congr rfl)

theorem cells_kept : KeptByMoves fun _ c => c.CellLaw := by
  intro s t hm h
  cases hm with
  | run c hc =>
    exact (hc Claims.nothing id False.elim).keeps (Claims.nothing_sound _ _) (fun _ _ hstep => hstep.cellLaw) h
  | teardown x left hl => exact teardown_cellLaw h x left
  | policy p _ => exact h.congr (applyPolicy_rest s.env.count s.env.policy p s.core).2.2.1
  | reset =>
    obtain ⟨f, -, -, -, hmsu, -⟩ := resetBlocks_records s.env s.core
    have hboth : (bothReset s.env s.core).CellLaw := bothReset_keeps (law := Core.CellLaw) (fun _ h => h) (fun _ _ h => h)
      (fun x c h => teardown_cellLaw h x .detached) h
    exact (clearMeasurement_law hboth).congr hmsu
  | fresh =>
    have hreset : State.reset.core.CellLaw := by decide
    exact hreset
  | _ => exact h

/-- Settles O9: every move keeps the law of the cells. -/
theorem stepKeepsCellLaw : Obligations.StepKeepsCellLaw := by
  unfold Obligations.StepKeepsCellLaw
  exact fun s t h hstep => cells_kept.step h hstep

end Sys2Proof.Machine

/-! PROOFS. What every step keeps, continued: the law of the sessions. -/

namespace Sys2Proof.Machine

def Claims.sessionsOnly : Claims := ⟨False, False, True, False, False, False.elim, False.elim⟩

theorem sound_sessions {e : Env} {c : Core} (h : c.SessionsLaw e) : Sound Claims.sessionsOnly e c :=
  ⟨False.elim, False.elim, fun _ => h, False.elim⟩

/-- The law of the sessions looks at the environment for its credit maximum alone. -/
theorem Places.credited {e e' : Env} {m : Smg} (w : Places e m) (h : ∀ i n, m.place i = some n → n.CreditOk e') : Places e' m :=
  ⟨w.size, w.generations, w.place, w.voice, w.nodup, w.short, w.queue, h⟩

theorem Session.CreditOk.mono {e e' : Env} {n : Session} (h : n.CreditOk e) (hle : e.policy.creditMax ≤ e'.policy.creditMax) :
    n.CreditOk e' := fun v hv tr htr => (h v hv tr htr).trans hle

theorem sessionsLaw_credited {e e' : Env} {c : Core} (h : c.SessionsLaw e)
    (hc : ∀ i n, c.smg.place i = some n → n.CreditOk e') : c.SessionsLaw e' := by
  obtain ⟨w, hr⟩ := sessionsLaw_iff.mp h
  exact sessionsLaw_iff.mpr ⟨w.credited hc, hr⟩

theorem sessionsLaw_policy {e e' : Env} {c : Core} (h : c.SessionsLaw e) (hp : e'.policy = e.policy) : c.SessionsLaw e' :=
  sessionsLaw_credited h fun i n hn => ((sessionsLaw_iff.mp h).1.credit i n hn).mono (by rw [hp])

/-- After a change of the policy the one call's credit is within the new maximum. -/
theorem creditPolicy_credit {e : Env} {c : Core} (w : Places e c.smg) (now : Time) (p : Policy) :
    ∀ i n, (creditPolicy now e.policy p c).smg.place i = some n → n.CreditOk { e with policy := p } := by
  unfold creditPolicy
  split
  · rename_i hsame
    exact fun i n hn => (w.credit i n hn).mono (le_of_eq hsame.1)
  · split
    · rename_i hnone
      intro i n hn v hv
      rw [no_voice_of_none hnone (mem_sessions_iff.mpr ⟨i, hn⟩)] at hv
      cases hv
    · rename_i s v hvoice
      obtain ⟨hmem, hbody⟩ := mem_of_voiceSession hvoice
      obtain ⟨j, hj⟩ := mem_sessions_iff.mp hmem
      have hsv : s.body.voice? = some v := by rw [hbody]; rfl
      have hone : ∀ i n, c.smg.place i = some n → ∀ u, n.body.voice? = some u → i = j := fun i n hn u hu =>
        w.voice i j n s hn hj (by rw [hu]; rfl) (by rw [hsv]; rfl)
      split
      · rename_i htraffic
        intro i n hn u hu tr htr
        have hij := hone i n hn u hu
        subst hij
        rw [hj] at hn
        cases hn
        rw [hsv] at hu
        cases hu
        rw [htraffic] at htr
        cases htr
      · rename_i tr htraffic
        have hindex := w.place j s hj
        have hs : c.session s.handle = some s := session_iff.mpr ⟨by rw [hindex]; exact hj, rfl⟩
        have hlt : s.handle.index.toNat < c.smg.sessions.length := by
          rw [hindex]
          exact (List.getElem?_eq_some_iff.mp (place_iff.mp hj)).1
        unfold Core.setTraffic
        rw [editSession_some hs]
        intro i n hn u hu tr' htr'
        change Smg.place _ i = some n at hn
        rw [place_set hlt] at hn
        split at hn
        · cases hn
          rw [hbody] at hu
          cases hu
          cases htr'
          exact Nat.min_le_right ..
        · rename_i hne
          exact absurd ((hone i n hn u hu).trans hindex.symm) hne

theorem applyPolicy_sessions {e : Env} {c : Core} (h : c.SessionsLaw e) (p : Policy) :
    (applyPolicy e.count e.policy p c).SessionsLaw { e with policy := p } := by
  obtain ⟨htla, -, -, -, -, hsmg⟩ := applyPolicy_rest e.count e.policy p c
  have hlarger : c.SessionsLaw (e.credited (max e.policy.creditMax p.creditMax)) :=
    sessionsLaw_credited h fun i n hn => ((sessionsLaw_iff.mp h).1.credit i n hn).mono (Nat.le_max_left ..)
  have hgoes := creditPolicy_goes (g := Claims.sessionsOnly) e e.count e.policy p (n := max e.policy.creditMax p.creditMax)
    (Nat.le_max_right ..) c
  have hkept := (hgoes.sound (sound_sessions hlarger)).sessions trivial
  have hcredit : (creditPolicy e.count e.policy p c).SessionsLaw { e with policy := p } :=
    sessionsLaw_credited hkept (creditPolicy_credit (sessionsLaw_iff.mp h).1 e.count p)
  have htable : (creditPolicy e.count e.policy p c).tla = c.tla := by
    obtain ⟨q, hq⟩ := creditPolicy_frame e.count e.policy p c
    rw [hq]
  exact hcredit.congr hsmg (by rw [htla, ← htable]; exact fun r hr k hk => hcredit.named hr hk)

theorem sessions_kept : KeptByMoves fun e c => c.SessionsLaw e := by
  intro s t hm h
  cases hm with
  | env e he => exact sessionsLaw_policy h he.policy
  | run c hc => exact ((hc Claims.sessionsOnly id False.elim).sound (sound_sessions h)).sessions trivial
  | teardown x left hl => exact (teardown_sound (g := Claims.sessionsOnly) id (sound_sessions h) x left).sessions trivial
  | policy p _ => exact applyPolicy_sessions h p
  | reset =>
    obtain ⟨f, -, htla, hsmg, -⟩ := resetBlocks_records s.env s.core
    have hboth : (bothReset s.env s.core).SessionsLaw s.env :=
      bothReset_keeps (law := Core.SessionsLaw s.env) (fun _ h => h) (fun _ _ h => h)
        (fun x c h => (teardown_sound (g := Claims.sessionsOnly) id (sound_sessions h) x .detached).sessions trivial) h
    exact hboth.congr hsmg (by dsimp only [State.setCore]; rw [htla]; exact fun r hr k hk => hboth.named hr hk)
  | fresh =>
    have hreset : State.reset.SessionLaw := by decide
    exact hreset
  | _ => exact h

/-- Settles O8: every move keeps the law of the sessions for the credit maximum then in force. -/
theorem stepKeepsSessionLaw : Obligations.StepKeepsSessionLaw := by
  unfold Obligations.StepKeepsSessionLaw
  exact fun s t h hstep => sessions_kept.step h hstep

end Sys2Proof.Machine

/-! PROOFS. What every step keeps, continued: the law of stacks that are not ATTACHED and of the work done for stacks. -/

namespace Sys2Proof.Machine

/-! ### Owning nothing (R110) -/

theorem ownsNothing_iff (c : Core) (x : Sub) : ownsNothing c x ↔ (c.attached x = false → ¬ c.owns x) := by
  constructor
  · intro h ha
    obtain ⟨h1, h2, h3, h4, h5, h6, h7⟩ := h ha
    rintro (⟨r, hr, ho⟩ | ⟨n, hn, ho⟩ | hq | hb | ⟨m, hm, hx⟩ | hc | hp)
    · exact h1 r hr ho
    · exact h2 _ hn n rfl ho
    · exact hq h3
    · exact hb h4
    · exact hx (h5 m hm)
    · exact hc h6
    · exact hp h7
  · intro h ha
    have hno := h ha
    simp only [Core.owns, not_or, not_exists, not_and, not_not] at hno
    obtain ⟨h1, h2, h3, h4, h5, h6, h7⟩ := hno
    exact ⟨h1, fun o ho n hn => by cases hn; exact h2 n ho, h3, h4, h5, h6, h7⟩

theorem attached_of_alive {c : Core} (h : ∀ x, ownsNothing c x) {x : Sub} (ha : c.alive x) : c.attached x = true := by
  by_contra hno
  rcases ha with ha | ha
  · exact hno ha
  · exact (ownsNothing_iff c x).mp (h x) (Bool.eq_false_iff.mpr hno) ha

theorem unattachedLaw_iff (c : Core) : (c.TableLaw ∧ c.UnattachedLaw) ↔ c.Works ∧ (∀ x, ownsNothing c x)
    ∧ ∀ t ∈ c.rcc.bus, ∀ x ∈ t.owner, c.attached x = true ∨ t.ownerGone = true := by
  constructor
  · rintro ⟨ht, hA, hB, hw⟩
    exact ⟨works_of_laws ht hw, fun x => by cases x <;> assumption, hw.2.2.2.1⟩
  · rintro ⟨⟨ht, hp, hv, hg, hl⟩, hn, hb⟩
    exact ⟨ht, hn .A, hn .B, hp, hv, hg, hb, hl⟩

/-- The law of the stacks that are not ATTACHED. -/
def Core.StacksLaw (c : Core) : Prop := c.TableLaw ∧ c.UnattachedLaw

/-- After a change that gives nothing to anyone the law holds, when each stack is as ATTACHED as before or torn down. -/
theorem stacksLaw_of_narrower {c d : Core} (h : c.StacksLaw) (hworks : d.Works) (hn : Narrower c d)
    (hstack : ∀ x, c.attached x = true → d.attached x = true
      ∨ (¬ d.owns x ∧ ∀ t ∈ d.rcc.bus, x ∈ t.owner → t.ownerGone = true)) : d.StacksLaw := by
  obtain ⟨-, hnothing, hbus⟩ := (unattachedLaw_iff c).mp h
  refine (unattachedLaw_iff d).mpr ⟨hworks, fun x => (ownsNothing_iff d x).mpr fun hx howns => ?_, fun t ht x hx => ?_⟩
  · rcases hstack x (attached_of_alive hnothing (hn.alive (.inr howns))) with ha | ⟨hno, -⟩
    · rw [hx] at ha
      cases ha
    · exact hno howns
  · cases hgone : t.ownerGone with
    | true => exact .inr rfl
    | false =>
      have hattached : c.attached x = true := by
        rcases hn.bus t ht x hx hgone with ha | ⟨u, hu, ho, hu'⟩
        · exact attached_of_alive hnothing ha
        · rcases hbus u hu x (ho ▸ hx) with ha | hg
          · exact ha
          · rw [hu'] at hg
            cases hg
      rcases hstack x hattached with ha | ⟨-, hb⟩
      · exact .inl ha
      · rw [hb t ht hx] at hgone
        cases hgone

def Claims.worksOnly : Claims := ⟨True, True, False, False, False, fun _ => trivial, False.elim⟩

theorem sound_works {e : Env} {c : Core} (h : c.Works) : Sound Claims.worksOnly e c :=
  ⟨fun _ => h.table, fun _ => h, False.elim, False.elim⟩

theorem busOwned_of_law {c : Core} (h : c.StacksLaw) : c.BusOwned := fun t ht x hx =>
  (((unattachedLaw_iff c).mp h).2.2 t ht x hx).imp .inl id

/-- A torn-down subscription owns nothing, and no transfer in flight works for it. -/
theorem teardown_owns (e : Env) (x : Sub) (left : StackState) (c : Core) : ¬ (teardown e x left c).owns x
    ∧ ∀ t ∈ (teardown e x left c).rcc.bus, x ∈ t.owner → t.ownerGone = true := by
  have hheld := teardown_holdless e x left c
  have hblank := teardown_blank e x left c
  constructor
  · rintro (⟨r, hr, ho⟩ | ⟨n, hn, ho⟩ | hq | hb | ⟨m, hm, hx⟩ | hc | hp)
    · exact hheld.table r hr ho
    · exact hheld.sessions n hn ho
    · exact hq hheld.queue
    · exact hb hheld.bridge
    · exact hx (hheld.shadow m hm)
    · exact hc (by rw [hblank.csc]; rfl)
    · exact hp (by rw [hblank.csc]; rfl)
  · intro t ht hx
    obtain ⟨-, -, -, -, -, hrcc, -⟩ := teardown_records e x left c
    rw [hrcc] at ht
    obtain ⟨u, -, rfl⟩ := Option.map_eq_some_iff.mp ht
    have ho : u.owner = some x := (orphan_owner x u).1 ▸ hx
    rw [Transfer.orphan, if_pos ho]

theorem teardown_stacksLaw {e : Env} {c : Core} (h : c.StacksLaw) (x : Sub) {left : StackState} (hl : left ≠ .attached) :
    (teardown e x left c).StacksLaw := by
  have w := ((unattachedLaw_iff c).mp h).1
  refine stacksLaw_of_narrower h ((teardown_sound (g := Claims.worksOnly) id (sound_works w) x left).works trivial)
    (teardown_narrower (e := e) hl w x) fun y hy => ?_
  by_cases hyx : y = x
  · subst hyx
    exact .inr (teardown_owns e y left c)
  · left
    rw [Core.attached, teardown_other_state e hyx]
    exact hy

theorem detach_stacksLaw {c : Core} (h : c.StacksLaw) {x : Sub} (hx : c.attached x = false) :
    (c.setStack x ⟨.detached, none⟩).StacksLaw := by
  have w := ((unattachedLaw_iff c).mp h).1
  refine stacksLaw_of_narrower h (w.congr rfl rfl rfl) (detach_narrower c x (by decide)) fun y hy => ?_
  left
  rw [Core.attached, Core.setStack, Pair.get_set, if_neg]
  · exact hy
  · rintro rfl
    rw [hx] at hy
    cases hy

/-- A stack that attaches has its records to come. -/
theorem attach_stacksLaw {c : Core} (h : c.StacksLaw) (x : Sub) : (c.setStack x ⟨.attached, none⟩).StacksLaw := by
  obtain ⟨w, hnothing, hbus⟩ := (unattachedLaw_iff c).mp h
  have hmore : ∀ y, c.attached y = true → (c.setStack x ⟨.attached, none⟩).attached y = true := fun y hy => by
    rw [Core.attached, Core.setStack, Pair.get_set]
    split
    · rfl
    · exact hy
  refine (unattachedLaw_iff _).mpr ⟨w.congr rfl rfl rfl, fun y hy => hnothing y ?_, fun t ht y hy =>
    (hbus t ht y hy).imp_left (hmore y)⟩
  exact Bool.eq_false_iff.mpr fun ha => by
    rw [hmore y ha] at hy
    cases hy

theorem applyPolicy_stacksLaw {e : Env} {c : Core} (h : c.StacksLaw) (p : Policy) :
    (applyPolicy e.count e.policy p c).StacksLaw := by
  have w := ((unattachedLaw_iff c).mp h).1
  obtain ⟨htla, hrcc, -, -, hcsc, -⟩ := applyPolicy_rest e.count e.policy p c
  have hcredit : Narrower c (creditPolicy e.count e.policy p c) :=
    (creditPolicy_goes (g := Claims.worksOnly) e e.count e.policy p (le_refl _) c).narrower (sound_works w) trivial
  have hatt := applyPolicy_attached e.count e.policy p c
  obtain ⟨q, hq⟩ := applyPolicy_frame e.count e.policy p c
  have hmonitors : Narrower (creditPolicy e.count e.policy p c) (applyPolicy e.count e.policy p c) := by
    refine narrower_of_stacks (fun x hx => ?_) (by rw [hq]) (by rw [hq]) (by rw [hq]) (by rw [hq])
    rw [hatt] at hx
    rw [Core.attached, (creditPolicy_rest ..).1]
    exact hx
  exact stacksLaw_of_narrower h (w.congr htla (by rw [hrcc]) (by rw [hrcc])) (hcredit.trans hmonitors) fun x hx =>
    .inl ((hatt x).trans hx)

/-! ### The reset (R216) -/

theorem bothReset_stacksLaw {e : Env} {c : Core} (h : c.StacksLaw) : (bothReset e c).StacksLaw := by
  have hone : ∀ x c, Core.StacksLaw c → (resetStack e x c).StacksLaw := fun x c h => by
    unfold resetStack
    split
    · exact teardown_stacksLaw h x (by decide)
    · rename_i hx
      exact detach_stacksLaw h (Bool.eq_false_iff.mpr hx)
  have hawake : (c.setSleep .awake).StacksLaw := by
    obtain ⟨w, hrest⟩ := (unattachedLaw_iff c).mp h
    exact (unattachedLaw_iff _).mpr ⟨w.congr rfl rfl rfl, hrest⟩
  rw [bothReset]
  exact hone .B _ (hone .A _ hawake)

theorem resetBlocks_stacksLaw {e : Env} {c : Core} (h : c.StacksLaw) : (resetBlocks e c).StacksLaw := by
  obtain ⟨w, hnothing, hbus⟩ := (unattachedLaw_iff _).mp (bothReset_stacksLaw (e := e) h)
  have hdetached : ∀ x, (bothReset e c).attached x = false := fun x => by
    rw [Core.attached, bothReset_stacks]
    rfl
  obtain ⟨htla, hsmg, -, hcsc, -, -, hview, hprep, hbridges, -⟩ := resetBlocks_equations e c _ _ rfl rfl
  obtain ⟨f, hf, -, -, -, -, -, hrcc, -⟩ := resetBlocks_records e c
  refine (unattachedLaw_iff _).mpr ⟨w.congr htla hprep hview, fun x _ => ?_, fun t ht x hx => .inr ?_⟩
  · obtain ⟨h1, h2, h3, h4, h5, h6, h7⟩ := hnothing x (hdetached x)
    refine ⟨by rw [htla]; exact h1, by rw [hsmg]; exact h2, by rw [Core.queue, hsmg]; exact h3,
      by rw [Core.bridge, hbridges]; exact h4, resetBlocks_own e c h5, by rw [hcsc]; exact h6, by rw [hcsc]; exact h7⟩
  · rw [hrcc] at ht
    obtain ⟨u, hu, rfl⟩ := Option.map_eq_some_iff.mp ht
    obtain ⟨v, hv, rfl⟩ := Option.map_eq_some_iff.mp hu
    rw [(hf _).2.1] at hx
    rw [(hf _).2.2]
    refine (hbus v hv x hx).resolve_left ?_
    rw [hdetached]
    exact nofun

/-! ### The law (R31, R33, R110, R131, R132) -/

theorem goes_stacksLaw {e : Env} {c d : Core} (h : c.StacksLaw) (hgo : ∀ g : Claims, ¬ g.calm → (g.works → c.BusOwned) →
    Goes g e c d) : d.StacksLaw := by
  have w := ((unattachedLaw_iff c).mp h).1
  have hworks := hgo Claims.worksOnly id fun _ => busOwned_of_law h
  exact stacksLaw_of_narrower h ((hworks.sound (sound_works w)).works trivial) (hworks.narrower (sound_works w) trivial)
    fun x hx => .inl (((hgo Claims.nothing id False.elim).attached x).trans hx)

theorem stacks_kept : KeptByMoves fun _ c => c.StacksLaw := by
  intro s t hm h
  cases hm with
  | run c hc => exact goes_stacksLaw h hc
  | restart x u hx =>
    have w := ((unattachedLaw_iff _).mp h).1
    exact stacksLaw_of_narrower h (w.congr rfl rfl rfl)
      (narrower_of_stacks (fun y hy => (attached_setMonitor ..).symm.trans hy) rfl rfl rfl rfl)
      fun y hy => .inl ((attached_setMonitor ..).trans hy)
  | teardown x left hl => exact teardown_stacksLaw h x hl
  | attach x _ _ => exact attach_stacksLaw h x
  | detach x hx => exact detach_stacksLaw h hx
  | policy p _ => exact applyPolicy_stacksLaw h p
  | reset => exact resetBlocks_stacksLaw h
  | handsOver i l _ _ _ _ =>
    obtain ⟨w, hnothing, hbus⟩ := (unattachedLaw_iff _).mp h
    refine (unattachedLaw_iff _).mpr ⟨w.congr rfl rfl rfl, fun x hx => ?_, hbus⟩
    obtain ⟨h1, h2, h3, h4, -, h6, h7⟩ := hnothing x hx
    refine ⟨h1, h2, h3, h4, fun m hm => ?_, h6, h7⟩
    obtain ⟨k, -, rfl⟩ := List.mem_map.mp hm
    cases x <;> rfl
  | fresh =>
    have hreset : State.reset.core.TableLaw ∧ State.reset.core.UnattachedLaw := ⟨by decide, by decide⟩
    exact hreset
  | _ => exact h

/-- Settles O10: no move gives anything to a stack that is not ATTACHED, and a teardown leaves it nothing. -/
theorem stepKeepsUnattachedLaw : Obligations.StepKeepsUnattachedLaw := by
  unfold Obligations.StepKeepsUnattachedLaw
  exact fun s t ht hu hstep => (stacks_kept.step ⟨ht, hu⟩ hstep).2

end Sys2Proof.Machine

/-! PROOFS. What every step keeps, continued: the law of the live table. -/

namespace Sys2Proof.Machine

/-- The laws of the stacks and of the live table, and that no stack is ATTACHED before the load has ended (R110, R128, R211). -/
structure LiveStacks (e : Env) (c : Core) : Prop where
  owners : c.StacksLaw
  live : c.Live e
  loaded : e.load.phase ≠ .ended → ∀ x, c.attached x = false

theorem liveStacks_iff (s : State) : LiveStacks s.env s.core ↔ s.core.StacksLaw ∧ s.LiveLaw := by
  constructor
  · rintro ⟨hs, ⟨h1, h2, h3, h4, h5, h6⟩, hl⟩
    exact ⟨hs, h1, h2, h3, h4 .A, h4 .B, h5, h6, fun h => ⟨hl h .A, hl h .B⟩⟩
  · rintro ⟨hs, h1, h2, h3, hA, hB, h5, h6, hl⟩
    exact ⟨hs, ⟨h1, h2, h3, fun x => by cases x <;> assumption, h5, h6⟩, fun h x => by
      cases x
      · exact (hl h).1
      · exact (hl h).2⟩

def Claims.liveOnly : Claims := ⟨True, True, False, True, False, fun _ => trivial, fun _ => trivial⟩

theorem sound_live {e : Env} {c : Core} (h : c.StacksLaw) (hl : c.Live e) : Sound Claims.liveOnly e c :=
  ⟨fun _ => h.1, fun _ => ((unattachedLaw_iff c).mp h).1, False.elim, fun _ => hl⟩

/-- The law of the live table looks at the environment for the devices that are present alone. -/
theorem Core.Live.image {e e' : Env} {c : Core} (h : c.Live e) (hi : e'.image = e.image) : c.Live e' := by
  have hhas : ∀ d, e'.has d = e.has d := fun d => by simp only [Env.has, hi]
  obtain ⟨h1, h2, h3, h4, h5, h6⟩ := h
  have hstaged : ∀ ws, stagedPresent e ws → stagedPresent e' ws := fun ws hw w hm => (hhas _).trans (hw w hm)
  exact ⟨h1, h2, h3, h4, fun p hp => ⟨hstaged _ (h5 p hp).1, (h5 p hp).2⟩, fun r hr => hstaged _ (h6 r hr)⟩

/-- Where nothing is held and no live value is known, the law asks only that what is in flight and what is to be replayed goes to
devices that are ON. -/
theorem live_of_nothing {e : Env} {c : Core} (hheld : ∀ x, (c.bridge x).queue = []) (htable : c.tla.table = [])
    (hprep : c.rcc.prep = none) (hlive : ∀ m ∈ c.rcc.shadow, m.live = none)
    (hbus : ∀ t ∈ c.rcc.bus, t.void = true ∨ t.deviceLeft = true ∨ c.isOn t.device = true)
    (hreplay : ∀ p ∈ c.rcc.replay, c.isOn p.device = true) : c.Live e := by
  refine ⟨fun m hm h => ?_, hbus, hreplay, fun x => ?_, fun p hp => ?_, fun r hr => ?_⟩
  · rw [hlive m hm] at h
    cases h
  · rw [seriesLaw, hheld]
    exact ⟨Nat.zero_le _, fun t ht => by cases ht⟩
  · rw [hprep] at hp
    cases hp
  · rw [htable] at hr
    cases hr

/-- Without an ATTACHED stack there is no record, no queued transaction and no preparation. -/
theorem nothing_of_unattached {c : Core} (h : c.StacksLaw) (ha : ∀ x, c.attached x = false) :
    (∀ x, (c.bridge x).queue = []) ∧ c.tla.table = [] ∧ c.rcc.prep = none := by
  obtain ⟨w, hnothing, -⟩ := (unattachedLaw_iff c).mp h
  have htable : c.tla.table = [] := List.eq_nil_iff_forall_not_mem.mpr fun r hr => (hnothing r.owner (ha _)).1 r hr rfl
  exact ⟨fun x => (hnothing x (ha x)).2.2.2.1, htable, (w.idle htable).2.1⟩

theorem resetBlocks_live {e : Env} {c : Core} (h : c.StacksLaw) : (resetBlocks e c).Live e := by
  obtain ⟨hstacks, -⟩ := resetBlocks_ports e c
  obtain ⟨hbridge, htable, hprep⟩ := nothing_of_unattached (resetBlocks_stacksLaw (e := e) h) fun x => by
    rw [Core.attached, hstacks]
    rfl
  obtain ⟨-, hvoid, hshadow, hreplay, -⟩ := resetBlocks_values e c
  refine live_of_nothing hbridge htable hprep (fun m hm => (hshadow m hm).1) (fun t ht => .inl (hvoid t ht)) ?_
  rw [hreplay]
  exact fun p hp => nomatch hp

theorem live_kept : KeptByMoves LiveStacks := by
  intro s t hm h
  have hstacks : t.core.StacksLaw := stacks_kept s t hm h.owners
  obtain ⟨hs, hl, hloaded⟩ := h
  cases hm with
  | env e he => exact ⟨hstacks, hl.image he.image, by rw [he.load]; exact hloaded⟩
  | run c hc =>
    have hsound := (hc Claims.liveOnly id fun _ => busOwned_of_law hs).sound (sound_live hs hl)
    exact ⟨hstacks, hsound.live trivial, fun hp x => ((hc Claims.nothing id False.elim).attached x).trans (hloaded hp x)⟩
  | restart x u hx =>
    exact ⟨hstacks, hl.congr rfl rfl hl.staged, fun hp y => (attached_setMonitor ..).trans (hloaded hp y)⟩
  | teardown x left hleft =>
    refine ⟨hstacks, (teardown_sound (g := Claims.liveOnly) id (sound_live hs hl) x left).live trivial, fun hp y => ?_⟩
    have hn := teardown_narrower (e := s.env) hleft ((unattachedLaw_iff _).mp hs).1 x
    exact Bool.eq_false_iff.mpr fun ha => by
      have := hn.attached y ha
      rw [hloaded hp y] at this
      cases this
  | attach x _ hended => exact ⟨hstacks, hl.congr rfl rfl hl.staged, fun hp => absurd hended hp⟩
  | detach x hx =>
    refine ⟨hstacks, hl.congr rfl rfl hl.staged, fun hp y => ?_⟩
    exact Bool.eq_false_iff.mpr fun ha => by
      have := (detach_narrower s.core x (left := .detached) (by decide)).attached y ha
      rw [hloaded hp y] at this
      cases this
  | policy p _ =>
    obtain ⟨htla, hrcc, -, hpsc, -⟩ := applyPolicy_rest s.env.count s.env.policy p s.core
    exact ⟨hstacks, (hl.congr hrcc (by rw [hpsc]) (by rw [htla]; exact hl.staged)).image rfl,
      fun hp x => (applyPolicy_attached ..).trans (hloaded hp x)⟩
  | reset =>
    obtain ⟨hdetached, -⟩ := resetBlocks_ports s.env s.core
    refine ⟨hstacks, resetBlocks_live hs, fun _ x => ?_⟩
    change decide ((((resetBlocks s.env s.core).ssv).get x).state = .attached) = false
    rw [hdetached]
    rfl
  | loading l hreading hl' _ =>
    exact ⟨hstacks, hl.image rfl, fun _ => hloaded (by rw [hreading]; exact nofun)⟩
  | handsOver i l hreading _ _ _ =>
    have hun := hloaded (by rw [hreading]; exact nofun)
    obtain ⟨hbridge, htable, hprep⟩ := nothing_of_unattached hs hun
    refine ⟨hstacks, live_of_nothing hbridge htable hprep (fun m hm => ?_) hl.bus hl.replay, fun _ => hun⟩
    obtain ⟨k, -, rfl⟩ := List.mem_map.mp hm
    rfl
  | rises hnot => exact ⟨hstacks, hl.image rfl, fun _ => hloaded (by rw [hnot]; exact nofun)⟩
  | fresh =>
    have hreset : State.reset.LiveLaw := by decide
    obtain ⟨-, hl', hloaded'⟩ := (liveStacks_iff State.reset).mpr ⟨hstacks, hreset⟩
    exact ⟨hstacks, hl'.image rfl, fun _ => hloaded' nofun⟩
  | links l => exact ⟨hstacks, hl, hloaded⟩

/-- Settles O11: every move keeps the law of the live table together with the law of the stacks. -/
theorem stepKeepsLiveLaw : Obligations.StepKeepsLiveLaw := by
  unfold Obligations.StepKeepsLiveLaw
  exact fun s t ht hu hl hstep =>
    ((liveStacks_iff t).mp (live_kept.step ((liveStacks_iff s).mpr ⟨⟨ht, hu⟩, hl⟩) hstep)).2

end Sys2Proof.Machine
